-- ==== Sys2Proof/Word.lean ====
section
/-! DEFINITION. The word types of the Orjal 740 and their plainest arithmetic. -/

namespace Sys2Proof

/-- One byte of a frame (R19: multi-byte fields are sent most significant byte first). -/
abbrev Byte := BitVec 8

/-- A cycle number, 0..65,535, which wraps; differences are taken modulo 65,536 (section 1.2). -/
abbrev CycleNo := BitVec 16

/-- One of the ten axes (manual section 5.4). -/
abbrev Axis := Fin 10

/-- A set over `n` numbered members, one flag for each member. -/
abbrev FlagSet (n : Nat) := Vector Bool n

/-- The value `x` brought into `lo..hi`. -/
def clampInt (lo hi x : Int) : Int := if x < lo then lo else if hi < x then hi else x

/-- The value `x` clamped to the signed 32-bit range. -/
def clampI32 (x : Int) : Int := clampInt (-2147483648) 2147483647 x

/-- A saturating increment: the count stops at `cap` (manual section 5.3). -/
def satInc (cap n : Nat) : Nat := if n < cap then n + 1 else cap

/-- The empty set. -/
def FlagSet.empty (n : Nat) : FlagSet n := Vector.replicate n false

/-- The set with member `i` added. -/
def FlagSet.insert {n : Nat} (s : FlagSet n) (i : Fin n) : FlagSet n := s.set i.val true

/-- The set with member `i` removed. -/
def FlagSet.erase {n : Nat} (s : FlagSet n) (i : Fin n) : FlagSet n := s.set i.val false

/-- The members in ascending number. -/
def FlagSet.members {n : Nat} (s : FlagSet n) : List (Fin n) :=
  (List.finRange n).filter fun i => s[i]

/-- The number of members. -/
def FlagSet.size {n : Nat} (s : FlagSet n) : Nat := s.members.length

/-- Whether the set has no member. -/
def FlagSet.isEmpty {n : Nat} (s : FlagSet n) : Bool := s.members.isEmpty

end Sys2Proof
end

