-- ==== Sys2Proof/Syntax.lean ====
section
/-! DEFINITION. The commands of the Orjal 740: one constructor for each row of spec/opcode_table.json. -/

namespace Sys2Proof

/-- The two spine ports: U faces the control station, D faces the drives. -/
inductive Port
  | u
  | d
  deriving DecidableEq, Repr

/-- Why a frame is judged bad (R3). -/
inductive BadReason
  | check
  | kind
  | length
  deriving DecidableEq, Repr

/-- The blocks that take a CYC arrival, in the order of the table of R8. -/
inductive CycBlock
  | stopSupervisor
  | cueMatcher
  | poseUnit
  | takeRecorder
  | takePlayer
  deriving DecidableEq, Repr

/-- The blocks that take an FBK, in the order of the table of R10. -/
inductive FbkBlock
  | poseUnit
  | stopSupervisor
  | takePlayer
  | lensUnit
  deriving DecidableEq, Repr

/-- The order in which the blocks take one FBK, and whether the Envelope Unit takes a pose that this FBK completes
before the Lens Unit does. The manual leaves both open (R10, R53); the command carries the choice. -/
structure FbkOrder where
  blocks : List FbkBlock
  envelopeFirst : Bool
  deriving DecidableEq, Repr

/-- The two channels of a crew stop line (R96). -/
inductive Contact
  | a
  | b
  deriving DecidableEq, Repr

/-- The state of one channel: open demands a stop (R96). -/
inductive Channel
  | opened
  | closed
  deriving DecidableEq, Repr

/-- The two beacon lamps. -/
inductive LampName
  | amber
  | red
  deriving DecidableEq, Repr

/-- The commands. A frame command carries the bytes that its port's receive decoder takes (R1), from the kind byte to
the second check byte. A CYC arrival also carries the millisecond reading at which it arrives and the order in which
the blocks of R8 take it. The rows of the requests have no operand: each is the Management Unit's execution of the
request that stands at the head of the request queue (R184), and the request holds the tag and the body. -/
inductive Instr
  /-- COLD_RESET (R124). Power-on or the reset input puts every block into its cold-reset values, with the stop state CUT and the present set formed from each owner's judgement. -/
  | coldReset
  /-- WARM_RESET (R190). When the RESET reply has been transmitted, every block takes its warm-reset values in one event, ending in CUT with MGMT_CUT present. -/
  | warmReset
  /-- CYC_RECEIVED (R6). A good CYC frame received on U updates the cycle record and is dispatched to the cycle-paced blocks and forwarded on D unless the stop state is PARKED. -/
  | cycReceived (now : Nat) (order : List CycBlock) (bytes : List Byte)
  /-- GESTURE_COMPLETE (R119). The CONFIRM count reaching the confirm count completes the gesture, returns the detector to WAIT_RELEASE and starts the re-arm check. -/
  | gestureComplete
  /-- PULSE_MAXIMUM_EXCEEDED (R119). A PULSE count exceeding the pulse maximum returns the gesture detector to WAIT_RELEASE. -/
  | pulseMaximumExceeded
  /-- GAP_MAXIMUM_EXCEEDED (R119). A GAP count exceeding the gap maximum returns the gesture detector to ARMED. -/
  | gapMaximumExceeded
  /-- SET_RECEIVED (R9). A good SET received on U is routed to the Command Gate in COUNTS, to the Lens Unit in USER for lens axes, or to the gate as refused. -/
  | setReceived (bytes : List Byte)
  /-- FBK_RECEIVED (R10). A good FBK received on D is taken by the Pose Unit, Stop Supervisor, Take Player and Lens Unit and is then forwarded to U with the part-filled fields. -/
  | fbkReceived (order : FbkOrder) (bytes : List Byte)
  /-- MGT_RECEIVED (R12). A good MGT frame on U is offered to the request queue when addressed to 62, or forwarded to D or dropped with notice 15 according to the stop state. -/
  | mgtReceived (bytes : List Byte)
  /-- RPY_RECEIVED (R13). A good RPY frame from a drive is offered unchanged to the U forward queue. -/
  | rpyReceived (bytes : List Byte)
  /-- BAD_FRAME (R3). A frame judged bad by CHECK, KIND or LENGTH is dropped, counted by the Link Supervisor and, on U, resets every cue slot's progress. -/
  | badFrame (port : Port) (bytes : List Byte) (cut : Bool)
  /-- EIGHT_GOOD (R25). The good run reaching 8 in DOWN puts the port in ACQUIRING and starts the link-up timer. -/
  | eightGood (port : Port)
  /-- BAD_RUN (R27). The bad run reaching 4 in UP or DEGRADED takes the port to DOWN. -/
  | badRun (port : Port) (reason : BadReason)
  /-- WINDOW (R29). The 1,024th judged frame ends the health window, which is judged against the high-error threshold to degrade or restore the port. -/
  | window (port : Port) (judged : Option BadReason)
  /-- SIGNAL_LOST (R27). Loss of signal on a port discards a partial frame, sets signal present to no and takes the port to DOWN, or stops the test checker in TEST. -/
  | signalLost (port : Port)
  /-- SIGNAL_REGAINED (R25). Signal regained on a port sets signal present to yes and, in TEST, restarts the checker's fifteen-bit collection. -/
  | signalRegained (port : Port)
  /-- LINK_UP_TIMER_EXPIRY (R26). Expiry of the link-up timer in ACQUIRING puts the port in UP with a fresh window. -/
  | linkUpTimerExpiry (port : Port)
  /-- DEGRADE_HOLD_TIMER_EXPIRY (R29). Expiry of the degrade hold timer sets hold passed to yes. -/
  | degradeHoldTimerExpiry (port : Port)
  /-- U_TRANSMIT_COMPLETE (R15). Completion of a frame on U opens a transmit opportunity at which the arbiter takes the express notice, a forwarded frame, a reply or a chosen notice. -/
  | uTransmitComplete
  /-- D_TRANSMIT_COMPLETE (R17). Completion of a frame on D opens a transmit opportunity at which the arbiter takes a BRK, then a DEC, then the D queue head, discarding SETs the stop state forbids. -/
  | dTransmitComplete
  /-- SYNC_TIMER_EXPIRY (R115). Expiry of the sync timer makes SYNC_LOST present, originates the first substitute CYC and starts the substitute timer. -/
  | syncTimerExpiry (order : List CycBlock)
  /-- SUBSTITUTE_TIMER_EXPIRY (R116). Each expiry of the substitute timer originates one substitute CYC and restarts the timer with the measured interval. -/
  | substituteTimerExpiry (order : List CycBlock)
  /-- RAMP_TIMEOUT (R109). Expiry of the ramp timer in RAMP makes RAMP_TIMEOUT occur and takes the stop state to CUT. -/
  | rampTimeout
  /-- CREW_STOP_CHANNEL_CHANGE (R97). A change of one channel of a crew stop line derives the line state, runs the discrepancy window timer and sets CREW_STOPn. -/
  | crewStopChannelChange (line : Fin 4) (contact : Contact) (level : Channel)
  /-- DISCREPANCY_WINDOW_EXPIRY (R98). Expiry of a line's discrepancy window latches AWAIT_STOP, makes LINE_FAULTn present and raises notice 4. -/
  | discrepancyWindowExpiry (line : Fin 4)
  /-- PRESENCE_INPUT_CHANGE (R68). A change of a crew presence input takes effect only at the next evaluation's sample. -/
  | presenceInputChange (input : Fin 8) (asserted : Bool)
  /-- SERVICE_KEY_CHANGE (R188). A change of the service key input alone does not change the configuration lock. -/
  | serviceKeyChange (asserted : Bool)
  /-- LAMP_PATTERN_PERIOD (R121). The wall-time period of a flashing beacon pattern turns the lamp on and off. -/
  | lampPatternPeriod (lamp : LampName)
  /-- ERASE_PAGE_RETURN (R147). During an accepted ERASE, the head page of the take's chain returns to the tail of the free page list, and the last return empties the take and queues the reply. -/
  | erasePageReturn
  /-- UNKNOWN_REQUEST (R185). A request whose code is not in the catalogue is answered UNKNOWN and changes nothing. -/
  | unknownRequest
  /-- WRITE_READ_ONLY_SELECTOR (R186). A WRITE naming a read-only or unknown selector is answered UNKNOWN and changes nothing. -/
  | writeReadOnlySelector
  /-- READ_AXIS (R60). READ of AXIS k returns axis record k. -/
  | readAxis
  /-- READ_GEOMETRY (R60). READ of GEOMETRY returns the geometry record. -/
  | readGeometry
  /-- READ_ZONE (R63). READ of ZONE z returns zone record z. -/
  | readZone
  /-- READ_STOP_CONFIG (R122). READ of STOP_CONFIG returns the stop configuration record. -/
  | readStopConfig
  /-- READ_GESTURE (R118). READ of GESTURE returns the gesture record. -/
  | readGesture
  /-- READ_LAMP_MAP (R121). READ of LAMP_MAP returns the lamp map. -/
  | readLampMap
  /-- READ_CURVE (R128). READ of CURVE k returns the curve record of lens axis k. -/
  | readCurve
  /-- READ_SUBJECT (R136). READ of SUBJECT k returns subject preset k. -/
  | readSubject
  /-- READ_CUE_SLOT (R177). READ of CUE_SLOT s returns slot s with its progress. -/
  | readCueSlot
  /-- READ_NOTICE_CONFIG (R186). READ of NOTICE_CONFIG returns the notice configuration record. -/
  | readNoticeConfig
  /-- READ_THRESHOLDS (R35). READ of THRESHOLDS returns the seven counter thresholds. -/
  | readThresholds
  /-- READ_POSE (R60). READ of POSE returns the pose record captured whole. -/
  | readPose
  /-- READ_EVALUATION (R77). READ of EVALUATION returns the evaluation record and, with the clear option, clears the skipped-pose count. -/
  | readEvaluation
  /-- READ_SPEED_SCALE (R77). READ of SPEED_SCALE returns the three components and the effective scale. -/
  | readSpeedScale
  /-- READ_STOP_STATUS (R123). READ of STOP_STATUS returns the stop supervision state captured whole. -/
  | readStopStatus
  /-- READ_PLAYER (R176). READ of PLAYER returns the player record with the history ring of the named axis. -/
  | readPlayer
  /-- READ_RECORDER (R153). READ of RECORDER returns the recorder record. -/
  | readRecorder
  /-- READ_TAKE (R144). READ of TAKE t returns the take record with its chain length and ends. -/
  | readTake
  /-- READ_FREE_COUNT (R143). READ of FREE_COUNT returns the length, head and tail of the free page list. -/
  | readFreeCount
  /-- READ_PORT (R34). READ of PORT U or D returns the port record, updates lock-held and, with the clear option, clears the port counters. -/
  | readPort
  /-- READ_LENS_STATUS (R135). READ of LENS_STATUS returns lens status and the follow record and clears every end-reached flag. -/
  | readLensStatus
  /-- READ_NOTICES (R193). READ of NOTICES returns the entry and eligibility of one notice source. -/
  | readNotices
  /-- READ_GATE_COUNTERS (R94). READ of GATE_COUNTERS returns the gate counts and last-forwarded entries and, with the clear option, clears the counts. -/
  | readGateCounters
  /-- READ_MGMT_COUNTERS (R187). READ of MGMT_COUNTERS returns the management record and, with the clear option, clears the drop count. -/
  | readMgmtCounters
  /-- WRITE_AXIS (R41). WRITE of AXIS k replaces or invalidates axis record k after the lock, stop state, mask and range tests, and invalidates its last-forwarded entry. -/
  | writeAxis
  /-- WRITE_GEOMETRY (R44). WRITE of GEOMETRY replaces or invalidates the geometry record after the lock, stop state and range tests. -/
  | writeGeometry
  /-- WRITE_ZONE (R62). WRITE of ZONE z replaces zone record z after the lock and range tests, acting from the next evaluation. -/
  | writeZone
  /-- WRITE_STOP_CONFIG (R122). WRITE of STOP_CONFIG replaces the stop and link timings after the lock and range tests. -/
  | writeStopConfig
  /-- WRITE_GESTURE (R118). WRITE of GESTURE replaces the gesture record and resets the detector. -/
  | writeGesture
  /-- WRITE_LAMP_MAP (R121). WRITE of LAMP_MAP replaces the lamp map and applies the new patterns at once. -/
  | writeLampMap
  /-- WRITE_SUBJECT (R136). WRITE of SUBJECT k replaces preset k and, if it is selected for follow, updates the follow record and clamps the trim. -/
  | writeSubject
  /-- WRITE_CUE_SLOT (R178). WRITE of CUE_SLOT s disables slot s or loads a disabled slot, with progress 0. -/
  | writeCueSlot
  /-- WRITE_NOTICE_CONFIG (R194). WRITE of NOTICE_CONFIG replaces the class order, enables, express source and wake set. -/
  | writeNoticeConfig
  /-- WRITE_THRESHOLDS (R35). WRITE of THRESHOLDS replaces the counter thresholds without causing a crossing. -/
  | writeThresholds
  /-- STOP (R103). STOP(CUT) makes MGMT_CUT present, and STOP(RAMP) makes MGMT_RAMP occur. -/
  | stop
  /-- CLEAR_STOP (R103). CLEAR_STOP removes MGMT_CUT and takes CUT to HELD when no CUT-category cause remains. -/
  | clearStop
  /-- SET_SCALE (R76). SET_SCALE clamps its value to 1..16, stores it as the trim and recomputes the effective scale. -/
  | setScale
  /-- PARK (R113). PARK in HELD parks the part with drive enable low, or replies NOT_PARKED when a wake-set source is pending. -/
  | park
  /-- WAKE (R114). WAKE in PARKED takes the part to HELD, resumes CYC forwarding and raises notice 16. -/
  | wake
  /-- LOCK_CONFIG (R188). LOCK_CONFIG sets the configuration lock. -/
  | lockConfig
  /-- UNLOCK_CONFIG (R188). UNLOCK_CONFIG clears the lock when the service key is asserted, and otherwise replies LOCKED. -/
  | unlockConfig
  /-- ARM_RECORD (R154). ARM_RECORD arms the recorder with an EMPTY take and a mask, seeding the assembly buffer and recording the fingerprints. -/
  | armRecord
  /-- STOP_RECORD (R159). STOP_RECORD writes the open sample and ends the recording NORMAL, or ends an arming. -/
  | stopRecord
  /-- ERASE (R147). ERASE of an unlocked, unreferenced CLOSED take makes it ERASING and begins returning its pages. -/
  | erase
  /-- LOCK_TAKE (R148). LOCK_TAKE locks a RECORDING or CLOSED take. -/
  | lockTake
  /-- UNLOCK_TAKE (R148). UNLOCK_TAKE clears a take's locked field. -/
  | unlockTake
  /-- LOAD_BEGIN (R149). LOAD_BEGIN makes an EMPTY take LOADING with the given mask, fingerprints and start timecode. -/
  | loadBegin
  /-- LOAD_PAGE (R150). LOAD_PAGE allocates a page to a LOADING take and writes the given samples, or replies NO_SPACE. -/
  | loadPage
  /-- LOAD_END (R151). LOAD_END closes a LOADING take with end reason LOADED. -/
  | loadEnd
  /-- READ_PAGE (R146). READ_PAGE returns one page of a CLOSED take with its index and sample count. -/
  | readPage
  /-- CUE (R163). CUE of a CLOSED take with matching fingerprints references it, sets the mask and enters CUEING. -/
  | cue
  /-- GO (R167). GO in READY sets GO pending so that the next pacing arrival starts play. -/
  | go
  /-- RESUME (R171). RESUME of a SUSPENDED player in RUN sets the target sample and re-enters CUEING. -/
  | resume
  /-- RELEASE (R172). RELEASE of a READY, SUSPENDED or HOLDING player returns it to IDLE, empties the mask and frees the take. -/
  | release
  /-- CURVE_LOAD (R127). CURVE_LOAD validates and stores a lens curve and computes its fingerprint. -/
  | curveLoad
  /-- FOLLOW_ON (R138). FOLLOW_ON selects a subject preset and turns focus follow on with the trim reset. -/
  | followOn
  /-- FOLLOW_OFF (R139). FOLLOW_OFF turns focus follow off and resets the trim. -/
  | followOff
  /-- CLEAR_NOTICE (R192). CLEAR_NOTICE clears the entries of the named notice sources. -/
  | clearNotice
  /-- LINK_TEST_START (R37). LINK_TEST_START in CUT puts the D port in TEST, clears the test errors and starts the pattern and checker. -/
  | linkTestStart
  /-- LINK_TEST_STOP (R39). LINK_TEST_STOP ends the test, puts the D port in DOWN and resumes frames on D. -/
  | linkTestStop
  /-- RESET (R189). RESET queues its OK reply and stops the Management Unit starting requests until the warm reset takes effect. -/
  | reset
  /-- LINK_TEST_BIT_RECEIVED (R38). While the D port is in TEST, each bit received on D is collected by the checker or compared with its prediction, and each mismatch increments the test errors counter. -/
  | linkTestBitReceived (bit : Bool)
  deriving DecidableEq, Repr

end Sys2Proof
end

