-- ==== Sys2Proof/Decode.lean ====
section
/-! DEFINITION. The decoding of a table word. -/

namespace Sys2Proof

/-- The command that a word spells by the table's bits. The table gives bits for none of its rows: a command is an event
at the part and no word, so there is none. -/
def decodeTableWord (_nbits _w : Nat) : Option Instr := none

end Sys2Proof
end

