-- ==== Sys2Proof/Config.lean ====
section
/-! DEFINITION. The values the manual leaves open, as constants without a body: no proof can see what they are. -/

namespace Sys2Proof

/-- The order in which the five blocks of R8 take the arrival of the substitute CYC that the part's own clock brings
about at a reading of the millisecond timebase. R8, R168 and R182 leave the order open, so it is a free value, a fresh
one for each reading (DESIGN CHOICE: assumption log 3). -/
opaque Config.arrivalOrder : Nat → List CycBlock

end Sys2Proof
end

