-- ==== Sys2Proof/Machine/Wire.lean ====
section
/-! DEFINITION. Bytes, the frame check, the frame envelope and the judgement of a received frame (R1 to R3, R19 to
R22). -/

namespace Sys2Proof.Machine

/-- The low `n` bytes of a number, most significant byte first (R19). -/
def natBE : Nat → Nat → List Byte
  | 0, _ => []
  | n + 1, x => BitVec.ofNat 8 (x >>> (8 * n)) :: natBE n x

/-- A signed number in `n` bytes, two's complement (R19). -/
def intBE (n : Nat) (x : Int) : List Byte := natBE n (x % (2 : Int) ^ (8 * n)).toNat

/-- The number that bytes spell, most significant byte first (R19). -/
def beNat (bs : List Byte) : Nat := bs.foldl (fun acc b => acc * 256 + b.toNat) 0

/-- The signed number that bytes spell, two's complement (R19). -/
def beInt (bs : List Byte) : Int :=
  let n := beNat bs
  let m := 256 ^ bs.length
  if 2 * n < m then (n : Int) else (n : Int) - (m : Int)

/-- One bit of the division by x^16 + x^12 + x^5 + 1 (R2). -/
def crcBit (r : BitVec 16) : BitVec 16 :=
  if r.getLsbD 15 then (r <<< 1) ^^^ 0x1021#16 else r <<< 1

/-- One byte taken into the remainder, not reflected (R2). -/
def crcByte (r : BitVec 16) (b : Byte) : BitVec 16 :=
  crcBit (crcBit (crcBit (crcBit (crcBit (crcBit (crcBit (crcBit (r ^^^ (b.setWidth 16 <<< 8)))))))))

/-- The frame check of a sequence of bytes: initial remainder FFFFh, no final inversion (R2). -/
def crc16 (bs : List Byte) : BitVec 16 := bs.foldl crcByte 0xFFFF#16

/-- The eight frame kinds (R20). -/
inductive FrameKind
  | cyc
  | set
  | fbk
  | dec
  | brk
  | mgt
  | rpy
  | note
  deriving DecidableEq, Repr

/-- The kind codes (R20). -/
def FrameKind.code : FrameKind → Byte
  | .cyc => 0x01#8
  | .set => 0x02#8
  | .fbk => 0x03#8
  | .dec => 0x04#8
  | .brk => 0x05#8
  | .mgt => 0x06#8
  | .rpy => 0x07#8
  | .note => 0x08#8

/-- The kind that a code names, if it names one (R20). -/
def FrameKind.ofCode (c : Byte) : Option FrameKind :=
  if c = 0x01#8 then some .cyc
  else if c = 0x02#8 then some .set
  else if c = 0x03#8 then some .fbk
  else if c = 0x04#8 then some .dec
  else if c = 0x05#8 then some .brk
  else if c = 0x06#8 then some .mgt
  else if c = 0x07#8 then some .rpy
  else if c = 0x08#8 then some .note
  else none

/-- The payload lengths that agree with each kind (R20). -/
def FrameKind.lengthAgrees (k : FrameKind) (n : Nat) : Bool :=
  match k with
  | .cyc => n == 12
  | .set => n == 7
  | .fbk => n == 18
  | .dec => n == 2
  | .brk => n == 3
  | .mgt => decide (2 ≤ n ∧ n ≤ 274)
  | .rpy => decide (2 ≤ n ∧ n ≤ 274)
  | .note => decide (7 ≤ n ∧ n ≤ 39)

/-- The kinds that arrive on a port (R3): on U CYC, SET and MGT, on D FBK and RPY. -/
def FrameKind.arrivesOn (k : FrameKind) (p : Port) : Bool :=
  match p, k with
  | .u, .cyc => true
  | .u, .set => true
  | .u, .mgt => true
  | .d, .fbk => true
  | .d, .rpy => true
  | _, _ => false

/-- A frame: its kind, its address and its payload. The payload length and the check follow from these. -/
structure Frame where
  kind : FrameKind
  address : Byte
  payload : List Byte
  deriving DecidableEq, Repr

/-- The node number of the part (manual section 2). -/
def partNode : Byte := 62#8

/-- The broadcast address (manual section 3.2). -/
def broadcast : Byte := 63#8

/-- The bytes that the check covers: kind, address, payload length and payload (R2, R20). -/
def Frame.covered (f : Frame) : List Byte :=
  f.kind.code :: f.address :: (natBE 2 f.payload.length ++ f.payload)

/-- The bytes of a frame as a transmitter sends them, after the start delimiter (R2, R20). -/
def Frame.wire (f : Frame) : List Byte := f.covered ++ natBE 2 (crc16 f.covered).toNat

/-- The outcome of judging a complete frame (R3). -/
inductive Judged
  | good (f : Frame)
  | bad (r : BadReason)
  deriving DecidableEq, Repr

/-- The judgement of a frame that has arrived complete: CHECK, then KIND, then LENGTH (R3). -/
def judge (p : Port) (bytes : List Byte) : Judged :=
  let body := bytes.take (bytes.length - 2)
  let check := bytes.drop (bytes.length - 2)
  if (crc16 body).toNat ≠ beNat check then .bad .check
  else
    match FrameKind.ofCode (body.headD 0) with
    | none => .bad .kind
    | some k =>
      if !k.arrivesOn p then .bad .kind
      else if !k.lengthAgrees (body.length - 4) then .bad .length
      else .good { kind := k, address := (body.drop 1).headD 0, payload := body.drop 4 }

/-- What the receive decoder holds of the bytes after a start delimiter (R1). -/
inductive Reception
  | incomplete
  | judged (j : Judged)
  deriving DecidableEq, Repr

/-- The receive decoder over the bytes that have followed a start delimiter (R1): a payload length above 274 makes the
frame bad with LENGTH at once, and otherwise the announced number of bytes and the two check bytes are taken and judged;
bytes beyond them wait for no frame. -/
def receive (p : Port) (bytes : List Byte) : Reception :=
  if bytes.length < 4 then .incomplete
  else
    let n := beNat ((bytes.drop 2).take 2)
    if 274 < n then .judged (.bad .length)
    else if bytes.length < 6 + n then .incomplete
    else .judged (judge p (bytes.take (6 + n)))

/-- A timecode as a CYC carries it: hours, minutes, seconds, frames, one byte each (R5, R21). -/
structure Timecode where
  hours : Byte
  minutes : Byte
  seconds : Byte
  frames : Byte
  deriving DecidableEq, Repr

/-- The timecode 00:00:00:00. -/
def Timecode.zero : Timecode := ⟨0, 0, 0, 0⟩

/-- The four bytes of a timecode (R23). -/
def Timecode.bytes (t : Timecode) : List Byte := [t.hours, t.minutes, t.seconds, t.frames]

/-- The timecode that four bytes spell. -/
def Timecode.ofBytes (bs : List Byte) : Timecode :=
  ⟨bs.getD 0 0, bs.getD 1 0, bs.getD 2 0, bs.getD 3 0⟩

/-- The fields of a good CYC as R4 takes them: a cue count above 4 is taken as 4, and only the grip and console-stop
bits of the flag byte are taken (R21). -/
structure CycFields where
  cycle : CycleNo
  timecode : Timecode
  grip : Bool
  consoleStop : Bool
  cues : List Byte
  deriving DecidableEq, Repr

/-- The fields of a CYC payload (R4, R21). -/
def cycFields (payload : List Byte) : CycFields :=
  let flags := payload.getD 6 0
  { cycle := BitVec.ofNat 16 (beNat (payload.take 2))
    timecode := Timecode.ofBytes ((payload.drop 2).take 4)
    grip := flags.getLsbD 0
    consoleStop := flags.getLsbD 1
    cues := (payload.drop 8).take (min (payload.getD 7 0).toNat 4) }

/-- The payload of a CYC (R21); the cue bytes beyond the cue count, all four of a substitute's, are sent 00h (DESIGN
CHOICE: assumption log 17). -/
def cycPayload (c : CycFields) : List Byte :=
  natBE 2 c.cycle.toNat ++ c.timecode.bytes
    ++ [BitVec.ofNat 8 ((if c.grip then 1 else 0) + (if c.consoleStop then 2 else 0)), BitVec.ofNat 8 c.cues.length]
    ++ (c.cues ++ List.replicate 4 0).take 4

/-- The drive status codes (R22). -/
inductive DriveStatus
  | ready
  | braked
  | disabled
  | fault
  deriving DecidableEq, Repr

/-- The drive status of a code; a code other than the four defined is taken as FAULT (R4). -/
def DriveStatus.ofCode (c : Byte) : DriveStatus :=
  if c = 0x00#8 then .ready else if c = 0x01#8 then .braked else if c = 0x02#8 then .disabled else .fault

/-- The code of a drive status (R22). -/
def DriveStatus.code : DriveStatus → Byte
  | .ready => 0x00#8
  | .braked => 0x01#8
  | .disabled => 0x02#8
  | .fault => 0x03#8

/-- The fields of a good FBK (R10, R21); the part-filled fields are ignored on receipt (R4). -/
structure FbkFields where
  echo : CycleNo
  position : Int
  velocity : Int
  status : DriveStatus
  statusCode : Byte
  deriving DecidableEq, Repr

/-- The fields of an FBK payload (R4, R21). -/
def fbkFields (payload : List Byte) : FbkFields :=
  { echo := BitVec.ofNat 16 (beNat (payload.take 2))
    position := beInt ((payload.drop 2).take 4)
    velocity := beInt ((payload.drop 6).take 4)
    status := DriveStatus.ofCode (payload.getD 10 0)
    statusCode := payload.getD 10 0 }

/-- The fields of a good SET (R9, R21). -/
structure SetFields where
  cycle : CycleNo
  basis : Byte
  setpoint : Int
  deriving DecidableEq, Repr

/-- The fields of a SET payload (R21). -/
def setFields (payload : List Byte) : SetFields :=
  { cycle := BitVec.ofNat 16 (beNat (payload.take 2))
    basis := payload.getD 2 0
    setpoint := beInt ((payload.drop 3).take 4) }

/-- The basis code COUNTS (R21). -/
def basisCounts : Byte := 0x00#8

/-- The basis code USER (R21). -/
def basisUser : Byte := 0x01#8

/-- A SET frame as the Command Gate composes it: addressed to the axis, basis COUNTS (R19, R90). -/
def setFrame (k : Axis) (cycle : CycleNo) (value : Int) : Frame :=
  { kind := .set, address := BitVec.ofNat 8 k.val
    payload := natBE 2 cycle.toNat ++ [basisCounts] ++ intBE 4 value }

/-- The axis that an address names, if it names one of 0 to 9. -/
def axisOf (address : Byte) : Option Axis :=
  if h : address.toNat < 10 then some ⟨address.toNat, h⟩ else none

/-- The two bytes of a set of axes: bit k set for axis k (R21, R23). -/
def axisSetBytes (s : FlagSet 10) : List Byte :=
  natBE 2 (s.members.foldl (fun acc i => acc + 2 ^ i.val) 0)

/-- A DEC frame for an axis (R21, R108). -/
def decFrame (k : Fin 7) (deceleration : Nat) : Frame :=
  { kind := .dec, address := BitVec.ofNat 8 k.val, payload := natBE 2 deceleration }

/-- The actions of a BRK frame (R21). -/
inductive BrakeAction
  | release
  | engage
  deriving DecidableEq, Repr

/-- A BRK frame for the axis set {0..6}, the only set the part orders (R21, R106, R110, R112). -/
def brkFrame (a : BrakeAction) : Frame :=
  { kind := .brk, address := broadcast
    payload := natBE 2 0x7F ++ [match a with | .release => 0x00#8 | .engage => 0x01#8] }

/-- An RPY frame of the part: tag, result, body (R21). -/
def rpyFrame (tag result : Byte) (body : List Byte) : Frame :=
  { kind := .rpy, address := partNode, payload := tag :: result :: body }

end Sys2Proof.Machine
end

