-- ==== Sys2Proof/Machine/State.lean ====
section
/-! DEFINITION. The state of the Orjal 740 as plain data, block by block, and the state after reset. -/

namespace Sys2Proof.Machine

/-- Reasons a step could stop with a fault. There is none: no rule of the manual stops the part, so the type has no
constructor and no command raises one (safe). -/
inductive Fault
  deriving DecidableEq, Repr

/-- Reasons a command could be refused. -/
inductive Refusal
  /-- A command without a meaning in this model. No arm of `exec` answers it: every row has its meaning (safe). -/
  | notModelled (mnemonic : String)
  deriving DecidableEq, Repr

/-! ## Wall time -/

/-- A wall-time timer (manual section 5.6): stopped, running since a reading of the millisecond timebase with the
duration it was started with, or expired (the sync timer alone stays expired, R115). -/
inductive Timer
  | stopped
  | running (start duration : Nat)
  | expired
  deriving DecidableEq, Repr

/-! ## Hardwired inputs -/

/-- The inputs whose level no other record holds (manual section 2): the service key and the crew presence inputs. -/
structure Pins where
  serviceKey : Bool
  presence : FlagSet 8
  deriving DecidableEq, Repr

/-! ## Spine ports and transmit queues (R1, R14 to R18) -/

/-- A frame in transmission on U, and whether it is the reply of RESET (R189). -/
structure Sending where
  frame : Frame
  ofReset : Bool
  deriving DecidableEq, Repr

/-- The receive decoders and the transmitters of both ports. -/
structure Spine where
  /-- the bytes of the frame being received on U (R1) -/
  receivingU : List Byte
  /-- the bytes of the frame being received on D (R1) -/
  receivingD : List Byte
  /-- the frame in transmission on U (R15) -/
  sendingU : Option Sending
  /-- the frame in transmission on D (R17) -/
  sendingD : Option Frame
  /-- the U forward queue (R14) -/
  forward : List Frame
  /-- the brake entry (R16) -/
  brake : Option Frame
  /-- the seven deceleration entries (R16) -/
  decel : Vector (Option Frame) 7
  /-- the D queue (R16) -/
  queueD : List Frame
  deriving DecidableEq, Repr

/-! ## Frame Dispatcher -/

/-- The cycle record (R5). An invalid number or arrival time is `none`. -/
structure CycleRecord where
  last : Option CycleNo
  timecode : Timecode
  arrival : Option Nat
  interval : Nat
  sequenceErrors : Nat
  deriving DecidableEq, Repr

/-! ## Link Supervisor -/

/-- The states of a port (R24); only D takes TEST. -/
inductive PortState
  | down
  | acquiring
  | up
  | degraded
  | test
  deriving DecidableEq, Repr

/-- A port record (R24) with the port's two timers. -/
structure PortRecord where
  state : PortState
  signal : Bool
  goodRun : Nat
  badRun : Nat
  windowFrames : Nat
  windowErrors : Nat
  holdPassed : Bool
  lockHeld : Bool
  errored : Nat
  unknownKind : Nat
  queueDrops : Nat
  linkUpTimer : Timer
  holdTimer : Timer
  deriving DecidableEq, Repr

/-- The link test (R38): the generator register, whether the checker runs, and the latest received bits, newest first,
fifteen at most. -/
structure LinkTest where
  generator : BitVec 15
  checking : Bool
  latest : List Bool
  deriving DecidableEq, Repr

/-- The thresholds record (R35). -/
structure Thresholds where
  erroredU : Nat
  unknownU : Nat
  dropsU : Nat
  erroredD : Nat
  unknownD : Nat
  dropsD : Nat
  sequence : Nat
  deriving DecidableEq, Repr

/-- The Link Supervisor. -/
structure Link where
  u : PortRecord
  d : PortRecord
  /-- test errors of the D port (R24) -/
  testErrors : Nat
  test : LinkTest
  thresholds : Thresholds
  deriving DecidableEq, Repr

/-! ## Pose Unit -/

/-- A point in stage coordinates, millimetres. -/
structure Point where
  x : Int
  y : Int
  z : Int
  deriving DecidableEq, Repr

/-- An axis record (R40). The fields that the record of an axis does not have hold 0 and are reported absent (R60). -/
structure AxisRecord where
  valid : Bool
  softMin : Int
  softMax : Int
  stepMax : Nat
  deceleration : Nat
  standstill : Nat
  ageLimit : Nat
  followThreshold : Nat
  followLag : Nat
  inPosition : Nat
  cueScale : Nat
  unitMultiplier : Int
  unitShift : Nat
  deriving DecidableEq, Repr

/-- The geometry record (R43). -/
structure Geometry where
  valid : Bool
  pivot : Point
  headDrop : Nat
  headRadius : Nat
  deriving DecidableEq, Repr

/-- An axis entry of the pose record (R46). -/
structure PoseEntry where
  present : Bool
  position : Int
  velocity : Int
  status : DriveStatus
  echo : CycleNo
  age : Nat
  deriving DecidableEq, Repr

/-- A captured position and velocity. -/
structure Motion where
  position : Int
  velocity : Int
  deriving DecidableEq, Repr

/-- The pose set (R46, R51). -/
structure PoseSet where
  isOpen : Bool
  cycle : Option CycleNo
  captured : Vector (Option Motion) 4
  deriving DecidableEq, Repr

/-- The completed pose (R46): head position `none` when it was completed without configuration (R53). -/
structure CompletedPose where
  valid : Bool
  cycle : CycleNo
  motions : Vector Motion 4
  head : Option Point
  deriving DecidableEq, Repr

/-- The Pose Unit: axis table, geometry record, pose record. -/
structure Pose where
  axes : Vector AxisRecord 10
  geometry : Geometry
  entries : Vector PoseEntry 10
  set : PoseSet
  completed : CompletedPose
  deriving DecidableEq, Repr

/-! ## Envelope Unit -/

/-- The kinds of a zone (R61). -/
inductive ZoneKind
  | obstacle
  | crew
  | soft
  deriving DecidableEq, Repr

/-- The states of a zone in an evaluation (R69). -/
inductive ZoneState
  | clear
  | approach
  | intrude
  deriving DecidableEq, Repr

/-- An axis-aligned box, both bounds included. -/
structure Box where
  lo : Point
  hi : Point
  deriving DecidableEq, Repr

/-- A zone record (R61); the presence input is held for kind CREW alone. -/
structure Zone where
  enabled : Bool
  kind : ZoneKind
  box : Box
  presence : Option (Fin 8)
  band : Nat
  factor : Nat
  deriving DecidableEq, Repr

/-- The evaluation record (R74). -/
structure Evaluation where
  evaluated : Bool
  cycle : Option CycleNo
  p : Option Point
  q : Option Point
  swept : Option Box
  sample : FlagSet 8
  zones : Vector ZoneState 24
  factor : Nat
  skipped : Nat
  deriving DecidableEq, Repr

/-- The speed scale record (R75). -/
structure SpeedScale where
  zone : Nat
  link : Nat
  trim : Nat
  effective : Nat
  deriving DecidableEq, Repr

/-- The Envelope Unit. -/
structure Envelope where
  zones : Vector Zone 24
  evaluation : Evaluation
  scale : SpeedScale
  deriving DecidableEq, Repr

/-! ## Command Gate -/

/-- The Command Gate: the last-forwarded record (R81), an invalid entry being `none`, and the gate counters (R93). -/
structure Gate where
  last : Vector (Option Int) 10
  clamps : Vector Nat 10
  withheld : Vector Nat 10
  overridden : Vector Nat 10
  refusals : Nat
  deriving DecidableEq, Repr

/-! ## Stop Supervisor -/

/-- The fault latch of a crew stop line (R96). -/
inductive FaultLatch
  | absent
  | awaitStop
  | awaitClear
  deriving DecidableEq, Repr

/-- The line record of a crew stop line (R96); the line state follows from the channels. -/
structure LineRecord where
  a : Channel
  b : Channel
  window : Timer
  latch : FaultLatch
  deriving DecidableEq, Repr

/-- The causes, in the order of the table of R100. -/
inductive Cause
  | crewStop (line : Fin 4)
  | lineFault (line : Fin 4)
  | driveFault
  | feedbackLost
  | linkD
  | unconfigured
  | mgmtCut
  | rampTimeout
  | zone
  | grip
  | consoleStop
  | syncLost
  | follow
  | slip
  | mgmtRamp
  deriving DecidableEq, Repr

/-- The five stop states (section 6.3), in the order of their codes (R22). -/
inductive StopState
  | run
  | ramp
  | held
  | cut
  | parked
  deriving DecidableEq, Repr

/-- The stop configuration record (R122), times in milliseconds. -/
structure StopConfig where
  syncTimeout : Nat
  rampLimit : Nat
  discrepancy : Nat
  degradeFactor : Nat
  linkUpTime : Nat
  degradeHold : Nat
  highError : Nat
  deriving DecidableEq, Repr

/-- The kinds of the re-arm gesture (R118). -/
inductive GestureKind
  | single
  | double
  deriving DecidableEq, Repr

/-- The gesture record (R118), counts of cycles. -/
structure Gesture where
  kind : GestureKind
  pulseMax : Nat
  gapMax : Nat
  confirm : Nat
  deriving DecidableEq, Repr

/-- The states of the gesture detector (R119). -/
inductive DetectorState
  | waitRelease
  | armed
  | pulse
  | gap
  | confirm
  deriving DecidableEq, Repr

/-- The gesture detector (R119). -/
structure Detector where
  state : DetectorState
  count : Nat
  deriving DecidableEq, Repr

/-- The lamp patterns (R121). -/
inductive Pattern
  | off
  | b025
  | b05
  | b1
  | b2
  | b4
  | on
  deriving DecidableEq, Repr

/-- The nine lamp conditions, in precedence (R120). -/
inductive LampCondition
  | cut
  | ramp
  | held
  | parked
  | zoneApproach
  | playing
  | recording
  | runMoving
  | runIdle
  deriving DecidableEq, Repr

/-- The pair of patterns that the lamp map gives for one condition (R121). -/
structure PatternPair where
  amber : Pattern
  red : Pattern
  deriving DecidableEq, Repr

/-- One lamp: the pattern in force, whether the lamp is on, and the timer of the present part of its period (R121). -/
structure Lamp where
  pattern : Pattern
  lit : Bool
  phase : Timer
  deriving DecidableEq, Repr

/-- The Stop Supervisor (R96 to R124). -/
structure Stop where
  lines : Vector LineRecord 4
  /-- the present set (R100), a flag for each cause code -/
  present : FlagSet 21
  /-- the trip set (R104), a flag for each cause code -/
  trip : FlagSet 21
  state : StopState
  /-- the drive enable output (R106) -/
  driveEnable : Bool
  config : StopConfig
  gesture : Gesture
  detector : Detector
  /-- the lamp map (R121), one pair for each condition in precedence -/
  lampMap : Vector PatternPair 9
  lampCondition : LampCondition
  amber : Lamp
  red : Lamp
  rampTimer : Timer
  /-- the entry cycle of the ramp (R108) -/
  entryCycle : Option CycleNo
  /-- the standstill set (R108, R109) -/
  standstill : FlagSet 7
  syncTimer : Timer
  /-- the substitute timer (R115); substitution is under way while it runs -/
  substituteTimer : Timer
  /-- the latest grip is HELD (R101) -/
  gripHeld : Bool
  /-- the latest console stop is set (R101) -/
  consoleStop : Bool
  deriving DecidableEq, Repr

/-! ## Lens Unit -/

/-- One point of a lens curve: a user value and a count (R125). -/
structure CurvePoint where
  user : Nat
  count : Int
  deriving DecidableEq, Repr

/-- A curve record (R125); the point count is the number of points. -/
structure Curve where
  valid : Bool
  points : List CurvePoint
  identity : Vector Byte 4
  fingerprint : BitVec 16
  deriving DecidableEq, Repr

/-- A subject preset (R136). -/
structure Subject where
  point : Point
  trimLimit : Nat
  deriving DecidableEq, Repr

/-- The latest follow of the follow record (R137). -/
structure LatestFollow where
  cycle : CycleNo
  distance : Nat
  user : Nat
  deriving DecidableEq, Repr

/-- The follow record (R137). -/
structure Follow where
  on : Bool
  preset : Option (Fin 4)
  subject : Point
  trim : Int
  trimLimit : Nat
  latest : Option LatestFollow
  deriving DecidableEq, Repr

/-- The Lens Unit; index 0, 1, 2 for axes 7, 8, 9. -/
structure Lens where
  curves : Vector Curve 3
  fault : FlagSet 3
  stale : FlagSet 3
  endReached : FlagSet 3
  subjects : Vector Subject 4
  follow : Follow
  deriving DecidableEq, Repr

/-! ## Take Store -/

/-- One listed word of the page memory: its word address (page index × 64 + word) and its value, a signed 32-bit count
(R142). -/
abbrev WordCell := Nat × Int

/-- The states of a take (R144). -/
inductive TakeState
  | empty
  | recording
  | loading
  | closed
  | erasing
  deriving DecidableEq, Repr

/-- The end reasons of a take (R144). -/
inductive EndReason
  | normal
  | interrupted
  | storeFull
  | loaded
  deriving DecidableEq, Repr

/-- A take record (R144). A field that is absent in the take's state holds its empty value. -/
structure Take where
  state : TakeState
  locked : Bool
  mask : FlagSet 10
  samples : Nat
  chain : List Nat
  start : Timecode
  prints : Vector (Option (BitVec 16)) 3
  endReason : Option EndReason
  /-- a LOADING take is open to further pages (R149, R150) -/
  isOpen : Bool
  deriving DecidableEq, Repr

/-- The Take Store: page memory, free page list, take directory (R142 to R144). -/
structure Store where
  words : List WordCell
  free : List Nat
  takes : Vector Take 32
  deriving DecidableEq, Repr

/-! ## Take Recorder -/

/-- The states of the recorder (R153). -/
inductive RecorderState
  | idle
  | armed
  | recording
  deriving DecidableEq, Repr

/-- The recorder record (R153). A field that is absent in the state holds its empty value. -/
structure Recorder where
  state : RecorderState
  take : Option (Fin 32)
  mask : FlagSet 10
  prints : Vector (Option (BitVec 16)) 3
  buffer : Vector Int 10
  openCycle : Option CycleNo
  repeats : Nat
  deriving DecidableEq, Repr

/-! ## Take Player -/

/-- The states of the player (R161), in the order of their codes (R22). -/
inductive PlayerState
  | idle
  | cueing
  | ready
  | playing
  | suspended
  | holding
  deriving DecidableEq, Repr

/-- One entry of a history ring (R173). -/
structure RingEntry where
  cycle : CycleNo
  value : Int
  deriving DecidableEq, Repr

/-- The player record (R161). A field that is absent in the state holds its empty value; each ring lists its entries
from oldest to newest. -/
structure Player where
  state : PlayerState
  take : Option (Fin 32)
  mask : FlagSet 10
  index : Nat
  goPending : Bool
  suspendedFrom : Option PlayerState
  peaks : Vector Nat 10
  clamped : Bool
  rings : Vector (List RingEntry) 10
  deriving DecidableEq, Repr

/-! ## Cue Matcher -/

/-- The actions of a cue slot with their arguments (R177). -/
inductive CueAction
  | recStart (take : Fin 32) (mask : FlagSet 10)
  | recStop
  | cue (take : Fin 32)
  | go
  | release
  | subject (preset : Fin 4)
  | mark
  deriving DecidableEq, Repr

/-- A cue slot (R177); the length is the length of the pattern, and a disabled slot has no pattern and no action. -/
structure CueSlot where
  pattern : List Byte
  action : Option CueAction
  progress : Nat
  deriving DecidableEq, Repr

/-! ## Management Unit -/

/-- A request: tag, request code and body of one MGT addressed to 62 (R184). -/
structure Request where
  tag : Byte
  code : Byte
  body : List Byte
  deriving DecidableEq, Repr

/-- The reply results (R185). -/
inductive Result
  | ok
  | refused
  | locked
  | invalid
  | noSpace
  | mismatch
  | unknown
  | notParked
  | slotBusy
  deriving DecidableEq, Repr

/-- A reply (R184), and whether it is the reply of RESET (R189). -/
structure Reply where
  tag : Byte
  result : Result
  body : List Byte
  ofReset : Bool
  deriving DecidableEq, Repr

/-- An ERASE that still returns its pages (R147): the tag of its request and its take. -/
structure Erasure where
  tag : Byte
  take : Fin 32
  deriving DecidableEq, Repr

/-- The progress of a RESET (R189, R15): none, its reply waiting or leaving, or its reply transmitted. -/
inductive ResetPhase
  | none
  | replying
  | transmitted
  deriving DecidableEq, Repr

/-- The Management Unit (R184 to R189). -/
structure Mgmt where
  requests : List Request
  replies : List Reply
  erasing : Option Erasure
  reset : ResetPhase
  drops : Nat
  locked : Bool
  deriving DecidableEq, Repr

/-! ## Notice Arbiter -/

/-- The entry of one notice source (R191). -/
structure NoticeEntry where
  pending : Bool
  sent : Bool
  count : Nat
  timecode : Timecode
  detail : List Byte
  deriving DecidableEq, Repr

/-- The notice configuration record (R194). -/
structure NoticeConfig where
  order : Nat
  safety : Bool
  motion : Bool
  link : Bool
  global : Bool
  express : Option (Fin 17)
  wake : FlagSet 17
  deriving DecidableEq, Repr

/-- The Notice Arbiter. -/
structure Notices where
  entries : Vector NoticeEntry 17
  config : NoticeConfig
  deriving DecidableEq, Repr

/-! ## The machine -/

/-- The whole machine: the queue of waiting commands (the model's own), the millisecond timebase, the hardwired inputs,
and one record for each block of the manual's block table (section 3). -/
structure State where
  pending : List Instr
  /-- the reading of the millisecond timebase (manual section 5.6) -/
  timebase : Nat
  pins : Pins
  spine : Spine
  cycle : CycleRecord
  link : Link
  pose : Pose
  env : Envelope
  gate : Gate
  stop : Stop
  lens : Lens
  store : Store
  recorder : Recorder
  player : Player
  cues : Vector CueSlot 8
  mgmt : Mgmt
  notices : Notices
  deriving DecidableEq, Repr

/-! ## Updates of one record -/

/-- The state with another `pending`. -/
def State.withPending (s : State) (x : List Instr) : State := { s with pending := x }

/-- The state with another `timebase`. -/
def State.withTimebase (s : State) (x : Nat) : State := { s with timebase := x }

/-- The state with another `pins`. -/
def State.withPins (s : State) (x : Pins) : State := { s with pins := x }

/-- The state with another `spine`. -/
def State.withSpine (s : State) (x : Spine) : State := { s with spine := x }

/-- The state with another `cycle`. -/
def State.withCycle (s : State) (x : CycleRecord) : State := { s with cycle := x }

/-- The state with another `link`. -/
def State.withLink (s : State) (x : Link) : State := { s with link := x }

/-- The state with another `pose`. -/
def State.withPose (s : State) (x : Pose) : State := { s with pose := x }

/-- The state with another `env`. -/
def State.withEnv (s : State) (x : Envelope) : State := { s with env := x }

/-- The state with another `gate`. -/
def State.withGate (s : State) (x : Gate) : State := { s with gate := x }

/-- The state with another `stop`. -/
def State.withStop (s : State) (x : Stop) : State := { s with stop := x }

/-- The state with another `lens`. -/
def State.withLens (s : State) (x : Lens) : State := { s with lens := x }

/-- The state with another `store`. -/
def State.withStore (s : State) (x : Store) : State := { s with store := x }

/-- The state with another `recorder`. -/
def State.withRecorder (s : State) (x : Recorder) : State := { s with recorder := x }

/-- The state with another `player`. -/
def State.withPlayer (s : State) (x : Player) : State := { s with player := x }

/-- The state with another `cues`. -/
def State.withCues (s : State) (x : Vector CueSlot 8) : State := { s with cues := x }

/-- The state with another `mgmt`. -/
def State.withMgmt (s : State) (x : Mgmt) : State := { s with mgmt := x }

/-- The state with another `notices`. -/
def State.withNotices (s : State) (x : Notices) : State := { s with notices := x }

/-! ## Reset values -/

/-- An axis record after cold reset (R40). -/
def AxisRecord.initial : AxisRecord := ⟨false, 0, 0, 0, 0, 0, 0, 0, 0, 0, 0, 0, 0⟩

/-- The origin of stage coordinates. -/
def Point.zero : Point := ⟨0, 0, 0⟩

/-- A pose entry after a reset: not present, age 15 (R46). -/
def PoseEntry.initial : PoseEntry := ⟨false, 0, 0, .ready, 0, 15⟩

/-- The pose set after a reset: not open, no capture, no cycle number (R51). -/
def PoseSet.initial : PoseSet := ⟨false, none, Vector.replicate 4 none⟩

/-- The completed pose after a reset: invalid (R46). -/
def CompletedPose.initial : CompletedPose := ⟨false, 0, Vector.replicate 4 ⟨0, 0⟩, none⟩

/-- A zone record after cold reset (R61). -/
def Zone.initial : Zone := ⟨false, .obstacle, ⟨Point.zero, Point.zero⟩, none, 0, 16⟩

/-- The evaluation record after a reset (R74). -/
def Evaluation.initial : Evaluation :=
  ⟨false, none, none, none, none, FlagSet.empty 8, Vector.replicate 24 .clear, 16, 0⟩

/-- The speed scale record after cold reset (R75). -/
def SpeedScale.initial : SpeedScale := ⟨16, 16, 16, 16⟩

/-- A port record after cold reset (R24), with the signal as found. -/
def PortRecord.initial (signal : Bool) : PortRecord :=
  ⟨.down, signal, 0, 0, 0, 0, false, false, 0, 0, 0, .stopped, .stopped⟩

/-- The stop configuration after cold reset (R122). -/
def StopConfig.initial : StopConfig := ⟨100, 5000, 50, 8, 100, 1000, 16⟩

/-- The gesture record after cold reset (R118). -/
def Gesture.initial : Gesture := ⟨.double, 15, 15, 25⟩

/-- The gesture detector at WAIT_RELEASE with count 0 (R119). -/
def Detector.initial : Detector := ⟨.waitRelease, 0⟩

/-- The lamp map after cold reset (R121). -/
def defaultLampMap : Vector PatternPair 9 :=
  #v[⟨.off, .on⟩, ⟨.off, .b4⟩, ⟨.off, .b1⟩, ⟨.off, .b025⟩, ⟨.b2, .off⟩, ⟨.b1, .off⟩, ⟨.b05, .off⟩, ⟨.on, .off⟩,
    ⟨.off, .off⟩]

/-- A curve record after cold reset (R125). -/
def Curve.initial : Curve := ⟨false, [], Vector.replicate 4 0, 0⟩

/-- The follow record after a reset (R137). -/
def Follow.initial : Follow := ⟨false, none, Point.zero, 0, 0, none⟩

/-- A take record in EMPTY, not locked (R144). -/
def Take.initial : Take :=
  ⟨.empty, false, FlagSet.empty 10, 0, [], Timecode.zero, Vector.replicate 3 none, none, false⟩

/-- The recorder in IDLE (R153). -/
def Recorder.initial : Recorder :=
  ⟨.idle, none, FlagSet.empty 10, Vector.replicate 3 none, Vector.replicate 10 0, none, 0⟩

/-- The player in IDLE (R161). -/
def Player.initial : Player :=
  ⟨.idle, none, FlagSet.empty 10, 0, false, none, Vector.replicate 10 0, false, Vector.replicate 10 []⟩

/-- A cue slot after cold reset (R177). -/
def CueSlot.initial : CueSlot := ⟨[], none, 0⟩

/-- A notice entry after cold reset (R191). -/
def NoticeEntry.initial : NoticeEntry := ⟨false, false, 0, Timecode.zero, []⟩

/-- The notice configuration after cold reset (R194). -/
def NoticeConfig.initial : NoticeConfig := ⟨1, true, true, true, true, none, FlagSet.empty 17⟩

/-- The spine after cold reset: no frame received or sent, every queue and entry empty (R14, R16). -/
def Spine.initial : Spine := ⟨[], [], none, none, [], none, Vector.replicate 7 none, []⟩

/-- The present set of a cold reset that finds every line CLEAR: LINK_D, UNCONFIGURED and GRIP (R124). -/
def resetCauses : FlagSet 21 :=
  #v[false, false, false, false, false, false, false, false, false, false, true, true, false, false, false, true,
    false, false, false, false, false]

/-- The machine right after a cold reset that finds every crew stop channel closed, signal on both ports, no presence
input asserted and the service key not asserted (R124; the levels found are DESIGN CHOICE: assumption log 2). -/
def State.reset : State :=
  { pending := []
    timebase := 0
    pins := { serviceKey := false, presence := FlagSet.empty 8 }
    spine := Spine.initial
    cycle := { last := none, timecode := Timecode.zero, arrival := none, interval := 20, sequenceErrors := 0 }
    link :=
      { u := PortRecord.initial true
        d := PortRecord.initial true
        testErrors := 0
        test := { generator := 0, checking := false, latest := [] }
        thresholds := ⟨0, 0, 0, 0, 0, 0, 0⟩ }
    pose :=
      { axes := Vector.replicate 10 AxisRecord.initial
        geometry := ⟨false, Point.zero, 0, 0⟩
        entries := Vector.replicate 10 PoseEntry.initial
        set := PoseSet.initial
        completed := CompletedPose.initial }
    env :=
      { zones := Vector.replicate 24 Zone.initial
        evaluation := Evaluation.initial
        scale := SpeedScale.initial }
    gate := ⟨Vector.replicate 10 none, Vector.replicate 10 0, Vector.replicate 10 0, Vector.replicate 10 0, 0⟩
    stop :=
      { lines := Vector.replicate 4 ⟨.closed, .closed, .stopped, .absent⟩
        present := resetCauses
        trip := resetCauses
        state := .cut
        driveEnable := false
        config := StopConfig.initial
        gesture := Gesture.initial
        detector := Detector.initial
        lampMap := defaultLampMap
        lampCondition := .cut
        amber := ⟨.off, false, .stopped⟩
        red := ⟨.on, true, .stopped⟩
        rampTimer := .stopped
        entryCycle := none
        standstill := FlagSet.empty 7
        syncTimer := .stopped
        substituteTimer := .stopped
        gripHeld := false
        consoleStop := false }
    lens :=
      { curves := Vector.replicate 3 Curve.initial
        fault := FlagSet.empty 3
        stale := FlagSet.empty 3
        endReached := FlagSet.empty 3
        subjects := Vector.replicate 4 ⟨Point.zero, 0⟩
        follow := Follow.initial }
    store := { words := [], free := List.range 3072, takes := Vector.replicate 32 Take.initial }
    recorder := Recorder.initial
    player := Player.initial
    cues := Vector.replicate 8 CueSlot.initial
    mgmt := { requests := [], replies := [], erasing := none, reset := .none, drops := 0, locked := false }
    notices := { entries := Vector.replicate 17 NoticeEntry.initial, config := NoticeConfig.initial } }

end Sys2Proof.Machine
end

