-- ==== Sys2Proof/Machine/Codes.lean ====
section
/-! DEFINITION. The codes of names on the wire and the fixed properties of causes, notices and results (R22, R23, R100,
R185, R191). -/

namespace Sys2Proof.Machine

/-- One byte holding a small number. -/
def u8 (n : Nat) : Byte := BitVec.ofNat 8 n

/-- A flag in one byte (R23). -/
def flagByte (b : Bool) : Byte := if b then 0x01#8 else 0x00#8

/-- A port in one byte (R23). -/
def portCode : Port → Byte
  | .u => 0x00#8
  | .d => 0x01#8

/-- The code of a cause: its position in the table of R100 (R23). -/
def Cause.code : Cause → Fin 21
  | .crewStop n => ⟨n.val, by omega⟩
  | .lineFault n => ⟨4 + n.val, by omega⟩
  | .driveFault => 8
  | .feedbackLost => 9
  | .linkD => 10
  | .unconfigured => 11
  | .mgmtCut => 12
  | .rampTimeout => 13
  | .zone => 14
  | .grip => 15
  | .consoleStop => 16
  | .syncLost => 17
  | .follow => 18
  | .slip => 19
  | .mgmtRamp => 20

/-- Whether the cause of a code is of category CUT (R100). -/
def codeIsCut (c : Fin 21) : Bool := decide (c.val < 14)

/-- Whether a cause is of category CUT (R100). -/
def Cause.isCut (c : Cause) : Bool := codeIsCut c.code

/-- The three bytes of a set of causes: bit k for the cause of code k (R23). -/
def causeSetBytes (s : FlagSet 21) : List Byte :=
  natBE 3 (s.members.foldl (fun acc i => acc + 2 ^ i.val) 0)

/-- The three bytes of a set of notice sources (R23). -/
def sourceSetBytes (s : FlagSet 17) : List Byte :=
  natBE 3 (s.members.foldl (fun acc i => acc + 2 ^ i.val) 0)

/-- The reasons of a change of stop state that are no cause (R105); they follow from 15h (R23). -/
inductive StopReason
  | cause (c : Cause)
  | standstill
  | cleared
  | rearm
  | park
  | wakeRequest
  | wakeSource
  deriving DecidableEq, Repr

/-- The code of a reason of a change of stop state (R23, R105). -/
def StopReason.code : StopReason → Byte
  | .cause c => u8 c.code.val
  | .standstill => 0x15#8
  | .cleared => 0x16#8
  | .rearm => 0x17#8
  | .park => 0x18#8
  | .wakeRequest => 0x19#8
  | .wakeSource => 0x1A#8

/-- The stop state codes (R22). -/
def StopState.code : StopState → Byte
  | .run => 0x00#8
  | .ramp => 0x01#8
  | .held => 0x02#8
  | .cut => 0x03#8
  | .parked => 0x04#8

/-- The player state codes (R22). -/
def PlayerState.code : PlayerState → Byte
  | .idle => 0x00#8
  | .cueing => 0x01#8
  | .ready => 0x02#8
  | .playing => 0x03#8
  | .suspended => 0x04#8
  | .holding => 0x05#8

/-- The port state codes, in the order of R24 (R23). -/
def PortState.code : PortState → Byte
  | .down => 0x00#8
  | .acquiring => 0x01#8
  | .up => 0x02#8
  | .degraded => 0x03#8
  | .test => 0x04#8

/-- The reasons of a change of port state (R30). -/
inductive PortReason
  | eightGood
  | linkUpTime
  | badFrame
  | badRun
  | signalLost
  | window
  | testStart
  | testStop
  deriving DecidableEq, Repr

/-- The codes of the reasons of a change of port state, in the order of R30 (R23). -/
def PortReason.code : PortReason → Byte
  | .eightGood => 0x00#8
  | .linkUpTime => 0x01#8
  | .badFrame => 0x02#8
  | .badRun => 0x03#8
  | .signalLost => 0x04#8
  | .window => 0x05#8
  | .testStart => 0x06#8
  | .testStop => 0x07#8

/-- The counters with a threshold (R35). -/
inductive CounterName
  | errored
  | unknownKind
  | queueDrops
  | sequence
  deriving DecidableEq, Repr

/-- The codes of the counters: the names of R35 in its order, the port standing in its own byte (R23, R35; DESIGN CHOICE:
assumption log 19). -/
def CounterName.code : CounterName → Byte
  | .errored => 0x00#8
  | .unknownKind => 0x01#8
  | .queueDrops => 0x02#8
  | .sequence => 0x03#8

/-- The zone kind codes, in the order of R61 (R23). -/
def ZoneKind.code : ZoneKind → Byte
  | .obstacle => 0x00#8
  | .crew => 0x01#8
  | .soft => 0x02#8

/-- The zone state codes: CLEAR, APPROACH, INTRUDE (section 4.5, R23). -/
def ZoneState.code : ZoneState → Byte
  | .clear => 0x00#8
  | .approach => 0x01#8
  | .intrude => 0x02#8

/-- The channel codes: OPEN, CLOSED (R96, R23). -/
def channelCode : Channel → Byte
  | .opened => 0x00#8
  | .closed => 0x01#8

/-- The fault latch codes: absent, AWAIT_STOP, AWAIT_CLEAR (R96, R23). -/
def FaultLatch.code : FaultLatch → Byte
  | .absent => 0x00#8
  | .awaitStop => 0x01#8
  | .awaitClear => 0x02#8

/-- The gesture kind codes (R118, R23). -/
def GestureKind.code : GestureKind → Byte
  | .single => 0x00#8
  | .double => 0x01#8

/-- The detector state codes (R119, R23). -/
def DetectorState.code : DetectorState → Byte
  | .waitRelease => 0x00#8
  | .armed => 0x01#8
  | .pulse => 0x02#8
  | .gap => 0x03#8
  | .confirm => 0x04#8

/-- The pattern codes, in the order of R121 (R23). -/
def Pattern.code : Pattern → Byte
  | .off => 0x00#8
  | .b025 => 0x01#8
  | .b05 => 0x02#8
  | .b1 => 0x03#8
  | .b2 => 0x04#8
  | .b4 => 0x05#8
  | .on => 0x06#8

/-- The position of a lamp condition in the precedence of R120. -/
def LampCondition.index : LampCondition → Fin 9
  | .cut => 0
  | .ramp => 1
  | .held => 2
  | .parked => 3
  | .zoneApproach => 4
  | .playing => 5
  | .recording => 6
  | .runMoving => 7
  | .runIdle => 8

/-- The take state codes, in the order of R144 (R23). -/
def TakeState.code : TakeState → Byte
  | .empty => 0x00#8
  | .recording => 0x01#8
  | .loading => 0x02#8
  | .closed => 0x03#8
  | .erasing => 0x04#8

/-- The end reason codes, in the order of R144 (R23). -/
def EndReason.code : EndReason → Byte
  | .normal => 0x00#8
  | .interrupted => 0x01#8
  | .storeFull => 0x02#8
  | .loaded => 0x03#8

/-- The recorder state codes, in the order of R153 (R23). -/
def RecorderState.code : RecorderState → Byte
  | .idle => 0x00#8
  | .armed => 0x01#8
  | .recording => 0x02#8

/-- The sources of setpoints (section 5.2). -/
inductive Source
  | console
  | player
  | cueing
  | follow
  deriving DecidableEq, Repr

/-- The codes of the sources of setpoints, in the order of section 5.2 (R23). -/
def Source.code : Source → Byte
  | .console => 0x00#8
  | .player => 0x01#8
  | .cueing => 0x02#8
  | .follow => 0x03#8

/-- The lens statuses, in the order of R133. -/
inductive LensStatus
  | fault
  | stale
  | ready
  deriving DecidableEq, Repr

/-- The lens status codes, in the order of R133 (R23). -/
def LensStatus.code : LensStatus → Byte
  | .fault => 0x00#8
  | .stale => 0x01#8
  | .ready => 0x02#8

/-- The result codes (R185). -/
def Result.code : Result → Byte
  | .ok => 0x00#8
  | .refused => 0x01#8
  | .locked => 0x02#8
  | .invalid => 0x03#8
  | .noSpace => 0x04#8
  | .mismatch => 0x05#8
  | .unknown => 0x06#8
  | .notParked => 0x07#8
  | .slotBusy => 0x08#8

/-- The action codes of a cue slot, in the order of R177 (R23). -/
def CueAction.code : CueAction → Byte
  | .recStart _ _ => 0x00#8
  | .recStop => 0x01#8
  | .cue _ => 0x02#8
  | .go => 0x03#8
  | .release => 0x04#8
  | .subject _ => 0x05#8
  | .mark => 0x06#8

/-- The arguments of an action, in the order of R177 (R23). -/
def CueAction.arguments : CueAction → List Byte
  | .recStart t m => u8 t.val :: axisSetBytes m
  | .cue t => [u8 t.val]
  | .subject p => [u8 p.val]
  | _ => []

/-- The notice classes (R22). -/
inductive NoticeClass
  | safety
  | motion
  | link
  deriving DecidableEq, Repr

/-- The notice class codes (R22). -/
def NoticeClass.code : NoticeClass → Byte
  | .safety => 0x00#8
  | .motion => 0x01#8
  | .link => 0x02#8

/-- The class of a notice source (R191). -/
def sourceClass (k : Fin 17) : NoticeClass :=
  if k.val ≤ 4 then .safety else if k.val ≤ 12 then .motion else .link

/-- Whether a notice source is latched (R191): 1, 4, 7, 8, 12 and 14. -/
def sourceLatched (k : Fin 17) : Bool :=
  k.val == 1 || k.val == 4 || k.val == 7 || k.val == 8 || k.val == 12 || k.val == 14

/-- The class order of an order code (R194). -/
def classOrder (code : Nat) : List NoticeClass :=
  match code with
  | 2 => [.safety, .link, .motion]
  | 3 => [.motion, .safety, .link]
  | 4 => [.motion, .link, .safety]
  | 5 => [.link, .safety, .motion]
  | 6 => [.link, .motion, .safety]
  | _ => [.safety, .motion, .link]

end Sys2Proof.Machine
end

