-- ==== Sys2Proof/Machine/Ops.lean ====
section
/-! DEFINITION. The operations that every block shares: timers, ports by name, the Notice Arbiter, and the two
transmitters with their arbiters. -/

namespace Sys2Proof.Machine

/-! ## Timers -/

/-- A timer started now with a duration in milliseconds (manual section 5.6). -/
def State.startTimer (s : State) (duration : Nat) : Timer := .running s.timebase duration

/-- Whether a timer runs. -/
def Timer.isRunning : Timer → Bool
  | .running _ _ => true
  | _ => false

/-- Whether a running timer has reached its duration at a reading of the timebase. -/
def Timer.due (now : Nat) : Timer → Bool
  | .running start duration => decide (start + duration ≤ now)
  | _ => false

/-! ## Ports by name -/

/-- The port record of a port. -/
def Link.port (l : Link) : Port → PortRecord
  | .u => l.u
  | .d => l.d

/-- The Link Supervisor with another port record for a port. -/
def Link.setPort (l : Link) (p : Port) (r : PortRecord) : Link :=
  match p with
  | .u => { l with u := r }
  | .d => { l with d := r }

/-- The bytes of the frame being received on a port. -/
def Spine.receiving (sp : Spine) : Port → List Byte
  | .u => sp.receivingU
  | .d => sp.receivingD

/-- The spine with other bytes being received on a port. -/
def Spine.setReceiving (sp : Spine) (p : Port) (bs : List Byte) : Spine :=
  match p with
  | .u => { sp with receivingU := bs }
  | .d => { sp with receivingD := bs }

/-- Whether the D port is in TEST. -/
def State.inTest (s : State) : Bool := s.link.d.state == .test

/-! ## Notices (R191, R195) -/

/-- Whether the class of a source is enabled (R194). -/
def NoticeConfig.enables (c : NoticeConfig) : NoticeClass → Bool
  | .safety => c.safety
  | .motion => c.motion
  | .link => c.link

/-- Whether a source is eligible (R195). -/
def Notices.eligible (n : Notices) (k : Fin 17) : Bool :=
  n.entries[k].pending && !(sourceLatched k && n.entries[k].sent) && n.config.enables (sourceClass k)
    && n.config.global

/-- The express source, when it is eligible (R195). -/
def Notices.express (n : Notices) : Option (Fin 17) :=
  match n.config.express with
  | some k => if n.eligible k then some k else none
  | none => none

/-- The choice of the Notice Arbiter: the lowest-numbered eligible source of the first class, in the order of the order
code, that has one (R195). -/
def Notices.choice (n : Notices) : Option (Fin 17) :=
  (classOrder n.config.order).findSome? fun c =>
    (List.finRange 17).find? fun k => sourceClass k == c && n.eligible k

/-- The entry after an occurrence of its source (R191). -/
def NoticeEntry.occur (e : NoticeEntry) (latched : Bool) (timecode : Timecode) (detail : List Byte) : NoticeEntry :=
  if !e.pending then { pending := true, sent := false, count := 0, timecode := timecode, detail := detail }
  else if latched then { e with count := satInc 255 e.count }
  else { e with count := satInc 255 e.count, timecode := timecode, detail := detail }

/-- The entry after it is taken for transmission (R191). -/
def NoticeEntry.take (e : NoticeEntry) (latched : Bool) : NoticeEntry :=
  if latched then { e with sent := true } else { e with pending := false }

/-- The NOTE frame composed from a source's entry (R15, R195). -/
def noteFrame (k : Fin 17) (e : NoticeEntry) : Frame :=
  { kind := .note, address := partNode
    payload := u8 k.val :: (sourceClass k).code :: u8 e.count :: (e.timecode.bytes ++ e.detail) }

/-- The state with another entry for a notice source. -/
def State.setEntry (s : State) (k : Fin 17) (e : NoticeEntry) : State :=
  s.withNotices { s.notices with entries := s.notices.entries.set k.val e }

/-! ## The U transmitter (R15) -/

/-- The U transmitter takes the notice of a source. -/
def sendNotice (k : Fin 17) (s : State) : State :=
  let e := s.notices.entries[k]
  (s.setEntry k (e.take (sourceLatched k))).withSpine { s.spine with sendingU := some ⟨noteFrame k e, false⟩ }

/-- The choice of the U transmit arbiter at a transmit opportunity (R15): the express notice, the head of the forward
queue, the head of the reply queue, the chosen notice. -/
def takeU (s : State) : State :=
  match s.notices.express with
  | some k => sendNotice k s
  | none =>
    match s.spine.forward with
    | f :: rest => s.withSpine { s.spine with forward := rest, sendingU := some ⟨f, false⟩ }
    | [] =>
      match s.mgmt.replies with
      | r :: rest =>
        (s.withMgmt { s.mgmt with replies := rest }).withSpine
          { s.spine with sendingU := some ⟨rpyFrame r.tag r.result.code r.body, r.ofReset⟩ }
      | [] =>
        match s.notices.choice with
        | some k => sendNotice k s
        | none => s

/-- A frame arriving at a source is a transmit opportunity while the transmitter is idle (R15). -/
def opportunityU (s : State) : State := if s.spine.sendingU.isNone then takeU s else s

/-- An occurrence of a notice source (R191), without the report of R196. -/
def noteOccurrence (k : Fin 17) (detail : List Byte) (s : State) : State :=
  opportunityU (s.setEntry k (s.notices.entries[k].occur (sourceLatched k) s.cycle.timecode detail))

/-- A reply appended to the reply queue (R184). -/
def appendReply (tag : Byte) (result : Result) (body : List Byte) (ofReset : Bool) (s : State) : State :=
  opportunityU (s.withMgmt { s.mgmt with replies := s.mgmt.replies ++ [⟨tag, result, body, ofReset⟩] })

/-! ## The D transmitter (R16 to R18) -/

/-- Whether the stop state forbids a frame at its take: a SET for an axis 0 to 6 outside RUN, a SET for an axis 7 to 9
in CUT or PARKED (R17). -/
def forbiddenAtTake (st : StopState) (f : Frame) : Bool :=
  f.kind == .set
    && ((decide (f.address.toNat ≤ 6) && st != .run)
      || (decide (7 ≤ f.address.toNat ∧ f.address.toNat ≤ 9) && (st == .cut || st == .parked)))

/-- The take from the D queue: forbidden SETs at its head are discarded, and the next frame leaves (R17). -/
def takeQueueD (st : StopState) : List Frame → Option Frame × List Frame
  | [] => (none, [])
  | f :: rest => if forbiddenAtTake st f then takeQueueD st rest else (some f, rest)

/-- The choice of the D transmit arbiter at a transmit opportunity (R17): the brake entry, the lowest occupied
deceleration entry, the head of the D queue. In TEST it takes nothing (R18). -/
def takeD (s : State) : State :=
  if s.inTest then s
  else
    match s.spine.brake with
    | some f => s.withSpine { s.spine with brake := none, sendingD := some f }
    | none =>
      match (List.finRange 7).find? fun k => s.spine.decel[k].isSome with
      | some k => s.withSpine { s.spine with decel := s.spine.decel.set k.val none, sendingD := s.spine.decel[k] }
      | none =>
        let t := takeQueueD s.stop.state s.spine.queueD
        s.withSpine { s.spine with queueD := t.2, sendingD := t.1 }

/-- A frame arriving at a source is a transmit opportunity while the transmitter is idle (R15, R17). -/
def opportunityD (s : State) : State := if s.spine.sendingD.isNone then takeD s else s

/-- A BRK offered to the D transmitter: it replaces any BRK still waiting (R16); in TEST it is discarded (R18). -/
def offerBrake (a : BrakeAction) (s : State) : State :=
  if s.inTest then s else opportunityD (s.withSpine { s.spine with brake := some (brkFrame a) })

/-- A DEC offered for an axis: it replaces any DEC of the axis still waiting (R16); in TEST it is discarded (R18). -/
def offerDecel (k : Fin 7) (deceleration : Nat) (s : State) : State :=
  if s.inTest then s
  else opportunityD (s.withSpine { s.spine with decel := s.spine.decel.set k.val (some (decFrame k deceleration)) })

end Sys2Proof.Machine
end

