-- ==== Sys2Proof/Machine/Flags.lean ====
section
/-! DEFINITION. The conditions and flags that the blocks judge: each a function of the records it is judged from. -/

namespace Sys2Proof.Machine

/-- The motion axes 0 to 6 (manual section 5.4). -/
def motionAxes : List Axis := [0, 1, 2, 3, 4, 5, 6]

/-- Whether an axis is one of the motion axes 0 to 6. -/
def isMotion (k : Axis) : Bool := decide (k.val ≤ 6)

/-- The lens number of an axis, 0 to 2 for axes 7 to 9. -/
def lensOf (k : Axis) : Option (Fin 3) :=
  if h : 7 ≤ k.val then some ⟨k.val - 7, by omega⟩ else none

/-- The axis of a lens number. -/
def lensAxis (i : Fin 3) : Axis := ⟨i.val + 7, by omega⟩

/-- The drive enable output is high exactly in RUN, RAMP and HELD (R106). -/
def StopState.drives : StopState → Bool
  | .run => true
  | .ramp => true
  | .held => true
  | .cut => false
  | .parked => false

/-- The states of a crew stop line (R96). -/
inductive LineState
  | clear
  | stop
  | discrepant
  deriving DecidableEq, Repr

/-- The line state follows from the channels (R96). -/
def LineRecord.state (r : LineRecord) : LineState :=
  match r.a, r.b with
  | .closed, .closed => .clear
  | .opened, .opened => .stop
  | _, _ => .discrepant

/-- The line state codes: CLEAR, STOP, DISCREPANT (R96, R23). -/
def LineState.code : LineState → Byte
  | .clear => 0x00#8
  | .stop => 0x01#8
  | .discrepant => 0x02#8

/-- Whether an axis 0 to 6 is judged lost (R49). -/
def Pose.lost (p : Pose) (k : Axis) : Bool :=
  p.axes[k].valid && (!p.entries[k].present || decide (p.axes[k].ageLimit < p.entries[k].age))

/-- Whether some axis 0 to 6 is judged lost: FEEDBACK_LOST (R49). -/
def Pose.anyLost (p : Pose) : Bool := motionAxes.any fun k => p.lost k

/-- Whether a lens axis is judged stale (R50). -/
def Pose.isStale (p : Pose) (k : Axis) : Bool :=
  p.axes[k].valid && p.entries[k].present && decide (p.axes[k].ageLimit < p.entries[k].age)

/-- Whether a present pose entry of an axis 0 to 6 has drive status FAULT: DRIVE_FAULT (R102). -/
def Pose.driveFault (p : Pose) : Bool :=
  motionAxes.any fun k => p.entries[k].present && p.entries[k].status == .fault

/-- Whether a record of an axis 0 to 6, or the geometry record, is invalid: UNCONFIGURED (R45). -/
def Pose.unconfigured (p : Pose) : Bool := !p.geometry.valid || motionAxes.any fun k => !p.axes[k].valid

/-- The records that the head position needs: axes 0 to 3 and the geometry record (R53). -/
def Pose.headConfigured (p : Pose) : Bool :=
  p.geometry.valid && p.axes[0].valid && p.axes[1].valid && p.axes[2].valid && p.axes[3].valid

/-- A target clamped to the soft limits of an axis record (R88). -/
def AxisRecord.clampTarget (r : AxisRecord) (t : Int) : Int := clampInt r.softMin r.softMax t

/-- Whether the latest evaluation finds some zone other than CLEAR: ZONE_APPROACH (R72). -/
def Evaluation.anyNotClear (e : Evaluation) : Bool := (List.finRange 24).any fun z => e.zones[z] != .clear

/-- Whether some axis 0 to 6 moves faster than its standstill threshold: RUN_MOVING (R120). -/
def Pose.moving (p : Pose) : Bool :=
  motionAxes.any fun k => p.entries[k].present && decide (p.axes[k].standstill < p.entries[k].velocity.natAbs)

/-- The highest-precedence lamp condition that is true (R120). -/
def State.lampCondition (s : State) : LampCondition :=
  match s.stop.state with
  | .cut => .cut
  | .ramp => .ramp
  | .held => .held
  | .parked => .parked
  | .run =>
    if s.env.evaluation.anyNotClear then .zoneApproach
    else if s.player.state == .playing then .playing
    else if s.recorder.state == .recording then .recording
    else if s.pose.moving then .runMoving
    else .runIdle

/-- The minimum of the three components (R75). -/
def SpeedScale.minimum (c : SpeedScale) : Nat := min c.zone (min c.link c.trim)

/-- The speed scale record with its effective scale recomputed (R75). -/
def SpeedScale.recompute (c : SpeedScale) : SpeedScale := { c with effective := c.minimum }

/-- The state with another speed scale record, the effective scale recomputed in the same event (R75). -/
def State.setScale (s : State) (c : SpeedScale) : State := s.withEnv { s.env with scale := c.recompute }

/-- The link component of the speed scale: the degrade factor while the D port is DEGRADED, otherwise 16 (R32). -/
def State.linkComponent (s : State) : Nat :=
  if s.link.d.state == .degraded then s.stop.config.degradeFactor else 16

/-- The lens status of a lens axis (R133). -/
def Lens.status (l : Lens) (i : Fin 3) : LensStatus :=
  if l.fault[i] then .fault else if l.stale[i] then .stale else .ready

/-- Whether LINK_D holds: the D port is DOWN, ACQUIRING or TEST (R31). -/
def PortState.isDown : PortState → Bool
  | .down => true
  | .acquiring => true
  | .test => true
  | .up => false
  | .degraded => false

/-! ## Lamps (R121) -/

/-- The times for which a flashing pattern has the lamp on and off within its period, in milliseconds (R121). -/
def Pattern.flash : Pattern → Option (Nat × Nat)
  | .off => none
  | .b025 => some (500, 3500)
  | .b05 => some (500, 1500)
  | .b1 => some (500, 500)
  | .b2 => some (250, 250)
  | .b4 => some (125, 125)
  | .on => none

/-- A lamp that begins a pattern now: a flashing pattern begins with the lamp on (R121). -/
def Lamp.begin (now : Nat) (p : Pattern) : Lamp :=
  match p.flash with
  | some (on, _) => ⟨p, true, .running now on⟩
  | none => ⟨p, p == .on, .stopped⟩

/-- A lamp given a pattern: the same pattern is not restarted (R121). -/
def Lamp.take (now : Nat) (p : Pattern) (l : Lamp) : Lamp := if l.pattern = p then l else Lamp.begin now p

/-- A lamp at the end of a part of its flashing period, once the part is due: the next part begins where the part ended
(R121). A part that is not due goes on (DESIGN CHOICE: assumption log 4). -/
def Lamp.turn (now : Nat) (l : Lamp) : Lamp :=
  match l.pattern.flash, l.phase with
  | some (on, off), .running start duration =>
    if start + duration ≤ now then ⟨l.pattern, !l.lit, .running (start + duration) (if l.lit then off else on)⟩ else l
  | _, _ => l

/-- The lamp conditions judged again: both lamps take the patterns that the lamp map gives (R120, R121). -/
def refreshLamps (s : State) : State :=
  let c := s.lampCondition
  let pair := s.stop.lampMap[c.index]
  s.withStop
    { s.stop with
      lampCondition := c
      amber := s.stop.amber.take s.timebase pair.amber
      red := s.stop.red.take s.timebase pair.red }

end Sys2Proof.Machine
end

