-- ==== Sys2Proof/Machine/Raise.lean ====
section
/-! DEFINITION. A change of stop state, the entry to HELD, waking, and the raising of a notice, which may wake the part
(R105, R106, R110, R114, R196). -/

namespace Sys2Proof.Machine

/-! ## A change of stop state and the entry to HELD (R105, R106, R110) -/

/-- A change of stop state: the drive enable output in the same event, and notice 0 with the previous state, the new
state and the reason (R105, R106). -/
def changeState (new : StopState) (reason : StopReason) (s : State) : State :=
  noteOccurrence 0 [s.stop.state.code, new.code, reason.code]
    (s.withStop { s.stop with state := new, driveEnable := new.drives })

/-- The entry to HELD from RAMP, CUT or PARKED (R106, R109, R110): BRK ENGAGE offered, the detector reset, the ramp
timer stopped and the standstill set emptied. -/
def enterHeld (reason : StopReason) (s : State) : State :=
  let s := s.withStop
    { s.stop with rampTimer := .stopped, standstill := FlagSet.empty 7, detector := Detector.initial }
  refreshLamps (offerBrake .engage (changeState .held reason s))

/-! ## Waking and raising (R114, R196) -/

/-- Why the part leaves PARKED (R114). -/
inductive WakeReason
  | request
  | source (k : Fin 17)
  deriving DecidableEq, Repr

/-- The detail of notice 16: the reason and, for SOURCE, the number of the source (R114). -/
def WakeReason.detail : WakeReason → List Byte
  | .request => [0x00#8]
  | .source k => [0x01#8, u8 k.val]

/-- The reason of the change of stop state at a wake (R105). -/
def WakeReason.stopReason : WakeReason → StopReason
  | .request => .wakeRequest
  | .source _ => .wakeSource

/-- The part leaves PARKED for HELD and raises notice 16 (R114). -/
def wake (w : WakeReason) (s : State) : State := noteOccurrence 16 w.detail (enterHeld w.stopReason s)

/-- A notice raised: its occurrence, and the report of a wake-set source that becomes pending, which wakes a PARKED part
and is ignored in every other state (R191, R196). -/
def raise (k : Fin 17) (detail : List Byte) (s : State) : State :=
  let s' := noteOccurrence k detail s
  if !s.notices.entries[k].pending && s.notices.config.wake[k] && s.stop.state == .parked then wake (.source k) s'
  else s'

end Sys2Proof.Machine
end

