-- ==== Sys2Proof/Machine/Store.lean ====
section
/-! DEFINITION. The page memory, the page moves, the samples of a take, and the ends of a recording (R142 to R146, R153
to R160). -/

namespace Sys2Proof.Machine

/-! ## Page memory (R142) -/

/-- The number of pages (R142). -/
def pageCount : Nat := 3072

/-- The number of words of a page (R142). -/
def pageWords : Nat := 64

/-- What a word that is not listed reads as: after cold reset every word of every page is 0 (R142). -/
def unlistedWord : Int := 0

/-- The word address of a word of a page. -/
def wordAddress (page word : Nat) : Nat := page * pageWords + word

/-- The value of the word at an address (R142). -/
def readWord : List WordCell → Nat → Int
  | [], _ => unlistedWord
  | (b, v) :: rest, a => if a = b then v else readWord rest a

/-- The memory with one word written, in canonical form: addresses strictly rising, no entry equal to what an unlisted
word reads as. -/
def writeWord : List WordCell → Nat → Int → List WordCell
  | [], a, v => if v = unlistedWord then [] else [(a, v)]
  | (b, w) :: rest, a, v =>
    if a < b then (if v = unlistedWord then (b, w) :: rest else (a, v) :: (b, w) :: rest)
    else if a = b then (if v = unlistedWord then rest else (a, v) :: rest)
    else (b, w) :: writeWord rest a v

/-- A list of words written from an address on. -/
def writeWords (m : List WordCell) (a : Nat) : List Int → List WordCell
  | [] => m
  | v :: vs => writeWords (writeWord m a v) (a + 1) vs

/-- A page cleared: all 64 words 0 (R142). -/
def clearPage (m : List WordCell) (page : Nat) : List WordCell :=
  m.filter fun c => !(decide (page * pageWords ≤ c.1) && decide (c.1 < page * pageWords + pageWords))

/-- The words of a page from word 0 on. -/
def pageImage (m : List WordCell) (page : Nat) : List Int :=
  (List.range pageWords).map fun i => readWord m (wordAddress page i)

/-- The canonical form of the page memory: addresses strictly rising, no listed word reading as an unlisted one (DESIGN
CHOICE: assumption log 15). -/
def Memory.wf (m : List WordCell) : Bool :=
  decide (m.Pairwise fun c d => c.1 < d.1) && m.all fun c => c.2 != unlistedWord

/-! ## Page moves (R143) -/

/-- The take directory with another record for a take. -/
def Store.setTake (st : Store) (t : Fin 32) (r : Take) : Store := { st with takes := st.takes.set t.val r }

/-- Allocation to a take: the head of the free page list joins the tail of the take's chain and the page is cleared; an
allocation asked of an empty list fails and moves nothing (R142, R143). -/
def Store.allocate (st : Store) (t : Fin 32) : Option Store :=
  match st.free with
  | [] => none
  | p :: rest =>
    some ({ st with words := clearPage st.words p, free := rest }.setTake t
      { st.takes[t] with chain := st.takes[t].chain ++ [p] })

/-- Return from a take: the head of its chain joins the tail of the free page list (R143). -/
def Store.returnPage (st : Store) (t : Fin 32) : Store :=
  match st.takes[t].chain with
  | [] => st
  | p :: rest => { st with free := st.free ++ [p] }.setTake t { st.takes[t] with chain := rest }

/-- A take that becomes EMPTY (R144). -/
def Store.emptyTake (st : Store) (t : Fin 32) : Store := st.setTake t { Take.initial with chain := st.takes[t].chain }

/-- Every page of a LOADING take returned in chain order, and the take EMPTY (R152). -/
def Store.eraseLoading (st : Store) (t : Fin 32) : Store :=
  if st.takes[t].state = .loading then
    { st with free := st.free ++ st.takes[t].chain }.setTake t Take.initial
  else st

/-! ## Samples (R146) -/

/-- The samples per page of a take: floor(64 / n) for a mask of n axes (R144). -/
def Take.perPage (r : Take) : Nat := pageWords / r.mask.size

/-- The rank of an axis among the axes of a mask in ascending order. -/
def rankIn (mask : FlagSet 10) (k : Axis) : Nat := ((FlagSet.members mask).filter fun j => decide (j.val < k.val)).length

/-- The value of an axis in a sample of a take, read from the page chain (R146). -/
def Store.sampleValue (st : Store) (t : Fin 32) (k : Axis) (i : Nat) : Int :=
  let r := st.takes[t]
  let page := r.chain.getD (i / r.perPage) 0
  readWord st.words (wordAddress page ((i % r.perPage) * r.mask.size + rankIn r.mask k))

/-- One sample written at the take's sample count, a page allocated first where the sample is the first of a page; none
where the allocation fails (R158). -/
def Store.writeSample (st : Store) (t : Fin 32) (values : List Int) : Option Store :=
  let r := st.takes[t]
  let fill (st : Store) : Store :=
    let r := st.takes[t]
    let page := r.chain.getD (r.samples / r.perPage) 0
    let a := wordAddress page ((r.samples % r.perPage) * r.mask.size)
    { st with words := writeWords st.words a values }.setTake t { r with samples := r.samples + 1 }
  if r.samples % r.perPage = 0 then (st.allocate t).map fill else some (fill st)

/-! ## The recorder (R153 to R160) -/

/-- The values of the masked axes in the assembly buffer, in ascending axis order. -/
def Recorder.sample (r : Recorder) : List Int := (FlagSet.members r.mask).map fun k => r.buffer[k]

/-- The detail of notice 9: take, end reason, sample count, number of pages (R156). -/
def recordEndDetail (t : Fin 32) (reason : EndReason) (samples pages : Nat) : List Byte :=
  [u8 t.val, reason.code] ++ natBE 3 samples ++ natBE 2 pages

/-- The end of a recording or of an arming (R156): a RECORDING take becomes CLOSED with the reason, an armed take stays
EMPTY, and the recorder becomes IDLE. Nothing is raised here. -/
def closeRecorder (reason : EndReason) (s : State) : State :=
  match s.recorder.state, s.recorder.take with
  | .recording, some t =>
    (s.withStore (s.store.setTake t { s.store.takes[t] with state := .closed, endReason := some reason })).withRecorder
      Recorder.initial
  | _, _ => s.withRecorder Recorder.initial

/-- The end of a recording or of an arming with notice 9 and the lamps judged again (R153, R156). -/
def endRecording (reason : EndReason) (s : State) : State :=
  match s.recorder.take with
  | some t =>
    let detail :=
      if s.recorder.state = .recording then
        recordEndDetail t reason s.store.takes[t].samples s.store.takes[t].chain.length
      else recordEndDetail t reason 0 0
    refreshLamps (raise 9 detail (closeRecorder reason s))
  | none => s

/-- The open sample written `1 + repeats` times from the assembly buffer; the second component says whether every sample
found its page (R158). -/
def writeSamples (t : Fin 32) (s : State) : Nat → Bool → State × Bool
  | 0, _ => (s, true)
  | n + 1, repeated =>
    match s.store.writeSample t s.recorder.sample with
    | none => (s, false)
    | some st =>
      let s' := s.withStore st
      let s'' :=
        if repeated then s'.withRecorder { s'.recorder with repeats := satInc 65535 s'.recorder.repeats } else s'
      writeSamples t s'' n true

/-- Closing samples on a newer cycle number: the open sample, then min(d − 1, 3) repeat samples, then the new cycle
opens; a sample that finds no page ends the recording with STORE_FULL (R158). -/
def closeSamples (t : Fin 32) (d : Nat) (cycle : CycleNo) (s : State) : State :=
  match writeSamples t s (1 + min (d - 1) 3) false with
  | (s', true) => s'.withRecorder { s'.recorder with openCycle := some cycle }
  | (s', false) => endRecording .storeFull s'

/-- Whether a cycle number difference is that of a newer cycle (R157). -/
def isNewer (d : Nat) : Bool := decide (1 ≤ d ∧ d ≤ 32767)

/-- The recorder takes a cycle number: a newer one closes samples, and any other changes nothing (R157). -/
def recorderCycle (cycle : CycleNo) (s : State) : State :=
  match s.recorder.state, s.recorder.take, s.recorder.openCycle with
  | .recording, some t, some c =>
    let d := (cycle - c).toNat
    if isNewer d then closeSamples t d cycle s else s
  | _, _, _ => s

/-- The assembly buffer takes a value for a masked axis (R154, R157). -/
def bufferValue (k : Axis) (value : Int) (s : State) : State :=
  if s.recorder.mask[k] then
    s.withRecorder { s.recorder with buffer := s.recorder.buffer.set k.val value }
  else s

/-- The recorder takes a composed SET (R154, R157): while ARMED whatever its cycle number; while RECORDING it first
closes samples on a newer cycle, then its value replaces the axis's value unless it is older than the open cycle. -/
def recorderObserve (k : Axis) (value : Int) (cycle : CycleNo) (s : State) : State :=
  match s.recorder.state, s.recorder.openCycle with
  | .armed, _ => bufferValue k value s
  | .recording, some c =>
    if (cycle - c).toNat ≤ 32767 then
      let s' := recorderCycle cycle s
      if s'.recorder.state = .recording then bufferValue k value s' else s'
    else s
  | _, _ => s

/-- The first CYC arrival after arming: the take held becomes RECORDING with the arrival's cycle as the open cycle and
the arrival's timecode as its start timecode (R155). Its chain is the empty chain of an EMPTY take (R144, R145). -/
def startRecording (t : Fin 32) (cycle : CycleNo) (timecode : Timecode) (s : State) : State :=
  let r := s.recorder
  let take : Take :=
    { s.store.takes[t] with
      state := .recording, mask := r.mask, samples := 0, start := timecode, prints := r.prints }
  refreshLamps
    ((s.withStore (s.store.setTake t take)).withRecorder
      { r with state := .recording, openCycle := some cycle, repeats := 0 })

/-- A CYC arrival taken by the Take Recorder (R155, R157). -/
def recorderArrival (cycle : CycleNo) (timecode : Timecode) (s : State) : State :=
  match s.recorder.state, s.recorder.take with
  | .armed, some t => startRecording t cycle timecode s
  | .recording, _ => recorderCycle cycle s
  | _, _ => s

/-- STOP_RECORD in a recorder that is ARMED or RECORDING: the open sample is written without repeats and the recording
ends NORMAL, or STORE_FULL where the sample finds no page; an arming ends NORMAL (R159). -/
def stopRecording (s : State) : State :=
  match s.recorder.state, s.recorder.take with
  | .recording, some t =>
    match writeSamples t s 1 false with
    | (s', true) => endRecording .normal s'
    | (s', false) => endRecording .storeFull s'
  | .armed, _ => endRecording .normal s
  | _, _ => s

end Sys2Proof.Machine
end

