-- ==== Sys2Proof/Machine/Stop.lean ====
section
/-! DEFINITION. The stop state and its consequences, the cause sets, the counters with thresholds, and the queues that count
their drops (R14, R16, R33, R35, R100 to R113). -/

namespace Sys2Proof.Machine

/-! ## The player at a change of stop state (R162, R170) -/

/-- A value that may be absent: one byte 00h and zeros, or 01h and its bytes (R23). -/
def optionBytes (width : Nat) : Option (List Byte) → List Byte
  | none => 0x00#8 :: List.replicate width 0x00#8
  | some bs => 0x01#8 :: bs

/-- The player enters a state: notice 5 with the previous state, the new state, the take and the index, and the lamps
are judged again (R162). -/
def enterPlayer (new : PlayerState) (s : State) : State :=
  let prev := s.player.state
  let s' := s.withPlayer { s.player with state := new }
  let detail :=
    [prev.code, new.code] ++ optionBytes 1 (s'.player.take.map fun t => [u8 t.val]) ++ natBE 3 s'.player.index
  refreshLamps (raise 5 detail s')

/-- Whether a player in a state is suspended when the stop state leaves RUN (R170). -/
def PlayerState.suspends : PlayerState → Bool
  | .cueing => true
  | .ready => true
  | .playing => true
  | .idle => false
  | .suspended => false
  | .holding => false

/-- The stop state leaving RUN at the player: CUEING, READY or PLAYING becomes SUSPENDED with GO pending no (R170). -/
def suspendPlayer (s : State) : State :=
  if s.player.state.suspends then
    enterPlayer .suspended
      (s.withPlayer { s.player with suspendedFrom := some s.player.state, goPending := false })
  else s

/-- The stop state leaving RUN at the recorder: a recording or an arming ends INTERRUPTED, the open sample discarded
(R160). -/
def interruptRecorder (s : State) : State :=
  if s.recorder.state = .idle then s else endRecording .interrupted s

/-- What the stop state leaving RUN hands to the recorder and the player (R105, R160, R170). -/
def leaveRun (s : State) : State := suspendPlayer (interruptRecorder s)

/-! ## Changes of stop state (R105 to R112) -/

/-- Every last-forwarded entry invalidated (R82). -/
def invalidateLast (s : State) : State := s.withGate { s.gate with last := Vector.replicate 10 none }

/-- The entry to CUT from another state (R82, R105, R106): the ramp timer stopped, the standstill set emptied, the
detector reset, every last-forwarded entry invalid, BRK ENGAGE offered. From RUN, notices 9 and 5 of the recorder and the
player belong to it, as at the entry to RAMP (DESIGN CHOICE: assumption log 9). -/
def enterCut (reason : StopReason) (s : State) : State :=
  let fromRun := s.stop.state == .run
  let s := s.withStop
    { s.stop with rampTimer := .stopped, standstill := FlagSet.empty 7, detector := Detector.initial }
  let s := offerBrake .engage (invalidateLast (changeState .cut reason s))
  refreshLamps (if fromRun then leaveRun s else s)

/-- One DEC for each axis 0 to 6 with the deceleration of its record (R108). -/
def offerDecels (s : State) : State :=
  (List.finRange 7).foldl (fun s k => offerDecel k s.pose.axes[k.val].deceleration s) s

/-- The entry to RAMP from RUN (R105, R108): the entry cycle, an empty standstill set, the ramp timer started, a DEC for
each motion axis. What leaving RUN does to the recorder and the player, with notices 9 and 5, belongs to the entry and so
comes before the causes join the trip set with notice 1: no rule gives that order (DESIGN CHOICE: assumption log 9). -/
def enterRamp (reason : StopReason) (s : State) : State :=
  let s := changeState .ramp reason s
  let s := s.withStop
    { s.stop with
      entryCycle := s.cycle.last
      standstill := FlagSet.empty 7
      rampTimer := s.startTimer s.stop.config.rampLimit }
  refreshLamps (leaveRun (offerDecels s))

/-- The last-forwarded entries of axes 0 to 6 reloaded from the pose entries at re-arm (R82). -/
def reloadLast (s : State) : State :=
  s.withGate
    { s.gate with
      last := Vector.ofFn fun k : Fin 10 =>
        if k.val ≤ 6 then some s.pose.entries[k].position else s.gate.last[k] }

/-- Re-arm, HELD to RUN (R112): BRK RELEASE offered, the gate's entries reloaded, the trip set emptied. -/
def rearm (s : State) : State :=
  let s := changeState .run .rearm (s.withStop { s.stop with detector := Detector.initial })
  let s := reloadLast (offerBrake .release s)
  refreshLamps (s.withStop { s.stop with trip := FlagSet.empty 21 })

/-! ## Parking (R113) -/

/-- PARK in HELD with no wake-set source pending (R113): drive enable low, and notice 0, which itself may wake the part.
-/
def park (s : State) : State :=
  let s := s.withStop { s.stop with state := .parked, driveEnable := false, detector := Detector.initial }
  raise 0 [StopState.held.code, StopState.parked.code, StopReason.park.code] (refreshLamps s)

/-! ## The cause sets (R100, R104, R105, R107) -/

/-- A cause joins the trip set: where it was absent, notice 1 is raised with the cause as detail (R104). -/
def joinTrip (c : Fin 21) (s : State) : State :=
  if s.stop.trip[c] then s
  else raise 1 [u8 c.val] (s.withStop { s.stop with trip := FlagSet.insert s.stop.trip c })

/-- Every cause of the present set joins the trip set, in code order (R104). -/
def joinPresent (s : State) : State := (FlagSet.members s.stop.present).foldl (fun s c => joinTrip c s) s

/-- Whether a CUT-category cause is in the present set. -/
def Stop.cutPresent (st : Stop) : Bool := (List.finRange 21).any fun c => codeIsCut c && st.present[c]

/-- CUT is left for HELD when no CUT-category cause is present, judged at a change of the present set and at CLEAR_STOP
(R107). The reason in notice 0 is CLEARED also where the change is the entry of a RAMP-category cause, for which R105
leaves the reason open (DESIGN CHOICE: assumption log 20). -/
def judgeCut (s : State) : State :=
  if s.stop.state = .cut ∧ s.stop.cutPresent = false then enterHeld .cleared s else s

/-- A condition cause enters the present set (R104, R105): a CUT-category cause takes every state to CUT, and in CUT
offers the brake order again; a RAMP-category cause takes RUN to RAMP and elsewhere joins the trip set. No rule orders
notice 1 against the notices of a change of stop state. A change that the cause itself brings about comes first, with
notice 0 and, on leaving RUN, notice 9 of the recorder and notice 5 of the player, and then notice 1; where a RAMP-category
cause enters in CUT and CUT is left for HELD, it joins the trip set with notice 1 before that change and its notice 0 (all
DESIGN CHOICE: assumption log 9). -/
def causeEnters (c : Cause) (s : State) : State :=
  if s.stop.present[c.code] then s
  else
    let prev := s.stop.state
    let s := s.withStop { s.stop with present := FlagSet.insert s.stop.present c.code }
    if c.isCut then
      if prev = .cut then joinTrip c.code (offerBrake .engage s)
      else if prev = .run then joinPresent (enterCut (.cause c) s)
      else joinTrip c.code (enterCut (.cause c) s)
    else if prev = .run then joinPresent (enterRamp (.cause c) s)
    else judgeCut (joinTrip c.code s)

/-- A condition cause leaves the present set, and CUT may be left for HELD (R104, R107). -/
def causeLeaves (c : Cause) (s : State) : State :=
  if s.stop.present[c.code] then
    judgeCut (s.withStop { s.stop with present := FlagSet.erase s.stop.present c.code })
  else s

/-- The hand-over of a condition: its cause is present while the condition holds (R100). -/
def handOver (c : Cause) (holds : Bool) (s : State) : State := if holds then causeEnters c s else causeLeaves c s

/-- A RAMP-category event cause occurs (R104, R105): RUN becomes RAMP, and the cause joins the trip set, notice 1 coming
after the notices of the change, as in causeEnters (DESIGN CHOICE: assumption log 9). -/
def rampEvent (c : Cause) (s : State) : State :=
  if s.stop.state = .run then joinTrip c.code (joinPresent (enterRamp (.cause c) s)) else joinTrip c.code s

/-- The event cause RAMP_TIMEOUT (R105, R109): RAMP becomes CUT, and the cause joins the trip set, notice 1 coming after
notice 0, as in causeEnters (DESIGN CHOICE: assumption log 9). -/
def rampTimedOut (s : State) : State := joinTrip Cause.rampTimeout.code (enterCut (.cause .rampTimeout) s)

/-! ## Counters with thresholds (R33, R35) -/

/-- The value of a counter. -/
def State.counter (s : State) (p : Port) : CounterName → Nat
  | .errored => (s.link.port p).errored
  | .unknownKind => (s.link.port p).unknownKind
  | .queueDrops => (s.link.port p).queueDrops
  | .sequence => s.cycle.sequenceErrors

/-- The threshold of a counter (R35). -/
def Thresholds.get (t : Thresholds) (p : Port) : CounterName → Nat
  | .errored => match p with | .u => t.erroredU | .d => t.erroredD
  | .unknownKind => match p with | .u => t.unknownU | .d => t.unknownD
  | .queueDrops => match p with | .u => t.dropsU | .d => t.dropsD
  | .sequence => t.sequence

/-- The state with another value of a counter. -/
def State.setCounter (s : State) (p : Port) (c : CounterName) (v : Nat) : State :=
  match c with
  | .errored => s.withLink (s.link.setPort p { s.link.port p with errored := v })
  | .unknownKind => s.withLink (s.link.setPort p { s.link.port p with unknownKind := v })
  | .queueDrops => s.withLink (s.link.setPort p { s.link.port p with queueDrops := v })
  | .sequence => s.withCycle { s.cycle with sequenceErrors := v }

/-- Whether an increment crosses a threshold: from at or below a nonzero threshold to above it (R35). -/
def crosses (threshold before after : Nat) : Bool :=
  decide (threshold ≠ 0) && decide (before ≤ threshold) && decide (threshold < after)

/-- A counter increments, saturating at 65,535; a crossing raises notice 14 with the port, the counter and the threshold
(R33, R35). -/
def bumpCounter (p : Port) (c : CounterName) (s : State) : State :=
  let before := s.counter p c
  let after := satInc 65535 before
  let threshold := s.link.thresholds.get p c
  let s' := s.setCounter p c after
  if crosses threshold before after then raise 14 ([portCode p, c.code] ++ natBE 2 threshold) s' else s'

/-! ## The queues of both ports (R14, R16) -/

/-- The most frames that the forward queue and the D queue hold (R14, R16). -/
def queueLimit : Nat := 16

/-- A frame offered to the U forward queue: it joins the tail, or is dropped and counted when the queue is full (R14).
-/
def offerForward (f : Frame) (s : State) : State :=
  if s.spine.forward.length < queueLimit then
    opportunityU (s.withSpine { s.spine with forward := s.spine.forward ++ [f] })
  else bumpCounter .u .queueDrops s

/-- A frame offered to the D queue: it joins the tail, or is dropped and counted when the queue is full (R16); in TEST
it is discarded without being counted (R18). -/
def offerQueueD (f : Frame) (s : State) : State :=
  if s.inTest then s
  else if s.spine.queueD.length < queueLimit then
    opportunityD (s.withSpine { s.spine with queueD := s.spine.queueD ++ [f] })
  else bumpCounter .d .queueDrops s

end Sys2Proof.Machine
end

