-- ==== Sys2Proof/Machine/Geometry.lean ====
section
/-! DEFINITION. The head position, the stop projection and the tests of boxes, in integers (R54 to R59, R65 to R69). -/

namespace Sys2Proof.Machine

/-! ## The sine table (R56): entry k is 16,384 × sin(k × π / 512), rounded half away from zero (DEDUCED: assumption
log 10) -/

/-- Entries 0 to 31 of the sine table (R56). -/
def sineTable0 : List Int :=
  [0, 101, 201, 302, 402, 503, 603, 704, 804, 904, 1005, 1105, 1205, 1306, 1406, 1506, 1606, 1706, 1806,
   1906, 2006, 2105, 2205, 2305, 2404, 2503, 2603, 2702, 2801, 2900, 2999, 3098]

/-- Entries 32 to 63 of the sine table (R56). -/
def sineTable1 : List Int :=
  [3196, 3295, 3393, 3492, 3590, 3688, 3786, 3883, 3981, 4078, 4176, 4273, 4370, 4467, 4563, 4660, 4756,
   4852, 4948, 5044, 5139, 5235, 5330, 5425, 5520, 5614, 5708, 5803, 5897, 5990, 6084, 6177]

/-- Entries 64 to 95 of the sine table (R56). -/
def sineTable2 : List Int :=
  [6270, 6363, 6455, 6547, 6639, 6731, 6823, 6914, 7005, 7096, 7186, 7276, 7366, 7456, 7545, 7635, 7723,
   7812, 7900, 7988, 8076, 8163, 8250, 8337, 8423, 8509, 8595, 8680, 8765, 8850, 8935, 9019]

/-- Entries 96 to 127 of the sine table (R56). -/
def sineTable3 : List Int :=
  [9102, 9186, 9269, 9352, 9434, 9516, 9598, 9679, 9760, 9841, 9921, 10001, 10080, 10159, 10238, 10316,
   10394, 10471, 10549, 10625, 10702, 10778, 10853, 10928, 11003, 11077, 11151, 11224, 11297, 11370, 11442,
   11514]

/-- Entries 128 to 159 of the sine table (R56). -/
def sineTable4 : List Int :=
  [11585, 11656, 11727, 11797, 11866, 11935, 12004, 12072, 12140, 12207, 12274, 12340, 12406, 12472, 12537,
   12601, 12665, 12729, 12792, 12854, 12916, 12978, 13039, 13100, 13160, 13219, 13279, 13337, 13395, 13453,
   13510, 13567]

/-- Entries 160 to 191 of the sine table (R56). -/
def sineTable5 : List Int :=
  [13623, 13678, 13733, 13788, 13842, 13896, 13949, 14001, 14053, 14104, 14155, 14206, 14256, 14305, 14354,
   14402, 14449, 14497, 14543, 14589, 14635, 14680, 14724, 14768, 14811, 14854, 14896, 14937, 14978, 15019,
   15059, 15098]

/-- Entries 192 to 223 of the sine table (R56). -/
def sineTable6 : List Int :=
  [15137, 15175, 15213, 15250, 15286, 15322, 15357, 15392, 15426, 15460, 15493, 15525, 15557, 15588, 15619,
   15649, 15679, 15707, 15736, 15763, 15791, 15817, 15843, 15868, 15893, 15917, 15941, 15964, 15986, 16008,
   16029, 16049]

/-- Entries 224 to 255 of the sine table (R56). -/
def sineTable7 : List Int :=
  [16069, 16088, 16107, 16125, 16143, 16160, 16176, 16192, 16207, 16221, 16235, 16248, 16261, 16273, 16284,
   16295, 16305, 16315, 16324, 16332, 16340, 16347, 16353, 16359, 16364, 16369, 16373, 16376, 16379, 16381,
   16383, 16384]

/-- Entries 256 to 256 of the sine table (R56). -/
def sineTable8 : List Int :=
  [16384]

/-- The sine table of 257 entries (R56). -/
def sineTable : List Int :=
  sineTable0 ++ sineTable1 ++ sineTable2 ++ sineTable3 ++ sineTable4 ++ sineTable5 ++ sineTable6 ++ sineTable7
    ++ sineTable8

/-- Entry k of the sine table. -/
def sineEntry (k : Nat) : Int := sineTable.getD k 0

/-- The magnitude of the sine for a reduced angle b of 0..16,384, interpolated between two entries (R57). -/
def sineMagnitude (b : Nat) : Int :=
  let k := b / 64
  let f := b % 64
  if f = 0 then sineEntry k else sineEntry k + ((sineEntry (k + 1) - sineEntry k) * (f : Int) + 32) / 64

/-- The sine of an angle, times 16,384 (R57). -/
def sine (a : Int) : Int :=
  let q := (a % 65536).toNat
  if q < 16384 then sineMagnitude q
  else if q < 32768 then sineMagnitude (32768 - q)
  else if q < 49152 then -sineMagnitude (q - 32768)
  else -sineMagnitude (65536 - q)

/-- The cosine of an angle, times 16,384: the sine a quarter turn on (R57). -/
def cosine (a : Int) : Int := sine (a + 16384)

/-- The product of a length and a sine or cosine with one rounding (R58). -/
def scaled (v c : Int) : Int := (v * c + 8192) / 16384

/-- Counts converted to a unit value with the unit multiplier and shift of an axis record (R54). -/
def unitValue (r : AxisRecord) (n : Int) : Int :=
  let product := n * r.unitMultiplier
  clampI32
    (if r.unitShift = 0 then product
     else (product + (2 : Int) ^ (r.unitShift - 1)) / (2 : Int) ^ r.unitShift)

/-- The head position of four counts, from the records of axes 0 to 3 and the geometry record (R54, R55, R58, R59). -/
def headPoint (p : Pose) (counts : Fin 4 → Int) : Point :=
  let t := unitValue p.axes[0] (counts 0)
  let swing := unitValue p.axes[1] (counts 1) % 65536
  let lift := clampInt (-16384) 16384 (unitValue p.axes[2] (counts 2))
  let reach := clampInt 0 30000 (unitValue p.axes[3] (counts 3))
  let h := scaled reach (cosine lift)
  { x := clampI32 (t + p.geometry.pivot.x + scaled h (cosine swing))
    y := clampI32 (p.geometry.pivot.y + scaled h (sine swing))
    z := clampI32 (p.geometry.pivot.z + scaled reach (sine lift) - (p.geometry.headDrop : Int)) }

/-- The stop distance ceil(v² / 2a) (R65). -/
def stopDistance (v : Int) (a : Nat) : Nat := (v.natAbs * v.natAbs + (2 * a - 1)) / (2 * a)

/-- The projected counts of an axis: where it comes to rest, clamped to the soft limits (R65). -/
def projected (r : AxisRecord) (m : Motion) : Int :=
  let d : Int := stopDistance m.velocity r.deceleration
  r.clampTarget (if 0 < m.velocity then m.position + d else if m.velocity < 0 then m.position - d else m.position)

/-- A point moved by the same amount on every coordinate. -/
def Point.shift (p : Point) (d : Int) : Point := ⟨p.x + d, p.y + d, p.z + d⟩

/-- A box expanded on every side (R67). -/
def Box.expand (b : Box) (r : Nat) : Box := ⟨b.lo.shift (-(r : Int)), b.hi.shift r⟩

/-- The box that spans two points. -/
def spanning (p q : Point) : Box :=
  ⟨⟨min p.x q.x, min p.y q.y, min p.z q.z⟩, ⟨max p.x q.x, max p.y q.y, max p.z q.z⟩⟩

/-- The swept box: it spans P and Q, expanded by the head radius (R67). -/
def sweptBox (p q : Point) (radius : Nat) : Box := (spanning p q).expand radius

/-- Two boxes meet when their closed intervals overlap on each coordinate (R69). -/
def Box.meets (a b : Box) : Bool :=
  decide (a.lo.x ≤ b.hi.x ∧ b.lo.x ≤ a.hi.x) && decide (a.lo.y ≤ b.hi.y ∧ b.lo.y ≤ a.hi.y)
    && decide (a.lo.z ≤ b.hi.z ∧ b.lo.z ≤ a.hi.z)

/-- Whether a zone is active in a sample of the presence inputs: a CREW zone while its input is asserted, any other kind
always (R68). -/
def Zone.active (z : Zone) (sample : FlagSet 8) : Bool :=
  match z.kind with
  | .crew => match z.presence with | some i => sample[i] | none => false
  | _ => true

/-- The state of a zone in an evaluation (R69). -/
def Zone.judge (z : Zone) (sample : FlagSet 8) (b : Box) : ZoneState :=
  if !z.enabled || !z.active sample then .clear
  else if b.meets z.box then .intrude
  else if (b.expand z.band).meets z.box then .approach
  else .clear

/-- The largest integer whose square is at or below n, for n below 2^52, found bit by bit (R140). -/
def floorSqrt (n : Nat) : Nat :=
  (List.range 26).reverse.foldl (fun r i => if (r + 2 ^ i) * (r + 2 ^ i) ≤ n then r + 2 ^ i else r) 0

end Sys2Proof.Machine
end

