-- ==== Sys2Proof/Machine/Gate.lean ====
section
/-! DEFINITION. The Command Gate: acceptance, clamp and slew of a setpoint, and the SET that leaves (R81 to R95), with
what the Take Player takes from the gate (R173, R175). -/

namespace Sys2Proof.Machine

/-- A setpoint that reached the gate as refused: dropped and counted (R85). -/
def gateRefusal (s : State) : State := s.withGate { s.gate with refusals := satInc 65535 s.gate.refusals }

/-- A setpoint dropped and counted as withheld (R86). -/
def gateWithhold (k : Axis) (s : State) : State :=
  s.withGate { s.gate with withheld := s.gate.withheld.set k.val (satInc 65535 s.gate.withheld[k]) }

/-- A setpoint dropped and counted as overridden (R86). -/
def gateOverride (k : Axis) (s : State) : State :=
  s.withGate { s.gate with overridden := s.gate.overridden.set k.val (satInc 65535 s.gate.overridden[k]) }

/-- The outcome of the acceptance tests (R86). -/
inductive Acceptance
  | accepted
  | withheld
  | overridden
  deriving DecidableEq, Repr

/-- Whether the stop state forbids a setpoint for an axis (R86, test 2). -/
def stopForbids (st : StopState) (k : Axis) : Bool :=
  if isMotion k then st != .run else st == .cut || st == .parked

/-- Whether the lens status of an axis is FAULT (R86, test 3). -/
def lensFaulted (s : State) (k : Axis) : Bool :=
  match lensOf k with
  | some i => s.lens.status i == .fault
  | none => false

/-- The acceptance tests in order (R86). -/
def acceptance (src : Source) (k : Axis) (s : State) : Acceptance :=
  if !s.pose.axes[k].valid then .withheld
  else if stopForbids s.stop.state k then .withheld
  else if lensFaulted s k then .withheld
  else if src == .console && s.player.mask[k] then .overridden
  else if src == .console && k == 7 && s.lens.follow.on then .overridden
  else if s.gate.last[k].isNone && !s.pose.entries[k].present then .withheld
  else .accepted

/-- The last-forwarded value from which a setpoint is slewed: the entry, or the seed, the pose position clamped to the
soft limits (R83). -/
def lastOrSeed (k : Axis) (s : State) : Int :=
  match s.gate.last[k] with
  | some v => v
  | none => s.pose.axes[k].clampTarget s.pose.entries[k].position

/-- The step of a gating (R89). -/
def gateStep (src : Source) (k : Axis) (s : State) : Nat :=
  let r := s.pose.axes[k]
  if isMotion k then
    let e := if src == .cueing then min s.env.scale.effective r.cueScale else s.env.scale.effective
    max 1 (r.stepMax * e / 16)
  else r.stepMax

/-- The forwarded value: L moved toward the clamped target by at most one step (R90). -/
def slew (last target : Int) (step : Nat) : Int :=
  let diff := target - last
  if (step : Int) < diff then last + step else if diff < -(step : Int) then last - step else target

/-- Whether a gating clamps or shortens (R91). -/
def clampedOrShortened (last asked target : Int) (step : Nat) : Bool :=
  let diff := target - last
  decide (target ≠ asked) || decide ((step : Int) < diff) || decide (diff < -(step : Int))

/-- A history ring that takes a cycle number and a value: the entry of the cycle takes the new value, or a new entry is
added, the oldest of 8 removed first (R173). -/
def ringTake (ring : List RingEntry) (cycle : CycleNo) (value : Int) : List RingEntry :=
  if ring.any fun e => e.cycle == cycle then
    ring.map fun e => if e.cycle = cycle then ⟨cycle, value⟩ else e
  else (if 8 ≤ ring.length then ring.drop 1 else ring) ++ [⟨cycle, value⟩]

/-- The player takes a composed PLAYER setpoint of a masked axis into its history ring (R92, R173). -/
def ringObserve (src : Source) (k : Axis) (value : Int) (cycle : CycleNo) (s : State) : State :=
  if src == .player && s.player.mask[k] then
    s.withPlayer { s.player with rings := s.player.rings.set k.val (ringTake s.player.rings[k] cycle value) }
  else s

/-- Whether a clamp report is latched: of a PLAYER setpoint, or of a CUEING setpoint in READY (R175). -/
def latchesClamp (src : Source) (p : Player) : Bool :=
  match src with
  | .player => true
  | .cueing => p.state == .ready
  | _ => false

/-- The player takes a clamp report: latched once in a run, with notice 8 (R175). -/
def clampReport (src : Source) (k : Axis) (cycle : CycleNo) (s : State) : State :=
  if latchesClamp src s.player && !s.player.clamped then
    raise 8 ([u8 k.val, src.code] ++ natBE 2 cycle.toNat) (s.withPlayer { s.player with clamped := true })
  else s

/-- A composed SET (R90, R92): the entry takes F, and the frame goes to the D queue, the recorder and, for PLAYER, the
history ring. -/
def composeSet (src : Source) (k : Axis) (value : Int) (cycle : CycleNo) (s : State) : State :=
  let s := s.withGate { s.gate with last := s.gate.last.set k.val (some value) }
  ringObserve src k value cycle (recorderObserve k value cycle (offerQueueD (setFrame k cycle value) s))

/-- An accepted setpoint gated: clamped, slewed and composed, the clamp counted and reported (R88 to R92). The SET is
handed on before the clamp is reported, so a notice 14 or 9 of the hand-on comes before notice 8: no rule gives that
order (DESIGN CHOICE: assumption log 9). -/
def gateAccepted (src : Source) (k : Axis) (asked : Int) (cycle : CycleNo) (s : State) : State :=
  let last := lastOrSeed k s
  let target := s.pose.axes[k].clampTarget asked
  let step := gateStep src k s
  let clamped := clampedOrShortened last asked target step
  let s := if clamped then
      s.withGate { s.gate with clamps := s.gate.clamps.set k.val (satInc 65535 s.gate.clamps[k]) }
    else s
  let s := composeSet src k (slew last target step) cycle s
  if clamped then clampReport src k cycle s else s

/-- A setpoint submitted to the Command Gate (R84, R86). -/
def submit (src : Source) (k : Axis) (asked : Int) (cycle : CycleNo) (s : State) : State :=
  match acceptance src k s with
  | .withheld => gateWithhold k s
  | .overridden => gateOverride k s
  | .accepted => gateAccepted src k asked cycle s

end Sys2Proof.Machine
end

