-- ==== Sys2Proof/Machine/LensUnit.lean ====
section
/-! DEFINITION. The Lens Unit: translation, lens status, presets and focus follow (R125 to R141). -/

namespace Sys2Proof.Machine

/-! ## Translation (R129 to R131) -/

/-- The quotient a / b rounded to the nearest integer with halves away from zero (R129). -/
def roundHalfAway (a b : Int) : Int :=
  let q : Int := ((2 * a.natAbs + b.natAbs) / (2 * b.natAbs) : Nat)
  a.sign * b.sign * q

/-- The user values and counts of a curve at a point number. -/
def Curve.at (c : Curve) (i : Nat) : CurvePoint := c.points.getD i ⟨0, 0⟩

/-- The number of the last segment, n − 2. -/
def Curve.lastSegment (c : Curve) : Nat := c.points.length - 2

/-- The largest segment of 0..m whose first point meets a test, and 0 where none does (R129, R131). -/
def largestSegment (test : Nat → Bool) : Nat → Nat
  | 0 => 0
  | m + 1 => if test (m + 1) then m + 1 else largestSegment test m

/-- A user value clamped to the user values of the curve (R129, step 1). -/
def Curve.clampUser (c : Curve) (u : Int) : Int :=
  clampInt (c.at 0).user (c.at (c.points.length - 1)).user u

/-- Forward translation of a user value to counts (R129). -/
def Curve.forward (c : Curve) (u : Int) : Int :=
  let v := c.clampUser u
  let i := largestSegment (fun i => decide (((c.at i).user : Int) ≤ v)) c.lastSegment
  let p := c.at i
  let q := c.at (i + 1)
  p.count + roundHalfAway ((v - p.user) * (q.count - p.count)) ((q.user : Int) - p.user)

/-- Whether the counts of a curve rise (R125). -/
def Curve.increasing (c : Curve) : Bool := decide ((c.at 0).count < (c.at (c.points.length - 1)).count)

/-- Inverse translation of a count to a user value (R131). -/
def Curve.inverse (c : Curve) (n : Int) : Int :=
  let first := (c.at 0).count
  let final := (c.at (c.points.length - 1)).count
  let v := clampInt (min first final) (max first final) n
  let i :=
    if c.increasing then largestSegment (fun i => decide ((c.at i).count ≤ v)) c.lastSegment
    else largestSegment (fun i => decide (v ≤ (c.at i).count)) c.lastSegment
  let p := c.at i
  let q := c.at (i + 1)
  (p.user : Int) + roundHalfAway ((v - p.count) * ((q.user : Int) - p.user)) (q.count - p.count)

/-- The user value that the Frame Dispatcher fills into an FBK (R11, R131). -/
def userValue (s : State) (k : Axis) (position : Int) : Int :=
  match lensOf k with
  | some i => if s.lens.curves[i].valid then s.lens.curves[i].inverse position else 0
  | none => 0

/-- A forward translation through the curve of a lens axis: the count, and the end-reached flag set where the first step
changed the user value (R129, R130). -/
def translate (i : Fin 3) (u : Int) (s : State) : State × Int :=
  let c := s.lens.curves[i]
  let s' :=
    if c.clampUser u ≠ u then s.withLens { s.lens with endReached := FlagSet.insert s.lens.endReached i } else s
  (s', c.forward u)

/-! ## Fingerprints and curves (R125 to R127) -/

/-- The fingerprint of a curve: the frame check over its identity and points, each value in four bytes (R126). -/
def curveFingerprint (identity : Vector Byte 4) (points : List CurvePoint) : BitVec 16 :=
  crc16 (identity.toList ++ points.flatMap fun p => natBE 4 p.user ++ intBE 4 p.count)

/-- The user range of a lens axis (R125). -/
def userRange (i : Fin 3) : Nat × Nat :=
  if i.val = 0 then (1, 16777215) else if i.val = 1 then (50, 9999) else (10, 30000)

/-- Whether a list of points can be a valid curve of a lens axis: 2 to 24 points, user values in the user range and
rising strictly, counts rising or falling strictly (R125). -/
def curvePointsOk (i : Fin 3) (points : List CurvePoint) : Bool :=
  decide (2 ≤ points.length ∧ points.length ≤ 24)
    && points.all (fun p => decide ((userRange i).1 ≤ p.user ∧ p.user ≤ (userRange i).2))
    && decide (points.Pairwise fun p q => p.user < q.user)
    && (decide (points.Pairwise fun p q => p.count < q.count)
      || decide (points.Pairwise fun p q => q.count < p.count))

/-- Whether a curve of a lens axis compares equal with a stored fingerprint (R163, test 7). -/
def Lens.matchesPrint (l : Lens) (i : Fin 3) (stored : Option (BitVec 16)) : Bool :=
  l.curves[i].valid && stored == some l.curves[i].fingerprint

/-! ## Setpoints in the user basis (R132, R141) -/

/-- A USER setpoint for a lens axis: the trim of focus follow, a translated CONSOLE setpoint, or a refusal at the gate
(R132, R141). -/
def lensSetpoint (i : Fin 3) (value : Int) (cycle : CycleNo) (s : State) : State :=
  if i.val = 0 ∧ s.lens.follow.on then
    let f := s.lens.follow
    s.withLens { s.lens with follow := { f with trim := clampInt (-(f.trimLimit : Int)) f.trimLimit value } }
  else if s.lens.curves[i].valid then
    let t := translate i value s
    submit .console (lensAxis i) t.2 cycle t.1
  else gateRefusal s

/-! ## Focus follow (R136 to R140) -/

/-- A difference clamped to the user range of focus (R140). -/
def followDifference (a b : Int) : Int := clampInt (-16777215) 16777215 (a - b)

/-- The distance from a head position to a subject point (R140). -/
def followDistance (p subject : Point) : Nat :=
  let square (a b : Int) : Nat := (followDifference a b).natAbs * (followDifference a b).natAbs
  floorSqrt (square p.x subject.x + square p.y subject.y + square p.z subject.z)

/-- The user value of a follow submission: the distance plus the trim, clamped to the user range of focus (R140). -/
def followUser (distance : Nat) (trim : Int) : Int := clampInt 1 16777215 ((distance : Int) + trim)

/-- The follow submission at a completed pose while follow is on (R140). -/
def followSubmission (p : Point) (cycle : CycleNo) (s : State) : State :=
  if s.lens.follow.on then
    let d := followDistance p s.lens.follow.subject
    let u := followUser d s.lens.follow.trim
    let t := translate 0 u s
    let s := t.1.withLens
      { t.1.lens with follow := { t.1.lens.follow with latest := some ⟨cycle, d, u.toNat⟩ } }
    submit .follow 7 t.2 cycle s
  else s

/-- Follow turned on with a preset: its subject point and trim limit, trim 0, no latest follow (R138). -/
def turnFollowOn (k : Fin 4) (s : State) : State :=
  let p := s.lens.subjects[k]
  s.withLens
    { s.lens with
      follow := { on := true, preset := some k, subject := p.point, trim := 0, trimLimit := p.trimLimit, latest := none } }

/-- Follow turned off: the preset absent and the trim 0 (R139). -/
def turnFollowOff (s : State) : State :=
  s.withLens { s.lens with follow := { s.lens.follow with on := false, preset := none, trim := 0 } }

/-! ## Lens status (R50, R133) -/

/-- The fault flag taken from an FBK of a lens axis: FAULT sets it and, where it was clear, raises notice 12; READY
clears it; BRAKED and DISABLED leave it (R133). -/
def lensFeedback (i : Fin 3) (f : FbkFields) (s : State) : State :=
  match f.status with
  | .fault =>
    if s.lens.fault[i] then s
    else
      raise 12 [u8 (lensAxis i).val, LensStatus.fault.code, f.statusCode]
        (s.withLens { s.lens with fault := FlagSet.insert s.lens.fault i })
  | .ready => s.withLens { s.lens with fault := FlagSet.erase s.lens.fault i }
  | _ => s

/-- The judgement of staleness of a lens axis: STALE with notice 12 where it was not stale, FRESH where it no longer is
(R50). -/
def judgeStale (i : Fin 3) (s : State) : State :=
  let now := s.pose.isStale (lensAxis i)
  if now && !s.lens.stale[i] then
    raise 12 [u8 (lensAxis i).val, LensStatus.stale.code]
      (s.withLens { s.lens with stale := FlagSet.insert s.lens.stale i })
  else if !now && s.lens.stale[i] then
    s.withLens { s.lens with stale := FlagSet.erase s.lens.stale i }
  else s

end Sys2Proof.Machine
end

