-- ==== Sys2Proof/Machine/PlayerUnit.lean ====
section
/-! DEFINITION. The Take Player, and the requests that cue actions share: ARM_RECORD, STOP_RECORD, CUE, GO, RESUME,
RELEASE, FOLLOW_ON (R138, R154, R159, R161 to R176). -/

namespace Sys2Proof.Machine

/-! ## Requests of the player (R163 to R172) -/

/-- Whether every lens axis in a take's mask has a valid curve of the stored fingerprint (R163, test 7). -/
def printsMatch (r : Take) (l : Lens) : Bool :=
  (List.finRange 3).all fun i => !(r.mask[lensAxis i]) || l.matchesPrint i r.prints[i]

/-- CUE of a take: the tests of R163 in order, then CUEING (R163, R164). -/
def cueTake (t : Fin 32) (s : State) : Result × State :=
  let r := s.store.takes[t]
  if s.player.state ≠ .idle then (.refused, s)
  else if s.stop.state ≠ .run then (.refused, s)
  else if r.state ≠ .closed then (.refused, s)
  else if r.samples = 0 then (.refused, s)
  else if r.mask[7] && s.lens.follow.on then (.refused, s)
  else if !printsMatch r s.lens then (.mismatch, s)
  else (.ok, enterPlayer .cueing (s.withPlayer { Player.initial with take := some t, mask := r.mask }))

/-- GO (R167). -/
def goPlay (s : State) : Result × State :=
  if s.player.state = .ready then (.ok, s.withPlayer { s.player with goPending := true }) else (.refused, s)

/-- The target sample that RESUME sets (R171). -/
def resumeIndex (p : Player) : Nat := if p.suspendedFrom = some .playing then p.index - 1 else p.index

/-- RESUME (R171). -/
def resumePlay (s : State) : Result × State :=
  if s.player.state = .suspended ∧ s.stop.state = .run then
    (.ok, enterPlayer .cueing
      (s.withPlayer
        { s.player with
          index := resumeIndex s.player, suspendedFrom := none, rings := Vector.replicate 10 [] }))
  else (.refused, s)

/-- Whether RELEASE is accepted in a player state (R172). -/
def PlayerState.releasable : PlayerState → Bool
  | .ready => true
  | .suspended => true
  | .holding => true
  | .idle => false
  | .cueing => false
  | .playing => false

/-- RELEASE: the player IDLE with an empty mask and the take no longer referenced (R172). -/
def releasePlay (s : State) : Result × State :=
  if s.player.state.releasable then
    (.ok, enterPlayer .idle (s.withPlayer { Player.initial with state := s.player.state }))
  else (.refused, s)

/-- FOLLOW_ON of a preset (R138). -/
def followOn (k : Fin 4) (s : State) : Result × State :=
  if !s.lens.curves[0].valid || s.player.mask[7] then (.refused, s) else (.ok, turnFollowOn k s)

/-! ## Requests of the recorder (R154, R159) -/

/-- The start value of an axis: the last-forwarded value, or else the position of a present pose entry (R154). -/
def startValue (s : State) (k : Axis) : Option Int :=
  match s.gate.last[k] with
  | some v => some v
  | none => if s.pose.entries[k].present then some s.pose.entries[k].position else none

/-- The fingerprints recorded for the lens axes of a mask (R154). -/
def maskPrints (mask : FlagSet 10) (l : Lens) : Vector (Option (BitVec 16)) 3 :=
  Vector.ofFn fun i : Fin 3 => if mask[lensAxis i] then some l.curves[i].fingerprint else none

/-- ARM_RECORD of a take and a mask: the tests of R154 in order, then ARMED with the start values (R154). -/
def armRecord (t : Fin 32) (mask : FlagSet 10) (s : State) : Result × State :=
  if FlagSet.isEmpty mask then (.invalid, s)
  else if s.stop.state ≠ .run then (.refused, s)
  else if s.recorder.state ≠ .idle then (.refused, s)
  else if s.store.takes[t].state ≠ .empty ∨ s.player.take = some t then (.refused, s)
  else if (List.finRange 3).any fun i => mask[lensAxis i] && !s.lens.curves[i].valid then (.mismatch, s)
  else if (FlagSet.members mask).any fun k => (startValue s k).isNone then (.refused, s)
  else
    (.ok, refreshLamps (s.withRecorder
      { state := .armed, take := some t, mask := mask, prints := maskPrints mask s.lens
        buffer := Vector.ofFn fun k : Fin 10 => if mask[k] then (startValue s k).getD 0 else 0
        openCycle := none, repeats := 0 }))

/-- STOP_RECORD (R159). -/
def stopRecord (s : State) : Result × State :=
  if s.recorder.state = .idle then (.refused, s) else (.ok, stopRecording s)

/-! ## The player at a CYC arrival (R165, R167 to R169) -/

/-- One setpoint for each masked axis, in ascending order, with the values of a sample of the take referenced (R165,
R167, R168). -/
def submitSample (src : Source) (i : Nat) (cycle : CycleNo) (s : State) : State :=
  match s.player.take with
  | some t =>
    (FlagSet.members s.player.mask).foldl (fun s' k => submit src k (s'.store.sampleValue t k i) cycle s') s
  | none => s

/-- The detail of notice 6: take, clamped flag, the peak of each masked axis in ascending order (R169). -/
def playDoneDetail (p : Player) (t : Fin 32) : List Byte :=
  [u8 t.val, flagByte p.clamped] ++ (FlagSet.members p.mask).flatMap fun k => natBE 3 p.peaks[k]

/-- A sample played: its PLAYER setpoints, the index past it, and HOLDING with notice 6 where it is the last sample of
the take (R168, R169). -/
def playSample (i : Nat) (cycle : CycleNo) (s : State) : State :=
  match s.player.take with
  | some t =>
    let final := s.store.takes[t].samples - 1
    let n := min i final
    let s := submitSample .player n cycle s
    let s := s.withPlayer { s.player with index := n + 1 }
    if n = final then
      let s := enterPlayer .holding s
      raise 6 (playDoneDetail s.player t) s
    else s
  | none => s

/-- Whether a cycle step is that of a pacing arrival: 1 to 4 (R167, R168). -/
def isPacing : Option Nat → Bool
  | some g => decide (1 ≤ g ∧ g ≤ 4)
  | none => false

/-- A CYC arrival taken by the Take Player (R165, R167, R168). -/
def playerArrival (cycle : CycleNo) (step : Option Nat) (s : State) : State :=
  match s.player.state with
  | .cueing => submitSample .cueing s.player.index cycle s
  | .ready =>
    if s.player.goPending && isPacing step then
      playSample s.player.index cycle (enterPlayer .playing (s.withPlayer { s.player with goPending := false }))
    else submitSample .cueing s.player.index cycle s
  | .playing =>
    if isPacing step then playSample (s.player.index + step.getD 1 - 1) cycle s else s
  | _ => s

/-! ## The player at an FBK (R166, R174) -/

/-- Whether an axis of the mask is in position, its position being the one the FBK carries for the axis of the FBK and
otherwise the one of its pose entry (R166). -/
def inPosition (s : State) (t : Fin 32) (fbkAxis : Axis) (f : FbkFields) (k : Axis) : Bool :=
  let r := s.pose.axes[k]
  let target := r.clampTarget (s.store.sampleValue t k s.player.index)
  let position : Option Int :=
    if k = fbkAxis then some f.position
    else if s.pose.entries[k].present then some s.pose.entries[k].position else none
  match position with
  | some p => r.valid && decide ((p - target).natAbs ≤ r.inPosition)
  | none => false

/-- The in-position judgement: every masked axis in position takes CUEING to READY (R166). -/
def judgeInPosition (k : Axis) (f : FbkFields) (s : State) : State :=
  match s.player.take with
  | some t =>
    if (FlagSet.members s.player.mask).all fun j => inPosition s t k f j then enterPlayer .ready s else s
  | none => s

/-- The follow difference of an FBK, where the ring holds the entry of the echo less the follow lag (R174). -/
def followDifferenceOf (s : State) (k : Axis) (f : FbkFields) : Option Int :=
  let c := f.echo - BitVec.ofNat 16 s.pose.axes[k].followLag
  (s.player.rings[k].find? fun e => e.cycle == c).map fun e => f.position - e.value

/-- The follow check of an FBK of a masked axis in PLAYING: the peak, and beyond the threshold the event cause FOLLOW
and notice 7 (R174). -/
def followCheck (k : Axis) (f : FbkFields) (s : State) : State :=
  match followDifferenceOf s k f with
  | none => s
  | some d =>
    let peak := min 16777215 (max s.player.peaks[k] d.natAbs)
    let s := s.withPlayer { s.player with peaks := s.player.peaks.set k.val peak }
    if s.pose.axes[k].followThreshold < d.natAbs then
      raise 7 ([u8 k.val] ++ natBE 2 f.echo.toNat ++ intBE 4 (clampInt (-16777215) 16777215 d))
        (rampEvent .follow s)
    else s

/-- An FBK taken by the Take Player (R166, R174). -/
def playerFeedback (k : Axis) (f : FbkFields) (s : State) : State :=
  if s.player.mask[k] then
    match s.player.state with
    | .cueing => judgeInPosition k f s
    | .playing => followCheck k f s
    | _ => s
  else s

end Sys2Proof.Machine
end

