-- ==== Sys2Proof/Machine/PoseUnit.lean ====
section
/-! DEFINITION. The Pose Unit and the Envelope Unit: ageing, the pose record, pose completion, evaluation (R45 to R53,
R64 to R74). -/

namespace Sys2Proof.Machine

/-! ## Judgements handed over (R42, R45, R49, R50) -/

/-- The FEEDBACK_LOST or STALE judgement made again for one axis (R49, R50). -/
def judgeFeedback (k : Axis) (s : State) : State :=
  match lensOf k with
  | some i => judgeStale i s
  | none => handOver .feedbackLost s.pose.anyLost s

/-- The judgements made again for every axis, in ascending axis number (R48). -/
def judgeAllFeedback (s : State) : State := (List.finRange 10).foldl (fun s k => judgeFeedback k s) s

/-- The UNCONFIGURED condition handed over (R45). -/
def judgeConfigured (s : State) : State := handOver .unconfigured s.pose.unconfigured s

/-! ## Ageing (R48) -/

/-- A pose entry aged by one cycle: a present entry below 15 counts on (R48). -/
def PoseEntry.aged (e : PoseEntry) : PoseEntry := if e.present then { e with age := satInc 15 e.age } else e

/-- A CYC arrival taken by the Pose Unit (R48). -/
def poseArrival (s : State) : State :=
  judgeAllFeedback
    (s.withPose { s.pose with entries := Vector.ofFn fun k : Fin 10 => PoseEntry.aged s.pose.entries[k] })

/-! ## Evaluation (R64 to R72) -/

/-- The projected head point Q of a completed pose (R65, R66). -/
def projectedPoint (p : Pose) (motions : Vector Motion 4) : Point :=
  headPoint p fun k => projected p.axes[k.val] motions[k]

/-- The notices of the zones whose state changed, in ascending number (R72). -/
def zoneNotices (old new : Vector ZoneState 24) (cycle : CycleNo) (s : State) : State :=
  (List.finRange 24).foldl (fun s z =>
    if old[z] = new[z] then s
    else
      raise 2 ([u8 z.val, s.env.zones[z].kind.code, old[z].code, new[z].code] ++ natBE 2 cycle.toNat) s) s

/-- Whether ZONE holds: some OBSTACLE zone, or CREW zone, is INTRUDE (R71; a CREW zone that is not active is CLEAR). -/
def zoneIntruded (zones : Vector Zone 24) (states : Vector ZoneState 24) : Bool :=
  (List.finRange 24).any fun z => states[z] == .intrude && zones[z].kind != .soft

/-- The zone factor: the smallest approach factor among the zones that are APPROACH or INTRUDE, otherwise 16 (R70). -/
def zoneFactor (zones : Vector Zone 24) (states : Vector ZoneState 24) : Nat :=
  (List.finRange 24).foldl (fun m z => if states[z] = .clear then m else min m zones[z].factor) 16

/-- The evaluation record that an evaluation leaves (R65 to R70, R74). -/
def evaluationOf (s : State) (cycle : CycleNo) (motions : Vector Motion 4) (p : Point) : Evaluation :=
  let q := projectedPoint s.pose motions
  let b := sweptBox p q s.pose.geometry.headRadius
  let sample := s.pins.presence
  let states := Vector.ofFn fun z : Fin 24 => s.env.zones[z].judge sample b
  { evaluated := true, cycle := some cycle, p := some p, q := some q, swept := some b, sample := sample
    zones := states, factor := zoneFactor s.env.zones states, skipped := s.env.evaluation.skipped }

/-- An evaluation (R64 to R72): the record, the zone component of the speed scale, the ZONE condition, the notices of
the zones that changed, and ZONE_APPROACH for the lamps. That ZONE is handed over, with all that it brings about at the Stop
Supervisor, before notice 2 is raised follows the order of R71 and R72, neither of which states it (DESIGN CHOICE:
assumption log 9). -/
def evaluate (cycle : CycleNo) (motions : Vector Motion 4) (p : Point) (s : State) : State :=
  let old := s.env.evaluation.zones
  let e := evaluationOf s cycle motions p
  let s := (s.withEnv { s.env with evaluation := e }).setScale { s.env.scale with zone := e.factor }
  let s := handOver .zone (zoneIntruded s.env.zones e.zones) s
  let s := zoneNotices old e.zones cycle s
  refreshLamps s

/-- A skipped pose (R73). -/
def skipPose (s : State) : State :=
  s.withEnv
    { s.env with
      evaluation := { s.env.evaluation with skipped := satInc 65535 s.env.evaluation.skipped } }

/-! ## The pose set (R51 to R53) -/

/-- A pose completed for a cycle: the completed pose, and, when the five records are valid, the head position handed to
the Envelope Unit and the Lens Unit in the order the command carries (R53). -/
def completePose (envelopeFirst : Bool) (cycle : CycleNo) (motions : Vector Motion 4) (s : State) : State :=
  if s.pose.headConfigured then
    let p := headPoint s.pose fun k => motions[k].position
    let s := s.withPose { s.pose with completed := ⟨true, cycle, motions, some p⟩ }
    if envelopeFirst then followSubmission p cycle (evaluate cycle motions p s)
    else evaluate cycle motions p (followSubmission p cycle s)
  else s.withPose { s.pose with completed := ⟨true, cycle, motions, none⟩ }

/-- The four captures of a full set. -/
def fullSet (cap : Vector (Option Motion) 4) : Option (Vector Motion 4) :=
  match cap[0], cap[1], cap[2], cap[3] with
  | some a, some b, some d, some e => some #v[a, b, d, e]
  | _, _, _, _ => none

/-- A set opened for a cycle with one axis captured (R52). -/
def openSet (cycle : CycleNo) (k : Fin 4) (m : Motion) : PoseSet :=
  ⟨true, some cycle, (Vector.replicate 4 none).set k.val (some m)⟩

/-- An axis captured in the open set; the fourth capture closes the set and completes the pose (R52, R53). -/
def captureAxis (envelopeFirst : Bool) (cycle : CycleNo) (k : Fin 4) (m : Motion) (s : State) : State :=
  let captured := s.pose.set.captured.set k.val (some m)
  match fullSet captured with
  | some motions =>
    completePose envelopeFirst cycle motions
      (s.withPose { s.pose with set := ⟨false, some cycle, captured⟩ })
  | none => s.withPose { s.pose with set := ⟨true, some cycle, captured⟩ }

/-- An FBK of a kinematic axis taken against the pose set (R52). -/
def poseSetTake (envelopeFirst : Bool) (k : Fin 4) (echo : CycleNo) (m : Motion) (s : State) : State :=
  match s.pose.set.cycle with
  | none => s.withPose { s.pose with set := openSet echo k m }
  | some c =>
    let d := (echo - c).toNat
    if d = 0 then
      if s.pose.set.isOpen && s.pose.set.captured[k].isNone then captureAxis envelopeFirst echo k m s else s
    else if d ≤ 32767 then
      let s := if s.pose.set.isOpen then skipPose s else s
      s.withPose { s.pose with set := openSet echo k m }
    else s

/-- The pose entry that an FBK leaves (R47). -/
def entryOf (f : FbkFields) : PoseEntry :=
  ⟨true, f.position, clampInt (-1048575) 1048575 f.velocity, f.status, f.echo, 0⟩

/-- An FBK taken by the Pose Unit: the axis entry, the pose set for axes 0 to 3, and the judgements of the axis made
again (R47). That the judgements come after the pose set, and after what a completed pose brings about, follows the
order of R47's text (DEDUCED: assumption log 9). -/
def poseFeedback (envelopeFirst : Bool) (k : Axis) (f : FbkFields) (s : State) : State :=
  let e := entryOf f
  let s := s.withPose { s.pose with entries := s.pose.entries.set k.val e }
  let s :=
    if h : k.val < 4 then poseSetTake envelopeFirst ⟨k.val, h⟩ f.echo ⟨e.position, e.velocity⟩ s else s
  judgeFeedback k s

end Sys2Proof.Machine
end

