-- ==== Sys2Proof/Machine/StopUnit.lean ====
section
/-! DEFINITION. What the Stop Supervisor does at an arrival: the re-arm gesture, sync loss, grip and console stop,
standstill, and the crew stop lines (R96 to R103, R109 to R119). -/

namespace Sys2Proof.Machine

/-! ## The re-arm check (R111) -/

/-- Whether the position of an axis lies within its soft limits, either limit included (R111). -/
def withinLimits (p : Pose) (k : Axis) : Bool :=
  decide (p.axes[k].softMin ≤ p.entries[k].position ∧ p.entries[k].position ≤ p.axes[k].softMax)

/-- The detail of notice 3: the first failed condition of re-arm, if one fails (R111). -/
def rearmRefusal (s : State) : Option (List Byte) :=
  if !FlagSet.isEmpty s.stop.present then some (0x00#8 :: causeSetBytes s.stop.present)
  else
    match motionAxes.find? fun k => !s.pose.entries[k].present with
    | some k => some [0x01#8, u8 k.val]
    | none =>
      match motionAxes.find? fun k => !withinLimits s.pose k with
      | some k => some ([0x02#8, u8 k.val] ++ intBE 4 s.pose.entries[k].position)
      | none => none

/-- The re-arm check: re-arm where every condition is met, otherwise notice 3 (R111, R112). -/
def rearmCheck (s : State) : State :=
  match rearmRefusal s with
  | some detail => raise 3 detail s
  | none => rearm s

/-! ## The gesture detector (R119) -/

/-- The detector after one step, before a completion is taken (R119). The table gives a count for PULSE, GAP and CONFIRM;
a step into WAIT_RELEASE or ARMED leaves the count 0 (DESIGN CHOICE: assumption log 18). -/
def Detector.step (g : Gesture) (held : Bool) (d : Detector) : Detector :=
  match d.state, held with
  | .waitRelease, false => ⟨.armed, 0⟩
  | .waitRelease, true => d
  | .armed, false => d
  | .armed, true => match g.kind with | .double => ⟨.pulse, 1⟩ | .single => ⟨.confirm, 1⟩
  | .pulse, false => ⟨.gap, 1⟩
  | .pulse, true => if g.pulseMax < d.count + 1 then ⟨.waitRelease, 0⟩ else ⟨.pulse, d.count + 1⟩
  | .gap, false => if g.gapMax < d.count + 1 then ⟨.armed, 0⟩ else ⟨.gap, d.count + 1⟩
  | .gap, true => ⟨.confirm, 1⟩
  | .confirm, false => ⟨.armed, 0⟩
  | .confirm, true => ⟨.confirm, d.count + 1⟩

/-- Whether a detector has completed its gesture: CONFIRM with the confirm count reached (R119). -/
def Detector.complete (g : Gesture) (d : Detector) : Bool := d.state == .confirm && decide (g.confirm ≤ d.count)

/-- One step of the gesture detector: at a completion it returns to WAIT_RELEASE and the re-arm check is made (R119). -/
def gestureStep (held : Bool) (s : State) : State :=
  let d := s.stop.detector.step s.stop.gesture held
  if d.complete s.stop.gesture then rearmCheck (s.withStop { s.stop with detector := Detector.initial })
  else s.withStop { s.stop with detector := d }

/-! ## A CYC arrival at the Stop Supervisor (R101, R115 to R117) -/

/-- A CYC received on U: the sync timer restarts, substitution ends, and SYNC_LOST leaves the present set (R115, R117).
-/
def syncRestart (s : State) : State :=
  causeLeaves .syncLost
    (s.withStop
      { s.stop with syncTimer := s.startTimer s.stop.config.syncTimeout, substituteTimer := .stopped })

/-- Whether a CYC received on U is judged SLIP in RUN: a step of 0 or of 5 and above (R101). -/
def slips : Option Nat → Bool
  | some g => g == 0 || decide (5 ≤ g)
  | none => false

/-- A CYC arrival taken by the Stop Supervisor: sync loss, SLIP, GRIP, CONSOLE_STOP, and in HELD the gesture (R101). -/
def stopArrival (fromU held console : Bool) (step : Option Nat) (s : State) : State :=
  let s := if fromU then syncRestart s else s
  let s := if s.stop.state == .run && fromU && slips step then rampEvent .slip s else s
  let s := s.withStop { s.stop with gripHeld := held, consoleStop := console }
  let s := handOver .consoleStop console (handOver .grip (!held) s)
  if s.stop.state = .held then gestureStep held s else s

/-! ## An FBK at the Stop Supervisor (R102, R109) -/

/-- The standstill judgement of an FBK in RAMP whose echo is at or after the entry cycle (R109). -/
def judgeStandstill (k : Fin 7) (echo : CycleNo) (s : State) : State :=
  match s.stop.state, s.stop.entryCycle with
  | .ramp, some c =>
    if (echo - c).toNat ≤ 32767 then
      let still := decide (s.pose.entries[k.val].velocity.natAbs ≤ s.pose.axes[k.val].standstill)
      let set := s.stop.standstill.set k.val still
      let s := s.withStop { s.stop with standstill := set }
      if (List.finRange 7).all fun i => set[i] then enterHeld .standstill s else s
    else s
  | _, _ => s

/-- An FBK taken by the Stop Supervisor: DRIVE_FAULT, standstill and the lamps for axes 0 to 6 (R102, R109, R120). That
DRIVE_FAULT is handed over before standstill is judged, so that an FBK which reports FAULT and also completes the
standstill set takes RAMP to CUT and not to HELD, is fixed by none of R10, R102 and R109 (DESIGN CHOICE: assumption log 9).
-/
def stopFeedback (k : Axis) (f : FbkFields) (s : State) : State :=
  if h : k.val < 7 then
    refreshLamps (judgeStandstill ⟨k.val, h⟩ f.echo (handOver .driveFault s.pose.driveFault s))
  else s

/-! ## Crew stop lines (R96 to R99) -/

/-- A line record with one channel at a level. -/
def LineRecord.setChannel (r : LineRecord) (c : Contact) (level : Channel) : LineRecord :=
  match c with
  | .a => { r with a := level }
  | .b => { r with b := level }

/-- The level of one channel of a line. -/
def LineRecord.channel (r : LineRecord) : Contact → Channel
  | .a => r.a
  | .b => r.b

/-- The fault latch when the line enters a state (R99). -/
def FaultLatch.enter (l : FaultLatch) (st : LineState) : FaultLatch :=
  match l, st with
  | .awaitStop, .stop => .awaitClear
  | .awaitClear, .clear => .absent
  | l, _ => l

/-- The window timer when the line enters a state: started at DISCREPANT and stopped elsewhere (R97). -/
def State.windowTimer (s : State) (st : LineState) : Timer :=
  if st = .discrepant then s.startTimer s.stop.config.discrepancy else .stopped

/-- A change of one channel of a line: the window timer, the fault latch, CREW_STOPn and LINE_FAULTn (R97, R99). -/
def lineChange (n : Fin 4) (c : Contact) (level : Channel) (s : State) : State :=
  let r := s.stop.lines[n]
  if r.channel c = level then s
  else
    let r' := r.setChannel c level
    let st := r'.state
    let r'' := { r' with window := s.windowTimer st, latch := r.latch.enter st }
    let s := s.withStop { s.stop with lines := s.stop.lines.set n.val r'' }
    let s := handOver (.crewStop n) (st != .clear) s
    if r''.latch = .absent then causeLeaves (.lineFault n) s else s

/-- The expiry of a line's discrepancy window: the latch becomes AWAIT_STOP, LINE_FAULTn enters and notice 4 is raised
(R98). -/
def lineFault (n : Fin 4) (s : State) : State :=
  let r := s.stop.lines[n]
  let s := s.withStop
    { s.stop with lines := s.stop.lines.set n.val { r with window := .stopped, latch := .awaitStop } }
  raise 4 [u8 n.val, channelCode r.a, channelCode r.b] (causeEnters (.lineFault n) s)

end Sys2Proof.Machine
end

