-- ==== Sys2Proof/Machine/LinkUnit.lean ====
section
/-! DEFINITION. The Link Supervisor: port states, windows, signal, and the link test (R24 to R39). -/

namespace Sys2Proof.Machine

/-! ## Changes of port state (R30 to R32) -/

/-- Whether a port is UP or DEGRADED. -/
def PortState.isUp : PortState → Bool
  | .up => true
  | .degraded => true
  | .down => false
  | .acquiring => false
  | .test => false

/-- The LINK_D condition and the link component handed over at a change of the D port state (R31, R32). -/
def handLink (s : State) : State :=
  let s := handOver .linkD s.link.d.state.isDown s
  s.setScale { s.env.scale with link := s.linkComponent }

/-- A change of port state: the given record with the new state, lock-held cleared on leaving UP or DEGRADED, notice 13,
and for D the hand-overs (R30). -/
def changePort (p : Port) (r : PortRecord) (new : PortState) (reason : PortReason) (s : State) : State :=
  let prev := (s.link.port p).state
  let r := { r with state := new, lockHeld := r.lockHeld && new.isUp }
  let s := raise 13 [portCode p, prev.code, new.code, reason.code] (s.withLink (s.link.setPort p r))
  match p with
  | .u => s
  | .d => handLink s

/-- The record of a port that leaves UP or DEGRADED, or ACQUIRING, for DOWN (R26, R27). -/
def PortRecord.dropped (r : PortRecord) : PortRecord :=
  { r with
    goodRun := 0, windowFrames := 0, windowErrors := 0, holdPassed := false
    linkUpTimer := .stopped, holdTimer := .stopped }

/-- The record of a port that comes up (R26). -/
def PortRecord.risen (r : PortRecord) : PortRecord :=
  { r with
    badRun := 0, windowFrames := 0, windowErrors := 0, holdPassed := false, linkUpTimer := .stopped }

/-! ## Windows (R28, R29) -/

/-- The end of a health window (R29): the record is taken with its window fields returned to 0. -/
def endWindow (p : Port) (errors : Nat) (r : PortRecord) (s : State) : State :=
  let r := { r with windowFrames := 0, windowErrors := 0 }
  let bad := decide (s.stop.config.highError ≤ errors)
  match r.state with
  | .up =>
    if bad then
      changePort p { r with holdPassed := false, holdTimer := s.startTimer s.stop.config.degradeHold } .degraded
        .window s
    else s.withLink (s.link.setPort p r)
  | .degraded =>
    if !bad && r.holdPassed then changePort p { r with holdPassed := false } .up .window s
    else s.withLink (s.link.setPort p r)
  | _ => s.withLink (s.link.setPort p r)

/-- A frame judged in UP or DEGRADED counted in the window, the 1,024th ending it (R28). -/
def countWindow (p : Port) (errors : Nat) (r : PortRecord) (s : State) : State :=
  let frames := r.windowFrames + 1
  let total := r.windowErrors + errors
  if 1024 ≤ frames then endWindow p total r s
  else s.withLink (s.link.setPort p { r with windowFrames := frames, windowErrors := total })

/-! ## Frames judged (R25 to R28, R33) -/

/-- A good frame reported by a port (R25 to R28). -/
def linkGood (p : Port) (s : State) : State :=
  let r := s.link.port p
  match r.state with
  | .down =>
    if 8 ≤ r.goodRun + 1 then
      changePort p { r with goodRun := 0, linkUpTimer := s.startTimer s.stop.config.linkUpTime } .acquiring .eightGood s
    else s.withLink (s.link.setPort p { r with goodRun := r.goodRun + 1 })
  | .acquiring => s
  | .up => countWindow p 0 { r with badRun := 0 } s
  | .degraded => countWindow p 0 { r with badRun := 0 } s
  | .test => s

/-- The counters of a bad frame: errored frames first, then unknown-kind frames for reason KIND (R33). -/
def countBad (p : Port) (reason : BadReason) (s : State) : State :=
  let s := bumpCounter p .errored s
  if reason = .kind then bumpCounter p .unknownKind s else s

/-- The port state machine at a bad frame (R25 to R28): the fourth bad frame in a row takes the port down, its window
abandoned. -/
def linkBadState (p : Port) (s : State) : State :=
  let r := s.link.port p
  let inUp (s : State) : State :=
    if 4 ≤ r.badRun + 1 then changePort p { r.dropped with badRun := r.badRun + 1 } .down .badRun s
    else countWindow p 1 { r with badRun := r.badRun + 1 } s
  match r.state with
  | .down => s.withLink (s.link.setPort p { r with goodRun := 0 })
  | .acquiring => changePort p r.dropped .down .badFrame s
  | .up => inUp s
  | .degraded => inUp s
  | .test => s

/-- A bad frame reported by a port (R25 to R28, R33). The counters, and notice 14 of a crossing, come before the change of
port state and notice 13: no rule gives that order (DESIGN CHOICE: assumption log 9). -/
def linkBad (p : Port) (reason : BadReason) (s : State) : State := linkBadState p (countBad p reason s)

/-! ## Signal and timers (R1, R25 to R29, R38) -/

/-- Loss of signal on a port: a partial frame is discarded, and the port goes down, or in TEST the checker stops (R1,
R25 to R27, R38). -/
def signalLost (p : Port) (s : State) : State :=
  let s := s.withSpine (s.spine.setReceiving p [])
  let r := { s.link.port p with signal := false }
  match r.state with
  | .down => s.withLink (s.link.setPort p { r with goodRun := 0 })
  | .acquiring => changePort p r.dropped .down .signalLost s
  | .up => changePort p r.dropped .down .signalLost s
  | .degraded => changePort p r.dropped .down .signalLost s
  | .test =>
    let s := s.withLink (s.link.setPort p r)
    s.withLink { s.link with test := { s.link.test with checking := false, latest := [] } }

/-- Signal regained on a port; in TEST the fifteen-bit collection restarts (R25, R38). -/
def signalRegained (p : Port) (s : State) : State :=
  let r := { s.link.port p with signal := true }
  let s := s.withLink (s.link.setPort p r)
  if r.state = .test then
    s.withLink { s.link with test := { s.link.test with checking := true, latest := [] } }
  else s

/-- Expiry of the link-up timer, which runs in ACQUIRING alone, when it is due (R26). -/
def linkUpExpiry (p : Port) (s : State) : State :=
  let r := s.link.port p
  if r.linkUpTimer.due s.timebase then changePort p r.risen .up .linkUpTime s else s

/-- Expiry of the degrade hold timer, when it is due (R29). -/
def holdExpiry (p : Port) (s : State) : State :=
  let r := s.link.port p
  if r.holdTimer.due s.timebase then
    s.withLink (s.link.setPort p { r with holdPassed := true, holdTimer := .stopped })
  else s

/-! ## Link test (R37 to R39) -/

/-- The next bit of the pattern: the exclusive-OR of the bits 14 and 15 places before it (R38). -/
def patternBit (g : BitVec 15) : Bool := Bool.xor (g.getLsbD 13) (g.getLsbD 14)

/-- The generator register after one bit: bit 0 is the latest (R38). -/
def patternStep (g : BitVec 15) : BitVec 15 := (g <<< 1) ||| (if patternBit g then 1#15 else 0#15)

/-- The prediction of the checker from the latest fifteen bits, newest first (R38). -/
def predictedBit (latest : List Bool) : Bool := Bool.xor (latest.getD 13 false) (latest.getD 14 false)

/-- A bit received on D in TEST: it is collected, and once fifteen have been, it is compared with its prediction (R38).
The generator sends one bit for each bit received, once no frame is in transmission (DESIGN CHOICE: assumption log 6).
-/
def testBit (bit : Bool) (s : State) : State :=
  if s.inTest then
    let t := s.link.test
    let generator := if s.spine.sendingD.isNone then patternStep t.generator else t.generator
    if t.checking then
      let wrong := decide (15 ≤ t.latest.length) && bit != predictedBit t.latest
      s.withLink
        { s.link with
          test := { t with generator := generator, latest := (bit :: t.latest).take 15 }
          testErrors := if wrong then satInc 4294967295 s.link.testErrors else s.link.testErrors }
    else s.withLink { s.link with test := { t with generator := generator } }
  else s

/-- The D port record at the start of a link test (R37). -/
def PortRecord.testing (r : PortRecord) : PortRecord := { r.dropped with badRun := 0 }

/-- LINK_TEST_START: accepted in CUT with the D port not in TEST (R18, R37, R38). -/
def startTest (s : State) : Result × State :=
  if s.stop.state = .cut ∧ s.inTest = false then
    let s := s.withSpine
      { s.spine with receivingD := [], brake := none, decel := Vector.replicate 7 none, queueD := [] }
    let s := s.withLink
      { s.link with testErrors := 0, test := { generator := 0x7FFF#15, checking := s.link.d.signal, latest := [] } }
    (.ok, changePort .d s.link.d.testing .test .testStart s)
  else (.refused, s)

/-- LINK_TEST_STOP: accepted in TEST (R39). -/
def stopTest (s : State) : Result × State :=
  if s.inTest then
    let s := s.withLink { s.link with test := { s.link.test with checking := false, latest := [] } }
    (.ok, changePort .d { s.link.d with goodRun := 0 } .down .testStop s)
  else (.refused, s)

end Sys2Proof.Machine
end

