-- ==== Sys2Proof/Machine/CueUnit.lean ====
section
/-! DEFINITION. The Cue Matcher: matching of cue bytes and firing of actions (R177 to R183). -/

namespace Sys2Proof.Machine

/-- Whether a pattern byte matches a cue byte: 00h is a wildcard (R177). -/
def cueMatches (pattern cue : Byte) : Bool := pattern == 0x00#8 || pattern == cue

/-- A fired action has the effect and the refusals of the matching request (R180). -/
def fireAction (a : CueAction) (s : State) : Result × State :=
  match a with
  | .recStart t m => armRecord t m s
  | .recStop => stopRecord s
  | .cue t => cueTake t s
  | .go => goPlay s
  | .release => releasePlay s
  | .subject k => followOn k s
  | .mark => (.ok, s)

/-- A firing: its action, and notice 10 where the result is OK, notice 11 where it is any other (R180, R181). -/
def fire (n : Fin 8) (a : CueAction) (s : State) : State :=
  let t := fireAction a s
  let detail := [u8 n.val, a.code] ++ a.arguments ++ [t.1.code]
  raise (if t.1 = .ok then 10 else 11) detail t.2

/-- The progress of an enabled slot after a cue byte, before a firing is taken (R179). -/
def CueSlot.advance (c : CueSlot) (b : Byte) : Nat :=
  if cueMatches (c.pattern.getD c.progress 0) b then c.progress + 1
  else if cueMatches (c.pattern.headD 0) b then 1
  else 0

/-- The state with another progress of a slot. -/
def setProgress (n : Fin 8) (p : Nat) (s : State) : State :=
  s.withCues (s.cues.set n.val { s.cues[n] with progress := p })

/-- One slot updated with a cue byte: an increment that brings the progress to the length fires the action and returns
the progress to 0; a disabled slot takes no part (R179). -/
def updateSlot (b : Byte) (s : State) (n : Fin 8) : State :=
  let c := s.cues[n]
  match c.pattern, c.action with
  | [], _ => s
  | _ :: _, a =>
    let p := c.advance b
    if p = c.pattern.length then
      let s := setProgress n 0 s
      match a with
      | some a => fire n a s
      | none => s
    else setProgress n p s

/-- A cue byte taken by every slot, slot 0 first and slot 7 last (R179). -/
def cueByte (s : State) (b : Byte) : State := (List.finRange 8).foldl (updateSlot b) s

/-- The cue bytes of a CYC received on U (R179). -/
def cueArrival (cues : List Byte) (s : State) : State := cues.foldl cueByte s

/-- Every slot with progress 0 (R177, R183). -/
def resetProgress (s : State) : State :=
  s.withCues (Vector.ofFn fun n : Fin 8 => { s.cues[n] with progress := 0 })

end Sys2Proof.Machine
end

