-- ==== Sys2Proof/Machine/Operands.lean ====
section
/-! DEFINITION. The operand forms of requests: how the body of a request is read and how the record of a READ is laid out
(R23, and the rule of each record). -/

namespace Sys2Proof.Machine

/-! ## Reading a body (R23; where its words leave room, DEDUCED: assumption log 7) -/

/-- An unsigned number of n bytes at the front of a body. -/
def readNat (n : Nat) (bs : List Byte) : Option (Nat × List Byte) :=
  if bs.length < n then none else some (beNat (bs.take n), bs.drop n)

/-- A signed number of n bytes at the front of a body. -/
def readInt (n : Nat) (bs : List Byte) : Option (Int × List Byte) :=
  if bs.length < n then none else some (beInt (bs.take n), bs.drop n)

/-- A flag: 00h or 01h. -/
def readFlag : List Byte → Option (Bool × List Byte)
  | b :: bs => if b = 0x00#8 then some (false, bs) else if b = 0x01#8 then some (true, bs) else none
  | [] => none

/-- A field that some records do not have: its presence byte and n bytes, which are ignored where the record does not
have the field, and otherwise must be marked present (R23, R41, R62). A presence byte other than 01h where the record has
the field, such as a WRITE of a CREW zone with no presence input or of a motion axis with no deceleration, makes the body
one of the wrong form, INVALID by R185 before the tests of R62 or R41, LOCKED among them; neither rule says whether it is
that or a field out of range of the owner's last test (DESIGN CHOICE: assumption log 5). -/
def readPresent {α : Type} (has : Bool) (n : Nat) (value : List Byte → α) (absent : α) (bs : List Byte) :
    Option (α × List Byte) :=
  if bs.length < n + 1 then none
  else if !has then some (absent, bs.drop (n + 1))
  else if bs.headD 0 = 0x01#8 then some (value ((bs.drop 1).take n), bs.drop (n + 1))
  else none

/-- A value from a list of names, coded by position. -/
def readName {α : Type} (names : List α) : List Byte → Option (α × List Byte)
  | b :: bs => (names[b.toNat]?).map fun a => (a, bs)
  | [] => none

/-- A set of axes in two bytes; a bit that names no axis makes the body invalid (R23). -/
def readAxisSet (bs : List Byte) : Option (FlagSet 10 × List Byte) :=
  match readNat 2 bs with
  | some (n, rest) => if n < 2 ^ 10 then some (Vector.ofFn fun k : Fin 10 => n.testBit k.val, rest) else none
  | none => none

/-- A set of notice sources in three bytes; a bit that names no source makes the body invalid (R23). -/
def readSourceSet (bs : List Byte) : Option (FlagSet 17 × List Byte) :=
  match readNat 3 bs with
  | some (n, rest) => if n < 2 ^ 17 then some (Vector.ofFn fun k : Fin 17 => n.testBit k.val, rest) else none
  | none => none

/-- A body that has been read to its end. -/
def finished {α : Type} (r : Option (α × List Byte)) : Option α :=
  match r with
  | some (a, []) => some a
  | _ => none

/-- A number of items read one after another. -/
def readMany {α : Type} (item : List Byte → Option (α × List Byte)) : Nat → List Byte → Option (List α × List Byte)
  | 0, bs => some ([], bs)
  | n + 1, bs => do
    let (a, bs) ← item bs
    let (as, bs) ← readMany item n bs
    some (a :: as, bs)

/-- A point of three signed numbers of n bytes. -/
def readPoint (n : Nat) (bs : List Byte) : Option (Point × List Byte) := do
  let (x, bs) ← readInt n bs
  let (y, bs) ← readInt n bs
  let (z, bs) ← readInt n bs
  some (⟨x, y, z⟩, bs)

/-- Whether the record of an axis has a deceleration, a standstill threshold and a cue scale (R40). -/
def hasMotionFields (k : Axis) : Bool := isMotion k

/-- Whether the record of an axis has unit fields (R40). -/
def hasUnitFields (k : Axis) : Bool := decide (k.val ≤ 3)

/-- The axis record that a WRITE of AXIS k carries (R40, R41). -/
def readAxisRecord (k : Axis) (bs : List Byte) : Option AxisRecord := do
  let (valid, bs) ← readFlag bs
  let (softMin, bs) ← readInt 4 bs
  let (softMax, bs) ← readInt 4 bs
  let (stepMax, bs) ← readNat 3 bs
  let (deceleration, bs) ← readPresent (hasMotionFields k) 2 beNat 0 bs
  let (standstill, bs) ← readPresent (hasMotionFields k) 2 beNat 0 bs
  let (ageLimit, bs) ← readNat 1 bs
  let (followThreshold, bs) ← readNat 3 bs
  let (followLag, bs) ← readNat 1 bs
  let (tolerance, bs) ← readNat 2 bs
  let (cueScale, bs) ← readPresent (hasMotionFields k) 1 beNat 0 bs
  let (multiplier, bs) ← readPresent (hasUnitFields k) 3 beInt 0 bs
  let (shift, bs) ← readPresent (hasUnitFields k) 1 beNat 0 bs
  finished (some (⟨valid, softMin, softMax, stepMax, deceleration, standstill, ageLimit, followThreshold, followLag,
    tolerance, cueScale, multiplier, shift⟩, bs))

/-- The geometry record that a WRITE carries (R43). -/
def readGeometry (bs : List Byte) : Option Geometry := do
  let (valid, bs) ← readFlag bs
  let (pivot, bs) ← readPoint 3 bs
  let (drop, bs) ← readNat 2 bs
  let (radius, bs) ← readNat 2 bs
  finished (some (⟨valid, pivot, drop, radius⟩, bs))

/-- A zone record as a WRITE carries it, the presence input as a number (R61). -/
structure ZoneBody where
  zone : Zone
  presence : Nat
  deriving DecidableEq, Repr

/-- The zone record that a WRITE carries (R61, R62). -/
def readZone (bs : List Byte) : Option ZoneBody := do
  let (enabled, bs) ← readFlag bs
  let (kind, bs) ← readName [ZoneKind.obstacle, .crew, .soft] bs
  let (x0, bs) ← readInt 4 bs
  let (x1, bs) ← readInt 4 bs
  let (y0, bs) ← readInt 4 bs
  let (y1, bs) ← readInt 4 bs
  let (z0, bs) ← readInt 4 bs
  let (z1, bs) ← readInt 4 bs
  let (presence, bs) ← readPresent (kind == .crew) 1 beNat 0 bs
  let (band, bs) ← readNat 2 bs
  let (factor, bs) ← readNat 1 bs
  finished (some (⟨⟨enabled, kind, ⟨⟨x0, y0, z0⟩, ⟨x1, y1, z1⟩⟩, none, band, factor⟩, presence⟩, bs))

/-- The stop configuration that a WRITE carries (R122). -/
def readStopConfig (bs : List Byte) : Option StopConfig := do
  let (sync, bs) ← readNat 2 bs
  let (ramp, bs) ← readNat 2 bs
  let (discrepancy, bs) ← readNat 2 bs
  let (factor, bs) ← readNat 1 bs
  let (linkUp, bs) ← readNat 2 bs
  let (hold, bs) ← readNat 2 bs
  let (high, bs) ← readNat 1 bs
  finished (some (⟨sync, ramp, discrepancy, factor, linkUp, hold, high⟩, bs))

/-- The gesture record that a WRITE carries (R118). -/
def readGesture (bs : List Byte) : Option Gesture := do
  let (kind, bs) ← readName [GestureKind.single, .double] bs
  let (pulse, bs) ← readNat 1 bs
  let (gap, bs) ← readNat 1 bs
  let (confirm, bs) ← readNat 1 bs
  finished (some (⟨kind, pulse, gap, confirm⟩, bs))

/-- The seven patterns in the order of their codes (R121). -/
def patterns : List Pattern := [.off, .b025, .b05, .b1, .b2, .b4, .on]

/-- One pair of patterns. -/
def readPair (bs : List Byte) : Option (PatternPair × List Byte) := do
  let (amber, bs) ← readName patterns bs
  let (red, bs) ← readName patterns bs
  some (⟨amber, red⟩, bs)

/-- A list of items as a table of a fixed size. -/
def tableOf {α : Type} (n : Nat) (absent : α) (items : List α) : Vector α n :=
  Vector.ofFn fun i : Fin n => items.getD i.val absent

/-- The lamp map that a WRITE carries: eighteen patterns (R121). -/
def readLampMap (bs : List Byte) : Option (Vector PatternPair 9) := do
  let (pairs, bs) ← readMany readPair 9 bs
  finished (some (tableOf 9 ⟨.off, .off⟩ pairs, bs))

/-- The subject preset that a WRITE carries (R136). -/
def readSubject (bs : List Byte) : Option Subject := do
  let (point, bs) ← readPoint 4 bs
  let (limit, bs) ← readNat 2 bs
  finished (some (⟨point, limit⟩, bs))

/-- A member of a numbered set, where the number is in range. -/
def finOf (n : Nat) (v : Nat) : Option (Fin n) := if h : v < n then some ⟨v, h⟩ else none

/-- A numbered argument of one byte; a number out of its range makes the body invalid. -/
def readFin (n : Nat) (bs : List Byte) : Option (Fin n × List Byte) :=
  match bs with
  | b :: rest => (finOf n b.toNat).map fun i => (i, rest)
  | [] => none

/-- The mask of an action: a nonempty set of axes (R177). -/
def readMask (bs : List Byte) : Option (FlagSet 10 × List Byte) :=
  match readAxisSet bs with
  | some (m, rest) => if FlagSet.isEmpty m then none else some (m, rest)
  | none => none

/-- An action with its arguments (R177). -/
def readAction (bs : List Byte) : Option (CueAction × List Byte) :=
  match bs with
  | [] => none
  | c :: bs =>
    if c = 0x00#8 then do
      let (t, bs) ← readFin 32 bs
      let (m, bs) ← readMask bs
      some (.recStart t m, bs)
    else if c = 0x01#8 then some (.recStop, bs)
    else if c = 0x02#8 then (readFin 32 bs).map fun (t, bs) => (.cue t, bs)
    else if c = 0x03#8 then some (.go, bs)
    else if c = 0x04#8 then some (.release, bs)
    else if c = 0x05#8 then (readFin 4 bs).map fun (k, bs) => (.subject k, bs)
    else if c = 0x06#8 then some (.mark, bs)
    else none

/-- The cue slot that a WRITE carries: length 0 disables the slot, whatever the body carries after it; otherwise a
pattern of that many bytes, an action and its arguments (R178). A WRITE carries no presence bytes (DESIGN CHOICE:
assumption log 19). -/
def readCueSlot (bs : List Byte) : Option CueSlot := do
  let (length, bs) ← readNat 1 bs
  if 8 < length then none
  else if length = 0 then some CueSlot.initial
  else if bs.length < length then none
  else do
    let (action, rest) ← readAction (bs.drop length)
    finished (some (⟨bs.take length, some action, 0⟩, rest))

/-- The code that stands for the express source NONE: the one after 16 (DESIGN CHOICE: assumption log 8). -/
def expressNone : Nat := 17

/-- The notice configuration that a WRITE carries (R194). An order code of 0 or 7 is stored as 1; a code above 7, or an
express source that is neither NONE nor 0..16, makes the body invalid. -/
def readNoticeConfig (bs : List Byte) : Option NoticeConfig := do
  let (order, bs) ← readNat 1 bs
  let (safety, bs) ← readFlag bs
  let (motion, bs) ← readFlag bs
  let (link, bs) ← readFlag bs
  let (global, bs) ← readFlag bs
  let (express, bs) ← readNat 1 bs
  let (wake, bs) ← readSourceSet bs
  if 7 < order ∨ expressNone < express then none
  else
    finished (some (⟨if order = 0 ∨ order = 7 then 1 else order, safety, motion, link, global, finOf 17 express, wake⟩,
      bs))

/-- The thresholds that a WRITE carries (R35). -/
def readThresholds (bs : List Byte) : Option Thresholds := do
  let (eu, bs) ← readNat 2 bs
  let (uu, bs) ← readNat 2 bs
  let (du, bs) ← readNat 2 bs
  let (ed, bs) ← readNat 2 bs
  let (ud, bs) ← readNat 2 bs
  let (dd, bs) ← readNat 2 bs
  let (seq, bs) ← readNat 2 bs
  finished (some (⟨eu, uu, du, ed, ud, dd, seq⟩, bs))

/-- The width of a user value of a lens axis: the fewest bytes that hold its user range (R23, R125). -/
def userWidth (i : Fin 3) : Nat := if i.val = 0 then 3 else 2

/-- A curve point of a lens axis. -/
def readCurvePoint (i : Fin 3) (bs : List Byte) : Option (CurvePoint × List Byte) := do
  let (u, bs) ← readNat (userWidth i) bs
  let (c, bs) ← readInt 4 bs
  some (⟨u, c⟩, bs)

/-- The identity and points that a CURVE_LOAD carries after its axis number (R127). -/
def readCurve (i : Fin 3) (bs : List Byte) : Option (Vector Byte 4 × List CurvePoint) := do
  let identity := bs.take 4
  let (_, bs) ← readNat 4 bs
  let (n, bs) ← readNat 1 bs
  let (points, bs) ← readMany (readCurvePoint i) n bs
  finished (some ((tableOf 4 0 identity, points), bs))

/-- What a LOAD_BEGIN carries (R149). -/
structure LoadBody where
  take : Fin 32
  mask : FlagSet 10
  prints : Vector (Option (BitVec 16)) 3
  start : Timecode
  deriving DecidableEq, Repr

/-- The fingerprints of the lens axes of a mask, one for each (R149). R149 gives them no order where the mask holds
several lens axes; they are read in ascending axis order (DESIGN CHOICE: assumption log 19). -/
def readPrints (mask : FlagSet 10) (bs : List Byte) : Option (Vector (Option (BitVec 16)) 3 × List Byte) :=
  let one (i : Fin 3) (bs : List Byte) : Option (Option (BitVec 16) × List Byte) :=
    if mask[lensAxis i] then (readNat 2 bs).map fun (n, bs) => (some (BitVec.ofNat 16 n), bs) else some (none, bs)
  do
    let (a, bs) ← one 0 bs
    let (b, bs) ← one 1 bs
    let (c, bs) ← one 2 bs
    some (#v[a, b, c], bs)

/-- The body of LOAD_BEGIN (R149). -/
def readLoadBegin (bs : List Byte) : Option LoadBody := do
  let (t, bs) ← readFin 32 bs
  let (mask, bs) ← readMask bs
  let (prints, bs) ← readPrints mask bs
  let tc := Timecode.ofBytes bs
  let (_, bs) ← readNat 4 bs
  finished (some (⟨t, mask, prints, tc⟩, bs))

/-- What a LOAD_PAGE carries (R150). -/
structure PageBody where
  take : Fin 32
  samples : Nat
  words : List Int
  deriving DecidableEq, Repr

/-- The body of LOAD_PAGE: take, sample count, and the words with their own count (R23, R150). -/
def readLoadPage (bs : List Byte) : Option PageBody := do
  let (t, bs) ← readFin 32 bs
  let (k, bs) ← readNat 1 bs
  let (n, bs) ← readNat 1 bs
  let (words, bs) ← readMany (readInt 4) n bs
  finished (some (⟨t, k, words⟩, bs))

/-! ## Laying out a record (R23; where its words leave room, DEDUCED: assumption log 7) -/

/-- A value that may be absent, from its bytes. -/
def absentOr {α : Type} (width : Nat) (f : α → List Byte) (v : Option α) : List Byte := optionBytes width (v.map f)

/-- A point of three signed 32-bit numbers. -/
def pointBytes (p : Point) : List Byte := intBE 4 p.x ++ intBE 4 p.y ++ intBE 4 p.z

/-- Axis record k, with the fields that the record does not have reported absent (R40, R60). -/
def axisRecordBytes (k : Axis) (r : AxisRecord) : List Byte :=
  let present (has : Bool) (bs : List Byte) : List Byte := optionBytes bs.length (if has then some bs else none)
  [flagByte r.valid] ++ intBE 4 r.softMin ++ intBE 4 r.softMax ++ natBE 3 r.stepMax
    ++ present (hasMotionFields k) (natBE 2 r.deceleration) ++ present (hasMotionFields k) (natBE 2 r.standstill)
    ++ natBE 1 r.ageLimit ++ natBE 3 r.followThreshold ++ natBE 1 r.followLag ++ natBE 2 r.inPosition
    ++ present (hasMotionFields k) (natBE 1 r.cueScale) ++ present (hasUnitFields k) (intBE 3 r.unitMultiplier)
    ++ present (hasUnitFields k) (natBE 1 r.unitShift)

/-- The geometry record (R43, R60). -/
def geometryBytes (g : Geometry) : List Byte :=
  [flagByte g.valid] ++ intBE 3 g.pivot.x ++ intBE 3 g.pivot.y ++ intBE 3 g.pivot.z ++ natBE 2 g.headDrop
    ++ natBE 2 g.headRadius

/-- A zone record, the presence input absent for kinds other than CREW (R61, R63). -/
def zoneBytes (z : Zone) : List Byte :=
  [flagByte z.enabled, z.kind.code] ++ intBE 4 z.box.lo.x ++ intBE 4 z.box.hi.x ++ intBE 4 z.box.lo.y
    ++ intBE 4 z.box.hi.y ++ intBE 4 z.box.lo.z ++ intBE 4 z.box.hi.z
    ++ absentOr 1 (fun i : Fin 8 => natBE 1 i.val) z.presence ++ natBE 2 z.band ++ natBE 1 z.factor

/-- The stop configuration record (R122). -/
def stopConfigBytes (c : StopConfig) : List Byte :=
  natBE 2 c.syncTimeout ++ natBE 2 c.rampLimit ++ natBE 2 c.discrepancy ++ natBE 1 c.degradeFactor
    ++ natBE 2 c.linkUpTime ++ natBE 2 c.degradeHold ++ natBE 1 c.highError

/-- The gesture record (R118). -/
def gestureBytes (g : Gesture) : List Byte :=
  [g.kind.code] ++ natBE 1 g.pulseMax ++ natBE 1 g.gapMax ++ natBE 1 g.confirm

/-- The lamp map (R121). -/
def lampMapBytes (m : Vector PatternPair 9) : List Byte := m.toList.flatMap fun p => [p.amber.code, p.red.code]

/-- The curve record of a lens axis (R125, R128). -/
def curveBytes (i : Fin 3) (c : Curve) : List Byte :=
  [flagByte c.valid] ++ natBE 1 c.points.length
    ++ (c.points.flatMap fun p => natBE (userWidth i) p.user ++ intBE 4 p.count)
    ++ c.identity.toList ++ natBE 2 c.fingerprint.toNat

/-- A subject preset (R136). -/
def subjectBytes (p : Subject) : List Byte := pointBytes p.point ++ natBE 2 p.trimLimit

/-- A field that is a list and may be absent: the presence byte 00h alone, or 01h and the bytes of the list (R23; the
width of an absent list DESIGN CHOICE: assumption log 19). -/
def absentList : Option (List Byte) → List Byte := optionBytes 0

/-- A cue slot: length, pattern, action, arguments and progress (R177). The pattern, the action and the arguments are
absent where the length is 0 (R178), so each stands behind its presence byte (R23); the arguments of an action that has
none are present with no bytes, and absent arguments are the presence byte alone (DESIGN CHOICE: assumption log 19). -/
def cueSlotBytes (c : CueSlot) : List Byte :=
  natBE 1 c.pattern.length ++ absentList (if c.pattern = [] then none else some c.pattern)
    ++ absentOr 1 (fun a : CueAction => [a.code]) c.action ++ absentList (c.action.map CueAction.arguments)
    ++ natBE 1 c.progress

/-- The notice configuration record (R194). -/
def noticeConfigBytes (c : NoticeConfig) : List Byte :=
  natBE 1 c.order ++ [flagByte c.safety, flagByte c.motion, flagByte c.link, flagByte c.global]
    ++ natBE 1 (match c.express with | some k => k.val | none => expressNone) ++ sourceSetBytes c.wake

/-- The thresholds record (R35). -/
def thresholdsBytes (t : Thresholds) : List Byte :=
  natBE 2 t.erroredU ++ natBE 2 t.unknownU ++ natBE 2 t.dropsU ++ natBE 2 t.erroredD ++ natBE 2 t.unknownD
    ++ natBE 2 t.dropsD ++ natBE 2 t.sequence

/-- A pose entry (R46, R60). -/
def poseEntryBytes (e : PoseEntry) : List Byte :=
  [flagByte e.present] ++ intBE 4 e.position ++ intBE 3 e.velocity ++ [e.status.code] ++ natBE 2 e.echo.toNat
    ++ natBE 1 e.age

/-- The axes captured by the pose set. -/
def capturedSet (p : PoseSet) : FlagSet 10 :=
  Vector.ofFn fun k : Fin 10 => if h : k.val < 4 then (p.captured[k.val]).isSome else false

/-- The pose record (R46, R60). -/
def poseBytes (p : Pose) : List Byte :=
  (p.entries.toList.flatMap poseEntryBytes)
    ++ [flagByte p.set.isOpen] ++ absentOr 2 (fun c : CycleNo => natBE 2 c.toNat) p.set.cycle
    ++ axisSetBytes (capturedSet p.set)
    ++ [flagByte p.completed.valid] ++ natBE 2 p.completed.cycle.toNat
    ++ (p.completed.motions.toList.flatMap fun m => intBE 4 m.position)
    ++ (p.completed.motions.toList.flatMap fun m => intBE 3 m.velocity)
    ++ absentOr 12 pointBytes p.completed.head

/-- The evaluation record, the bounds of B in their full width (R74, R77). R74 leaves open whether the six bounds stand
coordinate by coordinate or all lower and then all upper; they stand x lower, x upper, y lower, y upper, z lower, z upper
(DESIGN CHOICE: assumption log 19). -/
def evaluationBytes (e : Evaluation) : List Byte :=
  let bounds (b : Box) : List Byte :=
    intBE 8 b.lo.x ++ intBE 8 b.hi.x ++ intBE 8 b.lo.y ++ intBE 8 b.hi.y ++ intBE 8 b.lo.z ++ intBE 8 b.hi.z
  [flagByte e.evaluated] ++ absentOr 2 (fun c : CycleNo => natBE 2 c.toNat) e.cycle ++ absentOr 12 pointBytes e.p
    ++ absentOr 12 pointBytes e.q ++ absentOr 48 bounds e.swept ++ e.sample.toList.map flagByte
    ++ e.zones.toList.map ZoneState.code ++ natBE 1 e.factor ++ natBE 2 e.skipped

/-- The speed scale record (R75, R77). -/
def speedScaleBytes (c : SpeedScale) : List Byte :=
  natBE 1 c.zone ++ natBE 1 c.link ++ natBE 1 c.trim ++ natBE 1 c.effective

/-- A line record (R96, R123). -/
def lineBytes (r : LineRecord) : List Byte :=
  [channelCode r.a, channelCode r.b, r.state.code, flagByte r.window.isRunning, r.latch.code]

/-- Running, expired or stopped, for the sync timer (R123). -/
def syncTimerCode : Timer → Byte
  | .running _ _ => 0x00#8
  | .expired => 0x01#8
  | .stopped => 0x02#8

/-- The standstill set as a set of axes. -/
def standstillSet (s : FlagSet 7) : FlagSet 10 :=
  Vector.ofFn fun k : Fin 10 => if h : k.val < 7 then s[k.val] else false

/-- The stop supervision state (R123). That the ramp timer, the entry cycle and the standstill set are all absent outside
RAMP, that the drive enable output is a flag, high 01h and low 00h, and that the latest grip is a flag of HELD, are
DESIGN CHOICE: assumption log 19. -/
def stopStatusBytes (st : Stop) : List Byte :=
  let inRamp (width : Nat) (bs : List Byte) : List Byte :=
    optionBytes width (if st.state = .ramp then some bs else none)
  [st.state.code] ++ causeSetBytes st.present ++ causeSetBytes st.trip ++ (st.lines.toList.flatMap lineBytes)
    ++ [flagByte st.driveEnable]
    ++ inRamp 1 [if st.rampTimer.isRunning then 0x00#8 else 0x01#8]
    ++ inRamp 2 (natBE 2 (st.entryCycle.getD 0).toNat) ++ inRamp 2 (axisSetBytes (standstillSet st.standstill))
    ++ [syncTimerCode st.syncTimer, flagByte st.substituteTimer.isRunning, flagByte st.gripHeld,
      flagByte st.consoleStop, st.detector.state.code]
    ++ natBE 1 st.detector.count ++ [u8 st.lampCondition.index.val, st.amber.pattern.code, st.red.pattern.code]

/-- The player record with the history ring of one axis (R161, R176): the peaks absent in IDLE, the ring for an axis not
in the mask (the bytes of an absent list DESIGN CHOICE: assumption log 19). -/
def playerBytes (s : State) (k : Axis) : List Byte :=
  let p := s.player
  let ringEntry (e : RingEntry) : List Byte := natBE 2 e.cycle.toNat ++ intBE 4 e.value
  let ring : List RingEntry := p.rings[k]
  [p.state.code] ++ absentOr 1 (fun t : Fin 32 => natBE 1 t.val) p.take ++ axisSetBytes p.mask ++ natBE 3 p.index
    ++ absentOr 3 (fun t : Fin 32 => natBE 3 s.store.takes[t].samples) p.take ++ [flagByte p.goPending]
    ++ absentOr 1 (fun q : PlayerState => [q.code]) p.suspendedFrom
    ++ absentList
      (if p.state = .idle then none else some ((FlagSet.members p.mask).flatMap fun j => natBE 3 p.peaks[j]))
    ++ [flagByte p.clamped]
    ++ absentList (if p.mask[k] then some (u8 ring.length :: ring.flatMap ringEntry) else none)

/-- The fingerprints of the lens axes, each absent for an axis not in the mask (R144, R153). That they are three fields,
one for each of axes 7 to 9, each behind a presence byte of its own and with two zero bytes where absent, in EMPTY and in
IDLE too, is a DESIGN CHOICE: assumption log 19. -/
def printsBytes (v : Vector (Option (BitVec 16)) 3) : List Byte :=
  v.toList.flatMap (absentOr 2 fun p : BitVec 16 => natBE 2 p.toNat)

/-- The recorder record (R153): mask and buffer, which it holds outside IDLE, absent in IDLE (that they are, and the bytes
of an absent buffer, DESIGN CHOICE: assumption log 19). -/
def recorderBytes (r : Recorder) : List Byte :=
  let recording := r.state == .recording
  let held (bs : List Byte) : Option (List Byte) := if r.state = .idle then none else some bs
  [r.state.code] ++ absentOr 1 (fun t : Fin 32 => natBE 1 t.val) r.take ++ optionBytes 2 (held (axisSetBytes r.mask))
    ++ printsBytes r.prints ++ absentList (held ((FlagSet.members r.mask).flatMap fun k => intBE 4 r.buffer[k]))
    ++ absentOr 2 (fun c : CycleNo => natBE 2 c.toNat) r.openCycle
    ++ optionBytes 2 (if recording then some (natBE 2 r.repeats) else none)

/-- A take record with the length, first and last page index of its chain (R144); the page indices of an empty chain are
reported absent (DESIGN CHOICE: assumption log 19). -/
def takeBytes (r : Take) : List Byte :=
  let masked (bs : List Byte) : List Byte := optionBytes bs.length (if r.state = .empty then none else some bs)
  [r.state.code, flagByte r.locked] ++ masked (axisSetBytes r.mask) ++ masked (natBE 1 r.perPage)
    ++ masked (natBE 3 r.samples) ++ natBE 2 r.chain.length ++ absentOr 2 (natBE 2) r.chain.head?
    ++ absentOr 2 (natBE 2) r.chain.getLast? ++ masked r.start.bytes ++ printsBytes r.prints
    ++ absentOr 1 (fun e : EndReason => [e.code]) r.endReason

/-- The number of entries of the free page list with its head and tail (R143). -/
def freeCountBytes (free : List Nat) : List Byte :=
  natBE 2 free.length ++ absentOr 2 (natBE 2) free.head? ++ absentOr 2 (natBE 2) free.getLast?

/-- A port record, with the test errors for D and the cycle record for U (R24, R34); that the cycle record stands after
the fields of the table is a DESIGN CHOICE (assumption log 19). -/
def portBytes (s : State) (p : Port) : List Byte :=
  let r := s.link.port p
  [r.state.code, flagByte r.signal] ++ natBE 1 r.goodRun ++ natBE 1 r.badRun ++ natBE 2 r.windowFrames
    ++ natBE 2 r.windowErrors ++ [flagByte r.holdPassed, flagByte r.lockHeld] ++ natBE 2 r.errored
    ++ natBE 2 r.unknownKind ++ natBE 2 r.queueDrops
    ++ (match p with
      | .d => natBE 4 s.link.testErrors
      | .u =>
        absentOr 2 (fun c : CycleNo => natBE 2 c.toNat) s.cycle.last ++ s.cycle.timecode.bytes
          ++ absentOr 8 (natBE 8) s.cycle.arrival ++ natBE 2 s.cycle.interval ++ natBE 2 s.cycle.sequenceErrors)

/-- Lens status for axes 7 to 9 and the follow record (R135, R137); an absent preset and an absent latest follow stand
behind a presence byte (DESIGN CHOICE: assumption log 19). -/
def lensStatusBytes (l : Lens) : List Byte :=
  let one (i : Fin 3) : List Byte :=
    [(l.status i).code, flagByte l.fault[i], flagByte l.stale[i], flagByte l.endReached[i],
      flagByte l.curves[i].valid] ++ natBE 2 l.curves[i].fingerprint.toNat
  let latest (f : LatestFollow) : List Byte := natBE 2 f.cycle.toNat ++ natBE 4 f.distance ++ natBE 3 f.user
  (List.finRange 3).flatMap one ++ [flagByte l.follow.on]
    ++ absentOr 1 (fun k : Fin 4 => natBE 1 k.val) l.follow.preset ++ pointBytes l.follow.subject
    ++ intBE 2 l.follow.trim ++ natBE 2 l.follow.trimLimit ++ absentOr 9 latest l.follow.latest

/-- The entry of a notice source and whether it is eligible (R193). Neither R191 nor R193 gives the detail a length field,
and neither says whether it is a counted list or a field behind a presence byte; its bytes stand behind a one-byte length,
and no detail is 00h alone (DESIGN CHOICE: assumption log 19). -/
def noticeBytes (n : Notices) (k : Fin 17) : List Byte :=
  let e := n.entries[k]
  [flagByte e.pending, flagByte e.sent] ++ natBE 1 e.count ++ e.timecode.bytes ++ natBE 1 e.detail.length ++ e.detail
    ++ [flagByte (n.eligible k)]

/-- The gate counts and the last-forwarded entries (R94). R94 leaves open whether the three counts of an axis stand
together or each count stands for all axes; they stand axis by axis: clamps, withheld, overridden of axis 0, then of
axis 1, and so on (DESIGN CHOICE: assumption log 19). -/
def gateBytes (g : Gate) : List Byte :=
  ((List.finRange 10).flatMap fun k => natBE 2 g.clamps[k] ++ natBE 2 g.withheld[k] ++ natBE 2 g.overridden[k])
    ++ natBE 2 g.refusals ++ g.last.toList.flatMap (absentOr 4 (intBE 4))

/-- The management record at a READ, which is itself the request that is executing (R187, DEDUCED: assumption log 11). -/
def mgmtBytes (s : State) : List Byte :=
  natBE 2 s.mgmt.drops ++ natBE 1 s.mgmt.requests.length ++ natBE 1 s.mgmt.replies.length ++ [0x01#8, 0x01#8]
    ++ [flagByte s.mgmt.locked, flagByte s.pins.serviceKey]

end Sys2Proof.Machine
end

