-- ==== Sys2Proof/Machine/Clock.lean ====
section
/-! DEFINITION. The part's own clock: the expiries that a reading of the millisecond timebase brings about (manual section
5.6, DESIGN CHOICE: assumption log 1). -/

namespace Sys2Proof.Machine

/-- A command that waits when a timer is due. -/
def whenDue (now : Nat) (t : Timer) (c : Instr) : List Instr := if t.due now then [c] else []

/-- The expiries due at a reading of the timebase, in a fixed order (DESIGN CHOICE: assumption log 1): the ramp timer,
the sync timer, the substitute timer, the discrepancy windows, the link timers, the lamps. -/
def dueCommands (s : State) : List Instr :=
  let now := s.timebase
  whenDue now s.stop.rampTimer .rampTimeout
    ++ whenDue now s.stop.syncTimer (.syncTimerExpiry (Config.arrivalOrder now))
    ++ whenDue now s.stop.substituteTimer (.substituteTimerExpiry (Config.arrivalOrder now))
    ++ ((List.finRange 4).flatMap fun n => whenDue now s.stop.lines[n].window (.discrepancyWindowExpiry n))
    ++ whenDue now s.link.u.linkUpTimer (.linkUpTimerExpiry .u)
    ++ whenDue now s.link.d.linkUpTimer (.linkUpTimerExpiry .d)
    ++ whenDue now s.link.u.holdTimer (.degradeHoldTimerExpiry .u)
    ++ whenDue now s.link.d.holdTimer (.degradeHoldTimerExpiry .d)
    ++ whenDue now s.stop.amber.phase (.lampPatternPeriod .amber)
    ++ whenDue now s.stop.red.phase (.lampPatternPeriod .red)

/-- One millisecond of the part's own time: the timebase reads one more, and the expiries then due wait as commands. -/
def tick (s : State) : State :=
  let s := s.withTimebase (s.timebase + 1)
  s.withPending (s.pending ++ dueCommands s)

end Sys2Proof.Machine
end

