-- ==== Sys2Proof/Machine/Requests.lean ====
section
/-! DEFINITION. The execution of a request: which row of the catalogue a request is, when the Management Unit takes it, and
how a READ, a WRITE and a request without a body are answered (R184 to R186). -/

namespace Sys2Proof.Machine

/-! ## The row of a request (R185, R186) -/

/-- One selector of the table of R186: the row of its READ and, where it may be written, the row of its WRITE. -/
structure SelectorRows where
  read : Instr
  write : Option Instr
  deriving DecidableEq, Repr

/-- The table of selectors, in the order of their codes from 00h (R23, R186). -/
def selectorTable : List SelectorRows :=
  [⟨.readAxis, some .writeAxis⟩, ⟨.readGeometry, some .writeGeometry⟩, ⟨.readZone, some .writeZone⟩,
    ⟨.readStopConfig, some .writeStopConfig⟩, ⟨.readGesture, some .writeGesture⟩,
    ⟨.readLampMap, some .writeLampMap⟩, ⟨.readCurve, none⟩, ⟨.readSubject, some .writeSubject⟩,
    ⟨.readCueSlot, some .writeCueSlot⟩, ⟨.readNoticeConfig, some .writeNoticeConfig⟩,
    ⟨.readThresholds, some .writeThresholds⟩, ⟨.readPose, none⟩, ⟨.readEvaluation, none⟩, ⟨.readSpeedScale, none⟩,
    ⟨.readStopStatus, none⟩, ⟨.readPlayer, none⟩, ⟨.readRecorder, none⟩, ⟨.readTake, none⟩, ⟨.readFreeCount, none⟩,
    ⟨.readPort, none⟩, ⟨.readLensStatus, none⟩, ⟨.readNotices, none⟩, ⟨.readGateCounters, none⟩,
    ⟨.readMgmtCounters, none⟩]

/-- The rows of the request codes from 03h on, in the order of the catalogue (section 11.2). -/
def catalogue : List Instr :=
  [.stop, .clearStop, .setScale, .park, .wake, .lockConfig, .unlockConfig, .armRecord, .stopRecord, .erase, .lockTake,
    .unlockTake, .loadBegin, .loadPage, .loadEnd, .readPage, .cue, .go, .resume, .release, .curveLoad, .followOn,
    .followOff, .clearNotice, .linkTestStart, .linkTestStop, .reset]

/-- The rows of the selector that a READ or WRITE body names, if the part has it. -/
def selectorOf (body : List Byte) : Option SelectorRows :=
  match body with
  | [] => none
  | sel :: _ => selectorTable[sel.toNat]?

/-- The row of a request. A READ of a selector that the part does not have is an UNKNOWN_REQUEST, and a WRITE of one, or
of a read-only selector, is a WRITE_READ_ONLY_SELECTOR (R185, R186, DEDUCED: assumption log 5). -/
def Request.row (r : Request) : Instr :=
  if r.code = 0x01#8 then (match selectorOf r.body with | some e => e.read | none => .unknownRequest)
  else if r.code = 0x02#8 then
    (match selectorOf r.body with
      | some ⟨_, some w⟩ => w
      | _ => .writeReadOnlySelector)
  else if r.code = 0x00#8 then .unknownRequest
  else (catalogue[r.code.toNat - 3]?).getD .unknownRequest

/-! ## Taking and answering a request (R184, R189) -/

/-- The most requests, and the most replies, that the queues of the Management Unit hold (R184). -/
def requestLimit : Nat := 4

/-- Whether the Management Unit may take a request: it executes none, no RESET is on its way, and a reply entry is free
(R184, R189). -/
def Mgmt.canStart (m : Mgmt) : Bool :=
  m.erasing.isNone && m.reset == .none && decide (m.replies.length < requestLimit)

/-- The take of the request at the head of the queue, when it is a request of the given row (R184). -/
def takeRequest (row : Instr) (s : State) : Option (Request × State) :=
  match s.mgmt.requests with
  | [] => none
  | r :: rest =>
    if s.mgmt.canStart ∧ r.row = row then some (r, s.withMgmt { s.mgmt with requests := rest }) else none

/-- What the execution of a request gives: the result and the body of its reply, and the state (R185). -/
structure Answer where
  result : Result
  body : List Byte
  state : State

/-- An answer that changes nothing and carries an empty body (R185). -/
def refuse (r : Result) (s : State) : Answer := ⟨r, [], s⟩

/-- An answer OK with an empty body (R185). -/
def accept (s : State) : Answer := ⟨.ok, [], s⟩

/-- The answer of an operation that gives a result and a state. -/
def answerOf (t : Result × State) : Answer := ⟨t.1, [], t.2⟩

/-- The execution of one request of a row in one event, with its reply appended; where the request at the head of the
queue is of another row, or may not be taken yet, nothing happens (R184, DESIGN CHOICE: assumption log 4). -/
def execute (row : Instr) (run : Request → State → Answer) (s : State) : State :=
  match takeRequest row s with
  | none => s
  | some (r, s') =>
    let a := run r s'
    appendReply r.tag a.result a.body false a.state

/-- The answer to a request whose code, or whose selector, the part does not have, or whose selector is read only:
UNKNOWN, but INVALID for a READ or WRITE that carries no selector (R185, R186). -/
def unknownAnswer (r : Request) (s : State) : Answer :=
  if (r.code = 0x01#8 ∨ r.code = 0x02#8) ∧ r.body = [] then refuse .invalid s else refuse .unknown s

/-- A request that carries no body (R185). -/
def withoutBody (run : State → Answer) (r : Request) (s : State) : Answer :=
  if r.body = [] then run s else refuse .invalid s

/-- A request whose body is read by a reader; a body of another form is answered INVALID (R185). -/
def withBody {α : Type} (reader : List Byte → Option α) (run : α → State → Answer) (r : Request) (s : State) : Answer :=
  match reader r.body with
  | some a => run a s
  | none => refuse .invalid s

/-- A body of one numbered argument. -/
def oneFin (n : Nat) (bs : List Byte) : Option (Fin n) := finished (readFin n bs)

/-! ## READ and WRITE (R186) -/

/-- The index of a selector that has n of them, from 0. -/
def indexBelow (n : Nat) (b : Byte) : Option (Fin n) := finOf n b.toNat

/-- The index of CURVE: 7 to 9. -/
def curveIndex (b : Byte) : Option (Fin 3) := if b.toNat < 7 then none else finOf 3 (b.toNat - 7)

/-- The index of a selector that has none: ignored (R23). -/
def noIndex (_ : Byte) : Option Unit := some ()

/-- A READ: an index outside the range of the selector is answered UNKNOWN; a body that is not selector, index and clear
flag is answered INVALID; otherwise the record is captured whole, and what the READ clears is cleared after the capture
(R23, R186). -/
def runRead {α : Type} (index : Byte → Option α) (record : α → State → List Byte) (after : α → Bool → State → State)
    (r : Request) (s : State) : Answer :=
  match r.body with
  | _ :: b :: rest =>
    match index b with
    | none => refuse .unknown s
    | some i =>
      match finished (readFlag rest) with
      | some clear => ⟨.ok, record i s, after i clear s⟩
      | none => refuse .invalid s
  | _ => refuse .invalid s

/-- A READ of a selector whose clear option changes nothing. -/
def runReadOnly {α : Type} (index : Byte → Option α) (record : α → State → List Byte) (r : Request) (s : State) :
    Answer :=
  runRead index record (fun _ _ s => s) r s

/-- A WRITE: an index outside the range of the selector is answered UNKNOWN, a record of the wrong form INVALID, and
otherwise the owner takes the tests of its rule (R185, R186). -/
def runWrite {α β : Type} (index : Byte → Option α) (reader : α → List Byte → Option β)
    (write : α → β → State → Answer) (r : Request) (s : State) : Answer :=
  match r.body with
  | _ :: b :: rest =>
    match index b with
    | none => refuse .unknown s
    | some i =>
      match reader i rest with
      | some v => write i v s
      | none => refuse .invalid s
  | _ => refuse .invalid s

end Sys2Proof.Machine
end

