-- ==== Sys2Proof/Machine/Writes.lean ====
section
/-! DEFINITION. The meanings of the WRITE rows (R35, R41, R42, R44, R62, R118, R121, R122, R136, R178, R186, R194). -/

namespace Sys2Proof.Machine

/-- A number within a range, both ends included. -/
def within (lo hi n : Nat) : Bool := decide (lo ≤ n ∧ n ≤ hi)

/-- A test under the configuration lock: LOCKED while it is set (R188). -/
def unlessLocked (run : State → Answer) (s : State) : Answer := if s.mgmt.locked then refuse .locked s else run s

/-! ## AXIS (R40 to R42, R82) -/

/-- Whether every field that the record of an axis has lies within its range, and the soft minimum below the soft
maximum (R40, R41). -/
def axisInRange (k : Axis) (r : AxisRecord) : Bool :=
  decide (r.softMin < r.softMax) && within 1 1048575 r.stepMax
    && (!hasMotionFields k
      || (within 1 65535 r.deceleration && within 0 1023 r.standstill && within 1 16 r.cueScale))
    && within 1 15 r.ageLimit && within 1 16777215 r.followThreshold && within 0 7 r.followLag
    && within 0 65535 r.inPosition
    && (!hasUnitFields k
      || (decide (r.unitMultiplier ≠ 0 ∧ r.unitMultiplier.natAbs ≤ 65535) && within 0 24 r.unitShift))

/-- The record that an accepted write leaves: with valid yes every field, with valid no the old fields made invalid
(R41). -/
def AxisRecord.written (old new : AxisRecord) : AxisRecord := if new.valid then new else { old with valid := false }

/-- An accepted WRITE of AXIS k: the record, the last-forwarded entry of k invalid, the FEEDBACK_LOST or STALE judgement
of k made again, and UNCONFIGURED handed over (R41, R42, R45, R82). -/
def putAxis (k : Axis) (r : AxisRecord) (s : State) : State :=
  let s := s.withPose { s.pose with axes := s.pose.axes.set k.val (AxisRecord.written s.pose.axes[k] r) }
  let s := s.withGate { s.gate with last := s.gate.last.set k.val none }
  judgeConfigured (judgeFeedback k s)

/-- WRITE of AXIS k: the tests of R41 in order. -/
def writeAxis (k : Axis) (r : AxisRecord) (s : State) : Answer :=
  if s.mgmt.locked then refuse .locked s
  else if isMotion k && (s.stop.state == .run || s.stop.state == .ramp) then refuse .refused s
  else if !isMotion k && s.player.mask[k] then refuse .refused s
  else if r.valid && !axisInRange k r then refuse .invalid s
  else accept (putAxis k r s)

/-- WRITE_AXIS (R41). -/
def execWriteAxis (s : State) : Host.Outcome State Fault Refusal :=
  .next (execute .writeAxis (runWrite (indexBelow 10) readAxisRecord writeAxis) s)

/-! ## GEOMETRY (R43, R44) -/

/-- Whether every field of a geometry record lies within its range (R43). -/
def geometryInRange (g : Geometry) : Bool :=
  decide (g.pivot.x.natAbs ≤ 100000) && decide (g.pivot.y.natAbs ≤ 100000) && decide (g.pivot.z.natAbs ≤ 100000)
    && within 0 2000 g.headDrop && within 0 3000 g.headRadius

/-- The record that an accepted write leaves (R44). -/
def Geometry.written (old new : Geometry) : Geometry := if new.valid then new else { old with valid := false }

/-- WRITE of GEOMETRY: the tests of R44 in order, and UNCONFIGURED handed over (R44, R45). -/
def writeGeometry (g : Geometry) (s : State) : Answer :=
  if s.mgmt.locked then refuse .locked s
  else if s.stop.state == .run || s.stop.state == .ramp then refuse .refused s
  else if g.valid && !geometryInRange g then refuse .invalid s
  else
    accept (judgeConfigured (s.withPose { s.pose with geometry := Geometry.written s.pose.geometry g }))

/-- WRITE_GEOMETRY (R44). -/
def execWriteGeometry (s : State) : Host.Outcome State Fault Refusal :=
  .next (execute .writeGeometry (runWrite noIndex (fun _ => readGeometry) fun _ => writeGeometry) s)

/-! ## ZONE (R61, R62) -/

/-- Whether a zone record lies within its ranges (R61, R62). -/
def zoneInRange (b : ZoneBody) : Bool :=
  let z := b.zone
  decide (z.box.lo.x ≤ z.box.hi.x) && decide (z.box.lo.y ≤ z.box.hi.y) && decide (z.box.lo.z ≤ z.box.hi.z)
    && within 0 5000 z.band && within 1 16 z.factor && (z.kind != .crew || within 0 7 b.presence)

/-- The zone record that an accepted write stores: the presence input for kind CREW alone (R62). -/
def ZoneBody.stored (b : ZoneBody) : Zone :=
  { b.zone with presence := if b.zone.kind = .crew then finOf 8 b.presence else none }

/-- WRITE of ZONE z: the tests of R62 in order. -/
def writeZone (z : Fin 24) (b : ZoneBody) : State → Answer :=
  unlessLocked fun s =>
    if zoneInRange b then accept (s.withEnv { s.env with zones := s.env.zones.set z.val b.stored })
    else refuse .invalid s

/-- WRITE_ZONE (R62). -/
def execWriteZone (s : State) : Host.Outcome State Fault Refusal :=
  .next (execute .writeZone (runWrite (indexBelow 24) (fun _ => readZone) writeZone) s)

/-! ## STOP_CONFIG, GESTURE, LAMP_MAP (R118, R121, R122) -/

/-- Whether a stop configuration lies within its ranges (R122). -/
def stopConfigInRange (c : StopConfig) : Bool :=
  within 10 2000 c.syncTimeout && within 100 20000 c.rampLimit && within 5 500 c.discrepancy
    && within 1 16 c.degradeFactor && within 1 2000 c.linkUpTime && within 1 10000 c.degradeHold
    && within 1 255 c.highError

/-- An accepted WRITE of STOP_CONFIG: the record, and the link component handed over where the D port is DEGRADED (R32,
R122). -/
def putStopConfig (c : StopConfig) (s : State) : State :=
  let s := s.withStop { s.stop with config := c }
  if s.link.d.state = .degraded then s.setScale { s.env.scale with link := s.linkComponent } else s

/-- WRITE of STOP_CONFIG (R122). -/
def writeStopConfig (c : StopConfig) : State → Answer :=
  unlessLocked fun s => if stopConfigInRange c then accept (putStopConfig c s) else refuse .invalid s

/-- WRITE_STOP_CONFIG (R122). -/
def execWriteStopConfig (s : State) : Host.Outcome State Fault Refusal :=
  .next (execute .writeStopConfig (runWrite noIndex (fun _ => readStopConfig) fun _ => writeStopConfig) s)

/-- Whether a gesture record lies within its ranges (R118). -/
def gestureInRange (g : Gesture) : Bool := within 1 63 g.pulseMax && within 1 63 g.gapMax && within 1 255 g.confirm

/-- WRITE of GESTURE: the record replaced and the detector reset (R118). -/
def writeGesture (g : Gesture) : State → Answer :=
  unlessLocked fun s =>
    if gestureInRange g then
      accept (s.withStop { s.stop with gesture := g, detector := Detector.initial })
    else refuse .invalid s

/-- WRITE_GESTURE (R118). -/
def execWriteGesture (s : State) : Host.Outcome State Fault Refusal :=
  .next (execute .writeGesture (runWrite noIndex (fun _ => readGesture) fun _ => writeGesture) s)

/-- WRITE of LAMP_MAP: the map replaced, and the lamps take the patterns of the new map at once (R121). -/
def writeLampMap (m : Vector PatternPair 9) : State → Answer :=
  unlessLocked fun s => accept (refreshLamps (s.withStop { s.stop with lampMap := m }))

/-- WRITE_LAMP_MAP (R121). -/
def execWriteLampMap (s : State) : Host.Outcome State Fault Refusal :=
  .next (execute .writeLampMap (runWrite noIndex (fun _ => readLampMap) fun _ => writeLampMap) s)

/-! ## SUBJECT, CUE_SLOT, NOTICE_CONFIG, THRESHOLDS (R35, R136, R178, R194): accepted under the lock -/

/-- The follow record after a write of preset k: where follow is on with k selected, it takes the new subject point and
trim limit and clamps its trim (R136). -/
def Follow.retarget (f : Follow) (k : Fin 4) (p : Subject) : Follow :=
  if f.on ∧ f.preset = some k then
    { f with
      subject := p.point, trimLimit := p.trimLimit, trim := clampInt (-(p.trimLimit : Int)) p.trimLimit f.trim }
  else f

/-- WRITE of SUBJECT k (R136). -/
def writeSubject (k : Fin 4) (p : Subject) (s : State) : Answer :=
  if within 0 10000 p.trimLimit then
    accept (s.withLens
      { s.lens with subjects := s.lens.subjects.set k.val p, follow := s.lens.follow.retarget k p })
  else refuse .invalid s

/-- WRITE_SUBJECT (R136). -/
def execWriteSubject (s : State) : Host.Outcome State Fault Refusal :=
  .next (execute .writeSubject (runWrite (indexBelow 4) (fun _ => readSubject) writeSubject) s)

/-- WRITE of CUE_SLOT n: a slot is disabled, or a disabled slot is loaded, with progress 0 (R178). -/
def writeCueSlot (n : Fin 8) (c : CueSlot) (s : State) : Answer :=
  if c.pattern ≠ [] ∧ s.cues[n].pattern ≠ [] then refuse .slotBusy s
  else accept (s.withCues (s.cues.set n.val c))

/-- WRITE_CUE_SLOT (R178). -/
def execWriteCueSlot (s : State) : Host.Outcome State Fault Refusal :=
  .next (execute .writeCueSlot (runWrite (indexBelow 8) (fun _ => readCueSlot) writeCueSlot) s)

/-- WRITE of NOTICE_CONFIG (R194). -/
def writeNoticeConfig (c : NoticeConfig) (s : State) : Answer := accept (s.withNotices { s.notices with config := c })

/-- WRITE_NOTICE_CONFIG (R194). -/
def execWriteNoticeConfig (s : State) : Host.Outcome State Fault Refusal :=
  .next (execute .writeNoticeConfig (runWrite noIndex (fun _ => readNoticeConfig) fun _ => writeNoticeConfig) s)

/-- WRITE of THRESHOLDS (R35). -/
def writeThresholds (t : Thresholds) (s : State) : Answer := accept (s.withLink { s.link with thresholds := t })

/-- WRITE_THRESHOLDS (R35). -/
def execWriteThresholds (s : State) : Host.Outcome State Fault Refusal :=
  .next (execute .writeThresholds (runWrite noIndex (fun _ => readThresholds) fun _ => writeThresholds) s)

/-! ## Requests that the part does not know (R185, R186) -/

/-- WRITE_READ_ONLY_SELECTOR (R186). -/
def execWriteReadOnlySelector (s : State) : Host.Outcome State Fault Refusal :=
  .next (execute .writeReadOnlySelector unknownAnswer s)

/-- UNKNOWN_REQUEST (R185). -/
def execUnknownRequest (s : State) : Host.Outcome State Fault Refusal :=
  .next (execute .unknownRequest unknownAnswer s)

end Sys2Proof.Machine
end

