-- ==== Sys2Proof/Machine/Commands.lean ====
section
/-! DEFINITION. The meanings of the remaining request rows (R37, R39, R76, R103, R113, R114, R127, R138, R139, R146 to R151,
R154, R159, R163, R167, R171, R172, R188, R189, R192) and of the page returns of ERASE (R147). -/

namespace Sys2Proof.Machine

/-! ## Stops, scale, parking, lock (R76, R103, R113, R114, R188) -/

/-- The modes of STOP (R103). -/
inductive StopMode
  | ramp
  | cut
  deriving DecidableEq, Repr

/-- The body of STOP: RAMP 00h, CUT 01h (R23, R103). -/
def readStopMode (bs : List Byte) : Option StopMode := finished (readName [StopMode.ramp, .cut] bs)

/-- STOP of a mode (R103). -/
def runStop (m : StopMode) (s : State) : Answer :=
  match m with
  | .cut => accept (causeEnters .mgmtCut s)
  | .ramp => accept (rampEvent .mgmtRamp s)

/-- STOP (R103). -/
def execStop (s : State) : Host.Outcome State Fault Refusal :=
  .next (execute .stop (withBody readStopMode runStop) s)

/-- CLEAR_STOP (R103, R107). -/
def execClearStop (s : State) : Host.Outcome State Fault Refusal :=
  .next (execute .clearStop (withoutBody fun s => accept (judgeCut (causeLeaves .mgmtCut s))) s)

/-- The value of SET_SCALE clamped to 1..16 (R76). -/
def clampScale (v : Nat) : Nat := if v < 1 then 1 else if 16 < v then 16 else v

/-- SET_SCALE of a value: the trim component, with the stored trim in the reply (R76). -/
def runSetScale (v : Nat) (s : State) : Answer :=
  ⟨.ok, natBE 1 (clampScale v), s.setScale { s.env.scale with trim := clampScale v }⟩

/-- SET_SCALE (R76). -/
def execSetScale (s : State) : Host.Outcome State Fault Refusal :=
  .next (execute .setScale (withBody (fun bs => finished (readNat 1 bs)) runSetScale) s)

/-- Whether a source of the wake set is pending, whatever its enables and whether it has been sent (R196). -/
def Notices.wakePending (n : Notices) : Bool := (List.finRange 17).any fun k => n.config.wake[k] && n.entries[k].pending

/-- PARK (R113). -/
def runPark (s : State) : Answer :=
  if s.stop.state ≠ .held then refuse .refused s
  else if s.notices.wakePending then refuse .notParked s
  else accept (Sys2Proof.Machine.park s)

/-- PARK (R113). -/
def execPark (s : State) : Host.Outcome State Fault Refusal := .next (execute .park (withoutBody runPark) s)

/-- WAKE (R114). -/
def runWake (s : State) : Answer :=
  if s.stop.state = .parked then accept (wake .request s) else refuse .refused s

/-- WAKE (R114). -/
def execWake (s : State) : Host.Outcome State Fault Refusal := .next (execute .wake (withoutBody runWake) s)

/-- The state with another configuration lock. -/
def State.setLock (s : State) (locked : Bool) : State := s.withMgmt { s.mgmt with locked := locked }

/-- LOCK_CONFIG (R188). -/
def execLockConfig (s : State) : Host.Outcome State Fault Refusal :=
  .next (execute .lockConfig (withoutBody fun s => accept (s.setLock true)) s)

/-- UNLOCK_CONFIG samples the service key input (R188). -/
def runUnlock (s : State) : Answer := if s.pins.serviceKey then accept (s.setLock false) else refuse .locked s

/-- UNLOCK_CONFIG (R188). -/
def execUnlockConfig (s : State) : Host.Outcome State Fault Refusal :=
  .next (execute .unlockConfig (withoutBody runUnlock) s)

/-! ## Recorder (R154, R159) -/

/-- The body of ARM_RECORD: take and mask (R154). -/
def readArm (bs : List Byte) : Option (Fin 32 × FlagSet 10) := do
  let (t, bs) ← readFin 32 bs
  let (m, bs) ← readAxisSet bs
  finished (some ((t, m), bs))

/-- ARM_RECORD (R154). -/
def execArmRecord (s : State) : Host.Outcome State Fault Refusal :=
  .next (execute .armRecord (withBody readArm fun b s => answerOf (Sys2Proof.Machine.armRecord b.1 b.2 s)) s)

/-- STOP_RECORD (R159). -/
def execStopRecord (s : State) : Host.Outcome State Fault Refusal :=
  .next (execute .stopRecord (withoutBody fun s => answerOf (Sys2Proof.Machine.stopRecord s)) s)

/-! ## Take store (R146 to R151) -/

/-- Whether ERASE of a take is refused (R147). -/
def eraseRefused (t : Fin 32) (s : State) : Bool :=
  s.store.takes[t].locked || s.store.takes[t].state != .closed || s.recorder.take == some t || s.player.take == some t

/-- The end of an ERASE: the take EMPTY, the request no longer executing, the reply OK queued (R147). -/
def endErase (tag : Byte) (t : Fin 32) (s : State) : State :=
  appendReply tag .ok [] false
    ((s.withStore (s.store.emptyTake t)).withMgmt { s.mgmt with erasing := none })

/-- An accepted ERASE: the take becomes ERASING and the Management Unit stays on the request, or, where the chain is
empty, the erase ends in the same event (R147). -/
def beginErase (tag : Byte) (t : Fin 32) (s : State) : State :=
  if s.store.takes[t].chain = [] then endErase tag t s
  else
    (s.withStore (s.store.setTake t { s.store.takes[t] with state := .erasing })).withMgmt
      { s.mgmt with erasing := some ⟨tag, t⟩ }

/-- ERASE of the request at the head of the queue (R147). -/
def eraseRequest (s : State) : State :=
  match takeRequest .erase s with
  | none => s
  | some (r, s') =>
    match oneFin 32 r.body with
    | none => appendReply r.tag .invalid [] false s'
    | some t => if eraseRefused t s' then appendReply r.tag .refused [] false s' else beginErase r.tag t s'

/-- ERASE (R147). -/
def execErase (s : State) : Host.Outcome State Fault Refusal := .next (eraseRequest s)

/-- One page return of an ERASE that is under way; the last one empties the take and queues the reply (R143, R147). -/
def pageReturn (s : State) : State :=
  match s.mgmt.erasing with
  | none => s
  | some e =>
    let s := s.withStore (s.store.returnPage e.take)
    if s.store.takes[e.take].chain = [] then endErase e.tag e.take s else s

/-- ERASE_PAGE_RETURN (R147). -/
def execErasePageReturn (s : State) : Host.Outcome State Fault Refusal := .next (pageReturn s)

/-- LOCK_TAKE of a take: accepted when it is RECORDING or CLOSED (R148). -/
def runLockTake (t : Fin 32) (s : State) : Answer :=
  if s.store.takes[t].state = .recording ∨ s.store.takes[t].state = .closed then
    accept (s.withStore (s.store.setTake t { s.store.takes[t] with locked := true }))
  else refuse .refused s

/-- LOCK_TAKE (R148). -/
def execLockTake (s : State) : Host.Outcome State Fault Refusal :=
  .next (execute .lockTake (withBody (oneFin 32) runLockTake) s)

/-- UNLOCK_TAKE of a take, accepted in every take state (R148). -/
def runUnlockTake (t : Fin 32) (s : State) : Answer :=
  accept (s.withStore (s.store.setTake t { s.store.takes[t] with locked := false }))

/-- UNLOCK_TAKE (R148). -/
def execUnlockTake (s : State) : Host.Outcome State Fault Refusal :=
  .next (execute .unlockTake (withBody (oneFin 32) runUnlockTake) s)

/-- LOAD_BEGIN (R149): an EMPTY take not held by the recorder becomes LOADING and open; its chain is the empty chain of
an EMPTY take (R144). -/
def runLoadBegin (b : LoadBody) (s : State) : Answer :=
  let r := s.store.takes[b.take]
  if r.state ≠ .empty ∨ s.recorder.take = some b.take then refuse .refused s
  else
    accept (s.withStore (s.store.setTake b.take
      { r with
        state := .loading, mask := b.mask, samples := 0, start := b.start, prints := b.prints, endReason := none
        isOpen := true }))

/-- LOAD_BEGIN (R149). -/
def execLoadBegin (s : State) : Host.Outcome State Fault Refusal :=
  .next (execute .loadBegin (withBody readLoadBegin runLoadBegin) s)

/-- Whether a LOAD_PAGE of a LOADING take is answered INVALID (R150). -/
def pageInvalid (r : Take) (b : PageBody) : Bool :=
  !r.isOpen || !within 1 r.perPage b.samples || b.words.length != b.samples * r.mask.size

/-- The words of a LOAD_PAGE written into the page just allocated, which is the tail of the chain (R150). -/
def Store.fillPage (st : Store) (b : PageBody) (page : Nat) : Store :=
  let r := st.takes[b.take]
  { st with words := writeWords st.words (wordAddress page 0) b.words }.setTake b.take
    { r with samples := r.samples + b.samples, isOpen := decide (b.samples = r.perPage) }

/-- LOAD_PAGE (R150): the reply carries the page index and the new sample count. -/
def runLoadPage (b : PageBody) (s : State) : Answer :=
  let r := s.store.takes[b.take]
  if r.state ≠ .loading then refuse .refused s
  else if pageInvalid r b then refuse .invalid s
  else
    match s.store.free, s.store.allocate b.take with
    | page :: _, some st =>
      ⟨.ok, natBE 2 page ++ natBE 3 (r.samples + b.samples), s.withStore (st.fillPage b page)⟩
    | _, _ => refuse .noSpace s

/-- LOAD_PAGE (R150). -/
def execLoadPage (s : State) : Host.Outcome State Fault Refusal :=
  .next (execute .loadPage (withBody readLoadPage runLoadPage) s)

/-- LOAD_END (R151). -/
def runLoadEnd (t : Fin 32) (s : State) : Answer :=
  let r := s.store.takes[t]
  if r.state = .loading then
    accept (s.withStore (s.store.setTake t { r with state := .closed, endReason := some .loaded, isOpen := false }))
  else refuse .refused s

/-- LOAD_END (R151). -/
def execLoadEnd (s : State) : Host.Outcome State Fault Refusal :=
  .next (execute .loadEnd (withBody (oneFin 32) runLoadEnd) s)

/-- The body of READ_PAGE: take and ordinal (R146). -/
def readPageBody (bs : List Byte) : Option (Fin 32 × Nat) := do
  let (t, bs) ← readFin 32 bs
  let (o, bs) ← readNat 2 bs
  finished (some ((t, o), bs))

/-- The number of samples in the page of an ordinal (R146). -/
def Take.samplesIn (r : Take) (ordinal : Nat) : Nat := min r.perPage (r.samples - ordinal * r.perPage)

/-- READ_PAGE of a page of a CLOSED take (R146). -/
def runReadPage (t : Fin 32) (ordinal : Nat) (s : State) : Answer :=
  let r := s.store.takes[t]
  if r.state ≠ .closed then refuse .refused s
  else
    match r.chain[ordinal]? with
    | none => refuse .invalid s
    | some page =>
      ⟨.ok,
        [u8 t.val] ++ natBE 2 ordinal ++ natBE 2 page ++ natBE 1 (r.samplesIn ordinal)
          ++ (pageImage s.store.words page).flatMap (intBE 4), s⟩

/-- READ_PAGE (R146). -/
def execReadPage (s : State) : Host.Outcome State Fault Refusal :=
  .next (execute .readPage (withBody readPageBody fun b s => runReadPage b.1 b.2 s) s)

/-! ## Player (R163, R167, R171, R172) -/

/-- CUE (R163). -/
def execCue (s : State) : Host.Outcome State Fault Refusal :=
  .next (execute .cue (withBody (oneFin 32) fun t s => answerOf (cueTake t s)) s)

/-- GO (R167). -/
def execGo (s : State) : Host.Outcome State Fault Refusal :=
  .next (execute .go (withoutBody fun s => answerOf (goPlay s)) s)

/-- RESUME (R171). -/
def execResume (s : State) : Host.Outcome State Fault Refusal :=
  .next (execute .resume (withoutBody fun s => answerOf (resumePlay s)) s)

/-- RELEASE (R172). -/
def execRelease (s : State) : Host.Outcome State Fault Refusal :=
  .next (execute .release (withoutBody fun s => answerOf (releasePlay s)) s)

/-! ## Lenses (R127, R138, R139) -/

/-- The body of CURVE_LOAD: axis number 7 to 9, then the curve (R127). -/
def readCurveLoad (bs : List Byte) : Option (Fin 3 × Vector Byte 4 × List CurvePoint) :=
  match bs with
  | [] => none
  | b :: rest => do
    let i ← curveIndex b
    let c ← readCurve i rest
    some (i, c.1, c.2)

/-- Whether the recorder is ARMED or RECORDING with a lens axis in its mask (R127). -/
def recorderHolds (i : Fin 3) (s : State) : Bool := s.recorder.state != .idle && s.recorder.mask[lensAxis i]

/-- CURVE_LOAD of a lens axis: the tests of R127 in order, then the curve with its fingerprint (R127). -/
def runCurveLoad (i : Fin 3) (identity : Vector Byte 4) (points : List CurvePoint) (s : State) : Answer :=
  if s.player.mask[lensAxis i] then refuse .refused s
  else if recorderHolds i s then refuse .refused s
  else if !(curvePointsOk i points && identity.toList.all fun b => decide (b.toNat ≤ 0x7F)) then refuse .invalid s
  else
    let print := curveFingerprint identity points
    ⟨.ok, natBE 2 print.toNat,
      s.withLens { s.lens with curves := s.lens.curves.set i.val ⟨true, points, identity, print⟩ }⟩

/-- CURVE_LOAD (R127). -/
def execCurveLoad (s : State) : Host.Outcome State Fault Refusal :=
  .next (execute .curveLoad (withBody readCurveLoad fun b s => runCurveLoad b.1 b.2.1 b.2.2 s) s)

/-- FOLLOW_ON (R138). -/
def execFollowOn (s : State) : Host.Outcome State Fault Refusal :=
  .next (execute .followOn (withBody (oneFin 4) fun k s => answerOf (Sys2Proof.Machine.followOn k s)) s)

/-- FOLLOW_OFF: a FOLLOW_OFF while follow is off changes nothing (R139). -/
def runFollowOff (s : State) : Answer := accept (if s.lens.follow.on then turnFollowOff s else s)

/-- FOLLOW_OFF (R139). -/
def execFollowOff (s : State) : Host.Outcome State Fault Refusal :=
  .next (execute .followOff (withoutBody runFollowOff) s)

/-! ## Notices, link test, RESET (R37, R39, R189, R192) -/

/-- A notice entry cleared: pending no, sent no, count 0 and no detail; its timecode stands (R192, DEDUCED: assumption
log 12). -/
def NoticeEntry.cleared (e : NoticeEntry) : NoticeEntry :=
  { e with pending := false, sent := false, count := 0, detail := [] }

/-- CLEAR_NOTICE of a set of sources (R192). -/
def runClearNotice (set : FlagSet 17) (s : State) : Answer :=
  accept (s.withNotices
    { s.notices with
      entries :=
        Vector.ofFn fun k : Fin 17 => if set[k] then s.notices.entries[k].cleared else s.notices.entries[k] })

/-- CLEAR_NOTICE (R192). -/
def execClearNotice (s : State) : Host.Outcome State Fault Refusal :=
  .next (execute .clearNotice (withBody (fun bs => finished (readSourceSet bs)) runClearNotice) s)

/-- LINK_TEST_START (R37). -/
def execLinkTestStart (s : State) : Host.Outcome State Fault Refusal :=
  .next (execute .linkTestStart (withoutBody fun s => answerOf (startTest s)) s)

/-- LINK_TEST_STOP (R39). -/
def execLinkTestStop (s : State) : Host.Outcome State Fault Refusal :=
  .next (execute .linkTestStop (withoutBody fun s => answerOf (stopTest s)) s)

/-- RESET of the request at the head of the queue: the reply OK is appended, and from then on no request is started
(R189). -/
def resetRequest (s : State) : State :=
  match takeRequest .reset s with
  | none => s
  | some (r, s') =>
    if r.body = [] then appendReply r.tag .ok [] true (s'.withMgmt { s'.mgmt with reset := .replying })
    else appendReply r.tag .invalid [] false s'

/-- RESET (R189). -/
def execReset (s : State) : Host.Outcome State Fault Refusal := .next (resetRequest s)

end Sys2Proof.Machine
end

