-- ==== Sys2Proof/Machine/Arrivals.lean ====
section
/-! DEFINITION. What the arrival of a frame does: the receive decoder, the cycle record, and the dispatch of every kind of
frame to the blocks that own its fields (R1 to R14, R101, R115, R116, R183, R184). -/

namespace Sys2Proof.Machine

/-! ## Orders that the manual leaves open (R8, R10, DESIGN CHOICE: assumption log 3) -/

/-- An order of all the members of a list that begins as another list says: members named twice, or not of the list, are
passed over, and members not named follow in their own order. -/
def completeOrder {α : Type} [DecidableEq α] : List α → List α → List α
  | all, [] => all
  | all, b :: rest => if b ∈ all then b :: completeOrder (all.erase b) rest else completeOrder all rest

/-- The blocks that take a CYC arrival, in the order of R8. -/
def cycBlocks : List CycBlock := [.stopSupervisor, .cueMatcher, .poseUnit, .takeRecorder, .takePlayer]

/-- The blocks that take an FBK, in the order of R10. -/
def fbkBlocks : List FbkBlock := [.poseUnit, .stopSupervisor, .takePlayer, .lensUnit]

/-- An order in which the Stop Supervisor does not come before the Pose Unit, from whose entries it judges (R102). -/
def poseBeforeStop (order : List FbkBlock) : List FbkBlock :=
  if order.idxOf .stopSupervisor < order.idxOf .poseUnit then
    (order.erase .stopSupervisor).flatMap fun b => if b = .poseUnit then [.poseUnit, .stopSupervisor] else [b]
  else order

/-! ## CYC arrivals (R6 to R8) -/

/-- A CYC arrival as it is passed to the blocks (R8). -/
structure Arrival where
  fromU : Bool
  fields : CycFields
  step : Option Nat
  deriving DecidableEq, Repr

/-- One block takes a CYC arrival (R8). -/
def cycTaken (a : Arrival) (s : State) (b : CycBlock) : State :=
  match b with
  | .stopSupervisor => stopArrival a.fromU a.fields.grip a.fields.consoleStop a.step s
  | .cueMatcher => if a.fromU then cueArrival a.fields.cues s else s
  | .poseUnit => poseArrival s
  | .takeRecorder => recorderArrival a.fields.cycle a.fields.timecode s
  | .takePlayer => playerArrival a.fields.cycle a.step s

/-- The dispatch of a CYC arrival: its frame is offered to the D queue, ahead of any frame that a block originates from
it, unless the stop state was PARKED when it arrived; then the blocks take it (R8). -/
def dispatchCyc (parked : Bool) (order : List CycBlock) (f : Frame) (a : Arrival) (s : State) : State :=
  let s := if parked then s else offerQueueD f s
  (completeOrder cycBlocks order).foldl (cycTaken a) s

/-- The cycle step of a cycle number against the last cycle number (R6). -/
def CycleRecord.step (r : CycleRecord) (c : CycleNo) : Option Nat := r.last.map fun l => (c - l).toNat

/-- The measured interval after an arrival on U (R6). -/
def CycleRecord.measured (r : CycleRecord) (now : Nat) : Nat :=
  match r.arrival with
  | some t => max 2 (min 1000 (now - t))
  | none => r.interval

/-- Whether a step is a sequence error: it exists and is other than 1 (R6). -/
def isSequenceError (step : Option Nat) : Bool := step.any (· != 1)

/-- A good CYC received on U at the Frame Dispatcher (R6). -/
def cycArrives (parked : Bool) (order : List CycBlock) (f : Frame) (s : State) : State :=
  let c := cycFields f.payload
  let step := s.cycle.step c.cycle
  let s := if isSequenceError step then bumpCounter .u .sequence s else s
  let s := s.withCycle
    { s.cycle with
      interval := s.cycle.measured s.timebase, last := some c.cycle, timecode := c.timecode
      arrival := some s.timebase }
  dispatchCyc parked order f ⟨true, c, step⟩ s

/-- The fields of the substitute CYC that the cycle record gives (R7). -/
def substituteFields (r : CycleRecord) : CycFields :=
  { cycle := (match r.last with | some c => c + 1 | none => 0)
    timecode := r.timecode, grip := false, consoleStop := false, cues := [] }

/-- A substitute CYC originated: composed from the cycle record and taken as an arrival (R7, R8). -/
def originate (order : List CycBlock) (s : State) : State :=
  let c := substituteFields s.cycle
  let step := s.cycle.last.map fun _ => 1
  let parked := s.stop.state == .parked
  let s := s.withCycle { s.cycle with last := some c.cycle, arrival := none }
  dispatchCyc parked order ⟨.cyc, broadcast, cycPayload c⟩ ⟨false, c, step⟩ s

/-! ## SET (R9) -/

/-- A good SET received on U (R9). -/
def setArrives (f : Frame) (s : State) : State :=
  let x := setFields f.payload
  match axisOf f.address with
  | none => gateRefusal s
  | some k =>
    if x.basis = basisCounts then submit .console k x.setpoint x.cycle s
    else if x.basis = basisUser then
      match lensOf k with
      | some i => lensSetpoint i x.setpoint x.cycle s
      | none => gateRefusal s
    else gateRefusal s

/-! ## FBK (R10, R11) -/

/-- One block takes an FBK of an axis (R10). -/
def fbkTaken (envelopeFirst : Bool) (k : Axis) (x : FbkFields) (s : State) (b : FbkBlock) : State :=
  match b with
  | .poseUnit => poseFeedback envelopeFirst k x s
  | .stopSupervisor => stopFeedback k x s
  | .takePlayer => playerFeedback k x s
  | .lensUnit => match lensOf k with | some i => lensFeedback i x s | none => s

/-- The FBK as it is forwarded: the four part-filled fields as they stand now (R11). -/
def filledFbk (f : Frame) (user : Int) (s : State) : Frame :=
  { f with
    payload := f.payload.take 11
      ++ ([s.stop.state.code, s.player.state.code] ++ natBE 1 s.env.scale.effective ++ intBE 4 user) }

/-- A good FBK received on D: taken by the blocks, then forwarded with its fields filled (R10, R11). -/
def fbkArrives (order : FbkOrder) (f : Frame) (s : State) : State :=
  let x := fbkFields f.payload
  match axisOf f.address with
  | none => offerForward (filledFbk f 0 s) s
  | some k =>
    let s := (poseBeforeStop (completeOrder fbkBlocks order.blocks)).foldl (fbkTaken order.envelopeFirst k x) s
    offerForward (filledFbk f (userValue s k x.position) s) s

/-! ## MGT and RPY (R12, R13, R184) -/

/-- The request that an MGT frame carries (R21, R184). -/
def requestOf (f : Frame) : Request := ⟨f.payload.getD 0 0, f.payload.getD 1 0, f.payload.drop 2⟩

/-- A request offered to the request queue: admitted, or dropped and counted (R184). -/
def offerRequest (r : Request) (s : State) : State :=
  if s.mgmt.requests.length < 4 then s.withMgmt { s.mgmt with requests := s.mgmt.requests ++ [r] }
  else s.withMgmt { s.mgmt with drops := satInc 65535 s.mgmt.drops }

/-- Whether drive management is forwarded in a stop state (R12). -/
def StopState.forwardsMgt : StopState → Bool
  | .held => true
  | .cut => true
  | .parked => true
  | .run => false
  | .ramp => false

/-- A good MGT received on U: a request to the part, or drive management, judged against the stop state at its arrival
(R12). -/
def mgtArrives (st : StopState) (f : Frame) (s : State) : State :=
  if f.address = partNode then offerRequest (requestOf f) s
  else if st.forwardsMgt then offerQueueD f s
  else raise 15 [f.address, f.payload.getD 0 0] s

/-! ## Frames at a port (R1, R3) -/

/-- A good frame at a port: the Link Supervisor counts it and the Frame Dispatcher takes it, whatever the state of the
port (R3). -/
def goodFrame (cyc : List CycBlock) (fbk : FbkOrder) (p : Port) (f : Frame) (s : State) : State :=
  let st := s.stop.state
  let s := linkGood p s
  match f.kind with
  | .cyc => cycArrives (st == .parked) cyc f s
  | .set => setArrives f s
  | .fbk => fbkArrives fbk f s
  | .mgt => mgtArrives st f s
  | .rpy => offerForward f s
  | .dec => s
  | .brk => s
  | .note => s

/-- A bad frame at a port: dropped, counted, and on U every cue slot's progress lost (R3, R183). -/
def badFrameAt (p : Port) (r : BadReason) (s : State) : State :=
  let s := linkBad p r s
  match p with
  | .u => resetProgress s
  | .d => s

/-- The orders of a frame whose command carries none. -/
def defaultFbkOrder : FbkOrder := ⟨fbkBlocks, true⟩

/-- Bytes taken by the receive decoder of a port: a complete frame is judged and acts, an incomplete one waits for its
remaining bytes; a start delimiter after them ends it as bad with LENGTH. In TEST the decoder of D decodes no frames
(R1, R3). -/
def frameBytes (cyc : List CycBlock) (fbk : FbkOrder) (p : Port) (bytes : List Byte) (cut : Bool) (s : State) :
    State :=
  if p = .d ∧ s.inTest then s
  else
    let taken := s.spine.receiving p ++ bytes
    let cleared := s.withSpine (s.spine.setReceiving p [])
    match receive p taken with
    | .judged (.good f) => goodFrame cyc fbk p f cleared
    | .judged (.bad r) => badFrameAt p r cleared
    | .incomplete =>
      if cut then badFrameAt p .length cleared else s.withSpine (s.spine.setReceiving p taken)

/-! ## Timers of the Stop Supervisor (R109, R115 to R117): an expiry that waits while its timer is started again, stopped or
made anew is no expiry of that timer, so each acts only when its timer is due (DESIGN CHOICE: assumption log 4) -/

/-- The substitute timer started with the measured interval (R115, R116). -/
def pace (s : State) : State :=
  s.withStop { s.stop with substituteTimer := s.startTimer s.cycle.interval }

/-- Expiry of the sync timer when it is due (R115): a CYC that is taken first restarts it, and it does not expire (R117).
-/
def syncExpiry (order : List CycBlock) (s : State) : State :=
  if s.stop.syncTimer.due s.timebase then
    pace (originate order (causeEnters .syncLost (s.withStop { s.stop with syncTimer := .expired })))
  else s

/-- Expiry of the substitute timer when it is due (R116): a CYC that is taken first stops it, and it originates nothing
(R117). -/
def substituteExpiry (order : List CycBlock) (s : State) : State :=
  if s.stop.substituteTimer.due s.timebase then pace (originate order s) else s

/-- Expiry of the ramp timer in RAMP, when it is due (R109). -/
def rampExpiry (s : State) : State :=
  if s.stop.state = .ramp ∧ s.stop.rampTimer.due s.timebase then rampTimedOut s else s

end Sys2Proof.Machine
end

