-- ==== Sys2Proof/Machine/Resets.lean ====
section
/-! DEFINITION. The cold reset and the warm reset (R124, R189, R190, and the reset values of every block). -/

namespace Sys2Proof.Machine

/-- A set of causes formed from judgements. -/
def causesOf (judged : List (Cause × Bool)) : FlagSet 21 :=
  judged.foldl (fun set j => if j.2 then FlagSet.insert set j.1.code else set) (FlagSet.empty 21)

/-- The CREW_STOPn judgements of the line records (R97). -/
def crewStops (lines : Vector LineRecord 4) : List (Cause × Bool) :=
  (List.finRange 4).map fun n => (.crewStop n, lines[n].state != .clear)

/-- The LINE_FAULTn judgements of the line records (R100). -/
def lineFaults (lines : Vector LineRecord 4) : List (Cause × Bool) :=
  (List.finRange 4).map fun n => (.lineFault n, lines[n].latch != .absent)

/-! ## Cold reset (R124) -/

/-- A line record sampled at a cold reset, which is at reading 0 of the timebase (R96). -/
def LineRecord.sampled (r : LineRecord) : LineRecord :=
  { r with
    window := if r.state = .discrepant then .running 0 StopConfig.initial.discrepancy else .stopped
    latch := .absent }

/-- A cold reset: every block takes its cold-reset values, with the levels of the lines, the signals and the inputs as
they are found (R24, R96, R124). The commands that wait go on waiting: they come from outside the part. -/
def coldReset (s : State) : State :=
  let lines := Vector.ofFn fun n : Fin 4 => LineRecord.sampled s.stop.lines[n]
  let present := causesOf (crewStops lines ++ [(.linkD, true), (.unconfigured, true), (.grip, true)])
  { State.reset with
    pending := s.pending
    pins := s.pins
    link :=
      { State.reset.link with
        u := PortRecord.initial s.link.u.signal, d := PortRecord.initial s.link.d.signal }
    stop := { State.reset.stop with lines := lines, present := present, trip := present } }

/-! ## Warm reset (R124, R190) -/

/-- Every LOADING take erased, in ascending take number (R152). -/
def eraseLoadings (st : Store) : Store := (List.finRange 32).foldl Store.eraseLoading st

/-- The spine at a warm reset: the transmit queues and entries empty, a frame in transmission or reception left to its
end; the RESET reply itself is complete (R1, R14 to R16). -/
def Spine.warm (sp : Spine) : Spine :=
  { sp with
    sendingU := (match sp.sendingU with | some x => if x.ofReset then none else some x | none => none)
    forward := [], brake := none, decel := Vector.replicate 7 none, queueD := [] }

/-- The records of the Pose Unit at a warm reset: the pose record cleared (R40, R43, R46). -/
def Pose.warm (p : Pose) : Pose :=
  { p with
    entries := Vector.replicate 10 PoseEntry.initial, set := PoseSet.initial, completed := CompletedPose.initial }

/-- The judgements from which a warm reset forms the present set, from the kept records and the cleared pose and
evaluation records (R124). -/
def warmJudgements (s : State) (pose : Pose) : List (Cause × Bool) :=
  crewStops s.stop.lines ++ lineFaults s.stop.lines
    ++ [(.feedbackLost, pose.anyLost), (.linkD, s.link.d.state.isDown), (.unconfigured, pose.unconfigured),
      (.mgmtCut, true), (.grip, !s.stop.gripHeld), (.consoleStop, s.stop.consoleStop)]

/-- The Stop Supervisor at a warm reset (R124). -/
def warmStop (s : State) (pose : Pose) : Stop :=
  let present := causesOf (warmJudgements s pose)
  { s.stop with
    state := .cut, driveEnable := false, present := present, trip := present, rampTimer := .stopped
    substituteTimer := .stopped, syncTimer := s.startTimer s.stop.config.syncTimeout, standstill := FlagSet.empty 7
    detector := Detector.initial }

/-- The Lens Unit at a warm reset: follow off, every flag clear (R125, R130, R133, R137). -/
def Lens.warm (l : Lens) : Lens :=
  { l with
    fault := FlagSet.empty 3, stale := FlagSet.empty 3, endReached := FlagSet.empty 3, follow := Follow.initial }

/-- The Envelope Unit at a warm reset: the evaluation record cleared, the zone and trim components 16, the link
component recomputed (R32, R74, R75). -/
def warmEnvelope (s : State) : Envelope :=
  { s.env with
    evaluation := Evaluation.initial
    scale := ({ zone := 16, link := s.linkComponent, trim := 16, effective := 16 } : SpeedScale).recompute }

/-- A notice entry at a warm reset (R191, DEDUCED: assumption log 12). -/
def NoticeEntry.warm (e : NoticeEntry) : NoticeEntry :=
  { e with pending := false, sent := false, count := 0, detail := [] }

/-- The warm reset (R190): one event, which raises no notice. -/
def warmReset (s : State) : State :=
  let pose := s.pose.warm
  let closed := closeRecorder .interrupted s
  refreshLamps
    { s with
      spine := s.spine.warm
      cycle := { s.cycle with last := none, arrival := none }
      pose := pose
      env := warmEnvelope s
      gate := { s.gate with last := Vector.replicate 10 none }
      stop := warmStop s pose
      lens := s.lens.warm
      store := eraseLoadings closed.store
      recorder := Recorder.initial
      player := Player.initial
      cues := Vector.ofFn fun n : Fin 8 => { s.cues[n] with progress := 0 }
      mgmt := { s.mgmt with requests := [], replies := [], erasing := none, reset := .none }
      notices := { s.notices with entries := Vector.ofFn fun k : Fin 17 => NoticeEntry.warm s.notices.entries[k] } }

/-- Whether the warm reset takes effect: the RESET reply has been transmitted, or its transmission completes with this
event (R15, R189). -/
def warmResetDue (s : State) : Bool := s.mgmt.reset == .transmitted || s.spine.sendingU.any (·.ofReset)

end Sys2Proof.Machine
end

