-- ==== Sys2Proof/Machine/Events.lean ====
section
/-! DEFINITION. The meanings of the rows that are events at one block: resets, gesture, link, transmitters, timers, lines,
inputs and lamps (R15, R17, R24 to R29, R38, R68, R96 to R98, R109, R115, R116, R119, R121, R124, R188, R190). -/

namespace Sys2Proof.Machine

/-! ## Resets -/

/-- COLD_RESET (R124). -/
def execColdReset (s : State) : Host.Outcome State Fault Refusal := .next (Sys2Proof.Machine.coldReset s)

/-- WARM_RESET (R190), when the RESET reply has been transmitted. -/
def execWarmReset (s : State) : Host.Outcome State Fault Refusal :=
  .next (if warmResetDue s then Sys2Proof.Machine.warmReset s else s)

/-! ## The gesture detector (R119): the step of a CYC arrival at the detector alone (DESIGN CHOICE: assumption log 4) -/

/-- Whether a step of the detector with grip HELD completes the gesture (R119). -/
def completesGesture (st : Stop) : Bool :=
  st.state == .held && Detector.complete st.gesture (Detector.step st.gesture true st.detector)

/-- GESTURE_COMPLETE (R119). -/
def execGestureComplete (s : State) : Host.Outcome State Fault Refusal :=
  .next (if completesGesture s.stop then gestureStep true s else s)

/-- Whether a step of the detector with grip HELD exceeds the pulse maximum (R119). -/
def exceedsPulse (st : Stop) : Bool :=
  st.state == .held && st.detector.state == .pulse && decide (st.gesture.pulseMax < st.detector.count + 1)

/-- PULSE_MAXIMUM_EXCEEDED (R119). -/
def execPulseMaximumExceeded (s : State) : Host.Outcome State Fault Refusal :=
  .next (if exceedsPulse s.stop then gestureStep true s else s)

/-- Whether a step of the detector with grip RELEASED exceeds the gap maximum (R119). -/
def exceedsGap (st : Stop) : Bool :=
  st.state == .held && st.detector.state == .gap && decide (st.gesture.gapMax < st.detector.count + 1)

/-- GAP_MAXIMUM_EXCEEDED (R119). -/
def execGapMaximumExceeded (s : State) : Host.Outcome State Fault Refusal :=
  .next (if exceedsGap s.stop then gestureStep false s else s)

/-! ## The Link Supervisor (R25 to R29): the report of one frame to it alone (DESIGN CHOICE: assumption log 4) -/

/-- EIGHT_GOOD (R25): the report of the good frame that brings the good run to 8 in DOWN. -/
def execEightGood (port : Port) (s : State) : Host.Outcome State Fault Refusal :=
  let r := s.link.port port
  .next (if r.state = .down ∧ 8 ≤ r.goodRun + 1 then linkGood port s else s)

/-- BAD_RUN (R27): the report of the bad frame that brings the bad run to 4 in UP or DEGRADED. -/
def execBadRun (port : Port) (reason : BadReason) (s : State) : Host.Outcome State Fault Refusal :=
  let r := s.link.port port
  .next (if r.state.isUp = true ∧ 4 ≤ r.badRun + 1 then linkBad port reason s else s)

/-- WINDOW (R29): the report of the 1,024th frame of a health window, good or bad; a bad frame that completes a run of
four abandons its window instead (R27). -/
def execWindow (port : Port) (judged : Option BadReason) (s : State) : Host.Outcome State Fault Refusal :=
  let r := s.link.port port
  .next
    (if r.state.isUp = true ∧ 1024 ≤ r.windowFrames + 1 then
      match judged with
      | none => linkGood port s
      | some reason => if 4 ≤ r.badRun + 1 then s else linkBad port reason s
    else s)

/-- SIGNAL_LOST (R27). -/
def execSignalLost (port : Port) (s : State) : Host.Outcome State Fault Refusal :=
  .next (Sys2Proof.Machine.signalLost port s)

/-- SIGNAL_REGAINED (R25). -/
def execSignalRegained (port : Port) (s : State) : Host.Outcome State Fault Refusal :=
  .next (Sys2Proof.Machine.signalRegained port s)

/-- LINK_UP_TIMER_EXPIRY (R26). -/
def execLinkUpTimerExpiry (port : Port) (s : State) : Host.Outcome State Fault Refusal := .next (linkUpExpiry port s)

/-- DEGRADE_HOLD_TIMER_EXPIRY (R29). -/
def execDegradeHoldTimerExpiry (port : Port) (s : State) : Host.Outcome State Fault Refusal :=
  .next (holdExpiry port s)

/-- LINK_TEST_BIT_RECEIVED (R38). -/
def execLinkTestBitReceived (bit : Bool) (s : State) : Host.Outcome State Fault Refusal := .next (testBit bit s)

/-! ## The transmitters (R15, R17) -/

/-- The completion of the frame in transmission on U: where it is the RESET reply the Management Unit is told, and a
transmit opportunity follows (R15). -/
def completeU (s : State) : State :=
  match s.spine.sendingU with
  | none => s
  | some x =>
    let s := s.withSpine { s.spine with sendingU := none }
    takeU (if x.ofReset then s.withMgmt { s.mgmt with reset := .transmitted } else s)

/-- U_TRANSMIT_COMPLETE (R15). -/
def execUTransmitComplete (s : State) : Host.Outcome State Fault Refusal := .next (completeU s)

/-- The completion of the frame in transmission on D, and the transmit opportunity that follows (R17). -/
def completeD (s : State) : State :=
  if s.spine.sendingD.isNone then s else takeD (s.withSpine { s.spine with sendingD := none })

/-- D_TRANSMIT_COMPLETE (R17). -/
def execDTransmitComplete (s : State) : Host.Outcome State Fault Refusal := .next (completeD s)

/-! ## Timers of the Stop Supervisor (R109, R115, R116) -/

/-- SYNC_TIMER_EXPIRY (R115). -/
def execSyncTimerExpiry (order : List CycBlock) (s : State) : Host.Outcome State Fault Refusal :=
  .next (syncExpiry order s)

/-- SUBSTITUTE_TIMER_EXPIRY (R116). -/
def execSubstituteTimerExpiry (order : List CycBlock) (s : State) : Host.Outcome State Fault Refusal :=
  .next (substituteExpiry order s)

/-- RAMP_TIMEOUT (R109). -/
def execRampTimeout (s : State) : Host.Outcome State Fault Refusal := .next (rampExpiry s)

/-! ## Crew stop lines, inputs, lamps (R68, R97, R98, R121, R188) -/

/-- CREW_STOP_CHANNEL_CHANGE (R97). -/
def execCrewStopChannelChange (line : Fin 4) (contact : Contact) (level : Channel) (s : State) :
    Host.Outcome State Fault Refusal :=
  .next (lineChange line contact level s)

/-- DISCREPANCY_WINDOW_EXPIRY (R98), when the window timer of the line is due. -/
def execDiscrepancyWindowExpiry (line : Fin 4) (s : State) : Host.Outcome State Fault Refusal :=
  .next (if s.stop.lines[line].window.due s.timebase then lineFault line s else s)

/-- PRESENCE_INPUT_CHANGE (R68): the input takes its level, which acts at the next evaluation alone. -/
def execPresenceInputChange (input : Fin 8) (asserted : Bool) (s : State) : Host.Outcome State Fault Refusal :=
  .next (s.withPins { s.pins with presence := s.pins.presence.set input.val asserted })

/-- SERVICE_KEY_CHANGE (R188): the input takes its level, and the lock stands. -/
def execServiceKeyChange (asserted : Bool) (s : State) : Host.Outcome State Fault Refusal :=
  .next (s.withPins { s.pins with serviceKey := asserted })

/-- LAMP_PATTERN_PERIOD (R121): the end of the on part or of the off part of a flashing lamp's period, where that part is
due. -/
def execLampPatternPeriod (lamp : LampName) (s : State) : Host.Outcome State Fault Refusal :=
  .next
    (match lamp with
      | .amber => s.withStop { s.stop with amber := s.stop.amber.turn s.timebase }
      | .red => s.withStop { s.stop with red := s.stop.red.turn s.timebase })

end Sys2Proof.Machine
end

