-- ==== Sys2Proof/Machine/Frames.lean ====
section
/-! DEFINITION. The meanings of the rows that bring a frame (R1, R3, R6, R9, R10, R12, R13). -/

namespace Sys2Proof.Machine

/-- CYC_RECEIVED (R6): the timebase reads at least the arrival's reading (DESIGN CHOICE: assumption log 13). -/
def execCycReceived (now : Nat) (order : List CycBlock) (bytes : List Byte) (s : State) :
    Host.Outcome State Fault Refusal :=
  .next (frameBytes order defaultFbkOrder .u bytes false (s.withTimebase (max s.timebase now)))

/-- SET_RECEIVED (R9). -/
def execSetReceived (bytes : List Byte) (s : State) : Host.Outcome State Fault Refusal :=
  .next (frameBytes cycBlocks defaultFbkOrder .u bytes false s)

/-- FBK_RECEIVED (R10). -/
def execFbkReceived (order : FbkOrder) (bytes : List Byte) (s : State) : Host.Outcome State Fault Refusal :=
  .next (frameBytes cycBlocks order .d bytes false s)

/-- MGT_RECEIVED (R12). -/
def execMgtReceived (bytes : List Byte) (s : State) : Host.Outcome State Fault Refusal :=
  .next (frameBytes cycBlocks defaultFbkOrder .u bytes false s)

/-- RPY_RECEIVED (R13). -/
def execRpyReceived (bytes : List Byte) (s : State) : Host.Outcome State Fault Refusal :=
  .next (frameBytes cycBlocks defaultFbkOrder .d bytes false s)

/-- BAD_FRAME (R3): bytes that the receive decoder judges bad, `cut` saying that a start delimiter follows them before
the announced end of the frame (R1). -/
def execBadFrame (port : Port) (bytes : List Byte) (cut : Bool) (s : State) : Host.Outcome State Fault Refusal :=
  .next (frameBytes cycBlocks defaultFbkOrder port bytes cut s)

end Sys2Proof.Machine
end

