-- ==== Sys2Proof/Machine/Reads.lean ====
section
/-! DEFINITION. The meanings of the READ rows (R34, R60, R63, R77, R94, R118, R121 to R123, R128, R135, R136, R143, R144, R153,
R176, R177, R186, R187, R193, R194). -/

namespace Sys2Proof.Machine

/-- READ_AXIS (R60). -/
def execReadAxis (s : State) : Host.Outcome State Fault Refusal :=
  .next (execute .readAxis (runReadOnly (indexBelow 10) fun k s => axisRecordBytes k s.pose.axes[k]) s)

/-- READ_GEOMETRY (R60). -/
def execReadGeometry (s : State) : Host.Outcome State Fault Refusal :=
  .next (execute .readGeometry (runReadOnly noIndex fun _ s => geometryBytes s.pose.geometry) s)

/-- READ_ZONE (R63). -/
def execReadZone (s : State) : Host.Outcome State Fault Refusal :=
  .next (execute .readZone (runReadOnly (indexBelow 24) fun z s => zoneBytes s.env.zones[z]) s)

/-- READ_STOP_CONFIG (R122). -/
def execReadStopConfig (s : State) : Host.Outcome State Fault Refusal :=
  .next (execute .readStopConfig (runReadOnly noIndex fun _ s => stopConfigBytes s.stop.config) s)

/-- READ_GESTURE (R118). -/
def execReadGesture (s : State) : Host.Outcome State Fault Refusal :=
  .next (execute .readGesture (runReadOnly noIndex fun _ s => gestureBytes s.stop.gesture) s)

/-- READ_LAMP_MAP (R121). -/
def execReadLampMap (s : State) : Host.Outcome State Fault Refusal :=
  .next (execute .readLampMap (runReadOnly noIndex fun _ s => lampMapBytes s.stop.lampMap) s)

/-- READ_CURVE (R128). -/
def execReadCurve (s : State) : Host.Outcome State Fault Refusal :=
  .next (execute .readCurve (runReadOnly curveIndex fun i s => curveBytes i s.lens.curves[i]) s)

/-- READ_SUBJECT (R136). -/
def execReadSubject (s : State) : Host.Outcome State Fault Refusal :=
  .next (execute .readSubject (runReadOnly (indexBelow 4) fun k s => subjectBytes s.lens.subjects[k]) s)

/-- READ_CUE_SLOT (R177). -/
def execReadCueSlot (s : State) : Host.Outcome State Fault Refusal :=
  .next (execute .readCueSlot (runReadOnly (indexBelow 8) fun n s => cueSlotBytes s.cues[n]) s)

/-- READ_NOTICE_CONFIG (R194). -/
def execReadNoticeConfig (s : State) : Host.Outcome State Fault Refusal :=
  .next (execute .readNoticeConfig (runReadOnly noIndex fun _ s => noticeConfigBytes s.notices.config) s)

/-- READ_THRESHOLDS (R35). -/
def execReadThresholds (s : State) : Host.Outcome State Fault Refusal :=
  .next (execute .readThresholds (runReadOnly noIndex fun _ s => thresholdsBytes s.link.thresholds) s)

/-- READ_POSE (R60). -/
def execReadPose (s : State) : Host.Outcome State Fault Refusal :=
  .next (execute .readPose (runReadOnly noIndex fun _ s => poseBytes s.pose) s)

/-- The skipped-pose count set to 0 by a READ with the clear option (R77). -/
def clearSkipped (clear : Bool) (s : State) : State :=
  if clear then s.withEnv { s.env with evaluation := { s.env.evaluation with skipped := 0 } } else s

/-- READ_EVALUATION (R77). -/
def execReadEvaluation (s : State) : Host.Outcome State Fault Refusal :=
  .next
    (execute .readEvaluation
      (runRead noIndex (fun _ s => evaluationBytes s.env.evaluation) fun _ clear s => clearSkipped clear s) s)

/-- READ_SPEED_SCALE (R77). -/
def execReadSpeedScale (s : State) : Host.Outcome State Fault Refusal :=
  .next (execute .readSpeedScale (runReadOnly noIndex fun _ s => speedScaleBytes s.env.scale) s)

/-- READ_STOP_STATUS (R123). -/
def execReadStopStatus (s : State) : Host.Outcome State Fault Refusal :=
  .next (execute .readStopStatus (runReadOnly noIndex fun _ s => stopStatusBytes s.stop) s)

/-- READ_PLAYER (R176). -/
def execReadPlayer (s : State) : Host.Outcome State Fault Refusal :=
  .next (execute .readPlayer (runReadOnly (indexBelow 10) fun k s => playerBytes s k) s)

/-- READ_RECORDER (R153). -/
def execReadRecorder (s : State) : Host.Outcome State Fault Refusal :=
  .next (execute .readRecorder (runReadOnly noIndex fun _ s => recorderBytes s.recorder) s)

/-- READ_TAKE (R144). -/
def execReadTake (s : State) : Host.Outcome State Fault Refusal :=
  .next (execute .readTake (runReadOnly (indexBelow 32) fun t s => takeBytes s.store.takes[t]) s)

/-- READ_FREE_COUNT (R143). -/
def execReadFreeCount (s : State) : Host.Outcome State Fault Refusal :=
  .next (execute .readFreeCount (runReadOnly noIndex fun _ s => freeCountBytes s.store.free) s)

/-- The port of an index byte: 00h for U, 01h for D (R23). -/
def portIndex (b : Byte) : Option Port := if b = 0x00#8 then some .u else if b = 0x01#8 then some .d else none

/-- What a READ of a port leaves: lock-held true exactly in UP or DEGRADED, and with the clear option the counters of
the port at 0, for D the test errors among them and for U the sequence error count of the cycle record (R34). -/
def afterReadPort (p : Port) (clear : Bool) (s : State) : State :=
  let r := s.link.port p
  let r := { r with lockHeld := r.state.isUp }
  if clear then
    let s := s.withLink (s.link.setPort p { r with errored := 0, unknownKind := 0, queueDrops := 0 })
    match p with
    | .u => s.withCycle { s.cycle with sequenceErrors := 0 }
    | .d => s.withLink { s.link with testErrors := 0 }
  else s.withLink (s.link.setPort p r)

/-- READ_PORT (R34). -/
def execReadPort (s : State) : Host.Outcome State Fault Refusal :=
  .next (execute .readPort (runRead portIndex (fun p s => portBytes s p) afterReadPort) s)

/-- Every end-reached flag cleared, with or without the clear option (R130, R135). -/
def clearEndReached (s : State) : State := s.withLens { s.lens with endReached := FlagSet.empty 3 }

/-- READ_LENS_STATUS (R135). -/
def execReadLensStatus (s : State) : Host.Outcome State Fault Refusal :=
  .next
    (execute .readLensStatus (runRead noIndex (fun _ s => lensStatusBytes s.lens) fun _ _ s => clearEndReached s) s)

/-- READ_NOTICES (R193). -/
def execReadNotices (s : State) : Host.Outcome State Fault Refusal :=
  .next (execute .readNotices (runReadOnly (indexBelow 17) fun k s => noticeBytes s.notices k) s)

/-- Every count of the gate set to 0 by a READ with the clear option, the last-forwarded record left as it stands (R94).
-/
def clearGateCounts (clear : Bool) (s : State) : State :=
  if clear then
    s.withGate
      { s.gate with
        clamps := Vector.replicate 10 0, withheld := Vector.replicate 10 0, overridden := Vector.replicate 10 0
        refusals := 0 }
  else s

/-- READ_GATE_COUNTERS (R94). -/
def execReadGateCounters (s : State) : Host.Outcome State Fault Refusal :=
  .next
    (execute .readGateCounters
      (runRead noIndex (fun _ s => gateBytes s.gate) fun _ clear s => clearGateCounts clear s) s)

/-- The request drop count set to 0 by a READ with the clear option (R187). -/
def clearRequestDrops (clear : Bool) (s : State) : State :=
  if clear then s.withMgmt { s.mgmt with drops := 0 } else s

/-- READ_MGMT_COUNTERS (R187). -/
def execReadMgmtCounters (s : State) : Host.Outcome State Fault Refusal :=
  .next
    (execute .readMgmtCounters
      (runRead noIndex (fun _ s => mgmtBytes s) fun _ clear s => clearRequestDrops clear s) s)

end Sys2Proof.Machine
end

