-- ==== Sys2Proof/Machine/Dispatch.lean ====
section
/-! DEFINITION. The dispatch of a command to its meaning: one arm for each row of the table. -/

namespace Sys2Proof.Machine

/-- The effect of a command on everything but the queue of waiting commands. -/
def exec (i : Instr) (s : State) : Host.Outcome State Fault Refusal :=
  match i with
  | .coldReset => Sys2Proof.Machine.execColdReset s
  | .warmReset => Sys2Proof.Machine.execWarmReset s
  | .cycReceived now order bytes => Sys2Proof.Machine.execCycReceived now order bytes s
  | .gestureComplete => Sys2Proof.Machine.execGestureComplete s
  | .pulseMaximumExceeded => Sys2Proof.Machine.execPulseMaximumExceeded s
  | .gapMaximumExceeded => Sys2Proof.Machine.execGapMaximumExceeded s
  | .setReceived bytes => Sys2Proof.Machine.execSetReceived bytes s
  | .fbkReceived order bytes => Sys2Proof.Machine.execFbkReceived order bytes s
  | .mgtReceived bytes => Sys2Proof.Machine.execMgtReceived bytes s
  | .rpyReceived bytes => Sys2Proof.Machine.execRpyReceived bytes s
  | .badFrame port bytes cut => Sys2Proof.Machine.execBadFrame port bytes cut s
  | .eightGood port => Sys2Proof.Machine.execEightGood port s
  | .badRun port reason => Sys2Proof.Machine.execBadRun port reason s
  | .window port judged => Sys2Proof.Machine.execWindow port judged s
  | .signalLost port => Sys2Proof.Machine.execSignalLost port s
  | .signalRegained port => Sys2Proof.Machine.execSignalRegained port s
  | .linkUpTimerExpiry port => Sys2Proof.Machine.execLinkUpTimerExpiry port s
  | .degradeHoldTimerExpiry port => Sys2Proof.Machine.execDegradeHoldTimerExpiry port s
  | .uTransmitComplete => Sys2Proof.Machine.execUTransmitComplete s
  | .dTransmitComplete => Sys2Proof.Machine.execDTransmitComplete s
  | .syncTimerExpiry order => Sys2Proof.Machine.execSyncTimerExpiry order s
  | .substituteTimerExpiry order => Sys2Proof.Machine.execSubstituteTimerExpiry order s
  | .rampTimeout => Sys2Proof.Machine.execRampTimeout s
  | .crewStopChannelChange line contact level => Sys2Proof.Machine.execCrewStopChannelChange line contact level s
  | .discrepancyWindowExpiry line => Sys2Proof.Machine.execDiscrepancyWindowExpiry line s
  | .presenceInputChange input asserted => Sys2Proof.Machine.execPresenceInputChange input asserted s
  | .serviceKeyChange asserted => Sys2Proof.Machine.execServiceKeyChange asserted s
  | .lampPatternPeriod lamp => Sys2Proof.Machine.execLampPatternPeriod lamp s
  | .erasePageReturn => Sys2Proof.Machine.execErasePageReturn s
  | .unknownRequest => Sys2Proof.Machine.execUnknownRequest s
  | .writeReadOnlySelector => Sys2Proof.Machine.execWriteReadOnlySelector s
  | .readAxis => Sys2Proof.Machine.execReadAxis s
  | .readGeometry => Sys2Proof.Machine.execReadGeometry s
  | .readZone => Sys2Proof.Machine.execReadZone s
  | .readStopConfig => Sys2Proof.Machine.execReadStopConfig s
  | .readGesture => Sys2Proof.Machine.execReadGesture s
  | .readLampMap => Sys2Proof.Machine.execReadLampMap s
  | .readCurve => Sys2Proof.Machine.execReadCurve s
  | .readSubject => Sys2Proof.Machine.execReadSubject s
  | .readCueSlot => Sys2Proof.Machine.execReadCueSlot s
  | .readNoticeConfig => Sys2Proof.Machine.execReadNoticeConfig s
  | .readThresholds => Sys2Proof.Machine.execReadThresholds s
  | .readPose => Sys2Proof.Machine.execReadPose s
  | .readEvaluation => Sys2Proof.Machine.execReadEvaluation s
  | .readSpeedScale => Sys2Proof.Machine.execReadSpeedScale s
  | .readStopStatus => Sys2Proof.Machine.execReadStopStatus s
  | .readPlayer => Sys2Proof.Machine.execReadPlayer s
  | .readRecorder => Sys2Proof.Machine.execReadRecorder s
  | .readTake => Sys2Proof.Machine.execReadTake s
  | .readFreeCount => Sys2Proof.Machine.execReadFreeCount s
  | .readPort => Sys2Proof.Machine.execReadPort s
  | .readLensStatus => Sys2Proof.Machine.execReadLensStatus s
  | .readNotices => Sys2Proof.Machine.execReadNotices s
  | .readGateCounters => Sys2Proof.Machine.execReadGateCounters s
  | .readMgmtCounters => Sys2Proof.Machine.execReadMgmtCounters s
  | .writeAxis => Sys2Proof.Machine.execWriteAxis s
  | .writeGeometry => Sys2Proof.Machine.execWriteGeometry s
  | .writeZone => Sys2Proof.Machine.execWriteZone s
  | .writeStopConfig => Sys2Proof.Machine.execWriteStopConfig s
  | .writeGesture => Sys2Proof.Machine.execWriteGesture s
  | .writeLampMap => Sys2Proof.Machine.execWriteLampMap s
  | .writeSubject => Sys2Proof.Machine.execWriteSubject s
  | .writeCueSlot => Sys2Proof.Machine.execWriteCueSlot s
  | .writeNoticeConfig => Sys2Proof.Machine.execWriteNoticeConfig s
  | .writeThresholds => Sys2Proof.Machine.execWriteThresholds s
  | .stop => Sys2Proof.Machine.execStop s
  | .clearStop => Sys2Proof.Machine.execClearStop s
  | .setScale => Sys2Proof.Machine.execSetScale s
  | .park => Sys2Proof.Machine.execPark s
  | .wake => Sys2Proof.Machine.execWake s
  | .lockConfig => Sys2Proof.Machine.execLockConfig s
  | .unlockConfig => Sys2Proof.Machine.execUnlockConfig s
  | .armRecord => Sys2Proof.Machine.execArmRecord s
  | .stopRecord => Sys2Proof.Machine.execStopRecord s
  | .erase => Sys2Proof.Machine.execErase s
  | .lockTake => Sys2Proof.Machine.execLockTake s
  | .unlockTake => Sys2Proof.Machine.execUnlockTake s
  | .loadBegin => Sys2Proof.Machine.execLoadBegin s
  | .loadPage => Sys2Proof.Machine.execLoadPage s
  | .loadEnd => Sys2Proof.Machine.execLoadEnd s
  | .readPage => Sys2Proof.Machine.execReadPage s
  | .cue => Sys2Proof.Machine.execCue s
  | .go => Sys2Proof.Machine.execGo s
  | .resume => Sys2Proof.Machine.execResume s
  | .release => Sys2Proof.Machine.execRelease s
  | .curveLoad => Sys2Proof.Machine.execCurveLoad s
  | .followOn => Sys2Proof.Machine.execFollowOn s
  | .followOff => Sys2Proof.Machine.execFollowOff s
  | .clearNotice => Sys2Proof.Machine.execClearNotice s
  | .linkTestStart => Sys2Proof.Machine.execLinkTestStart s
  | .linkTestStop => Sys2Proof.Machine.execLinkTestStop s
  | .reset => Sys2Proof.Machine.execReset s
  | .linkTestBitReceived bit => Sys2Proof.Machine.execLinkTestBitReceived bit s

end Sys2Proof.Machine
end

