-- ==== Sys2Proof/Safety.lean ====
section
/-! DEFINITION. What a safe run keeps: the invariants that statements use, and the words in which statements speak of
requests and of what a command leaves as it stands. -/

namespace Sys2Proof.Machine

/-! ## Outcomes -/

/-- The outcome is a next state that has a property. -/
def Nexts (o : Host.Outcome State Fault Refusal) (p : State → Prop) : Prop := ∃ t, o = .next t ∧ p t

/-- A property that every step keeps. -/
def KeptByStep (inv : State → Prop) : Prop := ∀ s t : State, inv s → step s = .next t → inv t

/-! ## Timers (manual section 5.6) -/

/-- A timer is due at a reading of the timebase: it runs, and its duration has passed since it was started. -/
def IsDue (t : Timer) (now : Nat) : Prop := ∃ start duration : Nat, t = .running start duration ∧ start + duration ≤ now

/-! ## Requests (R184, R185) -/

/-- The Management Unit may take the request `r` at the head of its queue in `s`, and `s'` is the state without it
(R184, R189). -/
structure Takes (s : State) (r : Request) (s' : State) : Prop where
  idle : s.mgmt.erasing = none
  noReset : s.mgmt.reset = .none
  room : s.mgmt.replies.length < 4
  head : ∃ rest, s.mgmt.requests = r :: rest ∧ s' = s.withMgmt { s.mgmt with requests := rest }

/-- The rows that are the execution of a request by the Management Unit (R185, R186). -/
def requestRows : List Instr :=
  [.unknownRequest, .writeReadOnlySelector, .readAxis, .readGeometry, .readZone, .readStopConfig, .readGesture,
    .readLampMap, .readCurve, .readSubject, .readCueSlot, .readNoticeConfig, .readThresholds, .readPose,
    .readEvaluation, .readSpeedScale, .readStopStatus, .readPlayer, .readRecorder, .readTake, .readFreeCount,
    .readPort, .readLensStatus, .readNotices, .readGateCounters, .readMgmtCounters, .writeAxis, .writeGeometry,
    .writeZone, .writeStopConfig, .writeGesture, .writeLampMap, .writeSubject, .writeCueSlot, .writeNoticeConfig,
    .writeThresholds, .stop, .clearStop, .setScale, .park, .wake, .lockConfig, .unlockConfig, .armRecord,
    .stopRecord, .erase, .lockTake, .unlockTake, .loadBegin, .loadPage, .loadEnd, .readPage, .cue, .go, .resume,
    .release, .curveLoad, .followOn, .followOff, .clearNotice, .linkTestStart, .linkTestStop, .reset]

/-- The READ of a selector with its index byte and clear option (R23, R186). -/
def readRequest (tag selector index : Byte) (clear : Bool) : Request :=
  ⟨tag, 0x01#8, [selector, index, flagByte clear]⟩

/-- The WRITE of a selector with its index byte and record (R23, R186). -/
def writeRequest (tag selector index : Byte) (record : List Byte) : Request :=
  ⟨tag, 0x02#8, selector :: index :: record⟩

/-- A command executes a request in one event: the reply with the tag, a result and a body joins the reply queue of the
state that the request leaves (R184, R185). -/
def Replies (i : Instr) (s : State) (tag : Byte) (result : Result) (body : List Byte) (t : State) : Prop :=
  exec i s = .next (appendReply tag result body false t)

/-! ## Frames offered to D (R16 to R18) -/

/-- What the offer of a frame to the D transmitter leaves of it: discarded in TEST; behind a frame in transmission, at the
tail of a queue with room, or dropped and counted where the queue is full; and in transmission at once where the
transmitter is idle and nothing waits. -/
def OfferedToD (f : Frame) (s t : State) : Prop :=
  (s.inTest = true → t.spine.queueD = s.spine.queueD ∧ t.spine.sendingD = s.spine.sendingD ∧ t.link.d = s.link.d)
    ∧ (s.inTest = false → s.spine.sendingD.isSome = true →
      t.spine.sendingD = s.spine.sendingD
        ∧ (s.spine.queueD.length < 16 → t.spine.queueD = s.spine.queueD ++ [f] ∧ t.link.d = s.link.d)
        ∧ (16 ≤ s.spine.queueD.length →
          t.spine.queueD = s.spine.queueD
            ∧ t.link.d = { s.link.d with queueDrops := satInc 65535 s.link.d.queueDrops }))
    ∧ (s.inTest = false → s.spine.sendingD = none → s.spine.brake = none →
      (∀ k : Fin 7, s.spine.decel[k] = none) → s.spine.queueD = [] →
      t.spine.sendingD = some f ∧ t.spine.queueD = [] ∧ t.link.d = s.link.d)

/-! ## Occurrences of notices (R191) -/

/-- The occurrences of a notice source that an event brings about, with their details in order, behind a frame in
transmission on U: the entry of the source takes each of them as R191 says. -/
def Occurrences (k : Fin 17) (details : List (List Byte)) (s t : State) : Prop :=
  s.spine.sendingU.isSome = true →
    t.notices.entries[k] =
      details.foldl (fun e detail => e.occur (sourceLatched k) s.cycle.timecode detail) s.notices.entries[k]

/-! ## Records within their field widths -/

/-- A value that a signed 32-bit field holds. -/
def isI32 (v : Int) : Prop := -2147483648 ≤ v ∧ v ≤ 2147483647

/-- A point whose coordinates are signed 32-bit. -/
def Point.isI32 (p : Point) : Prop := Machine.isI32 p.x ∧ Machine.isI32 p.y ∧ Machine.isI32 p.z

/-- The soft limits are signed 32-bit, and the fields that the record of an axis does not have hold 0. -/
def AxisRecord.fits (k : Axis) (r : AxisRecord) : Prop :=
  Machine.isI32 r.softMin ∧ Machine.isI32 r.softMax
    ∧ (hasMotionFields k = false → r.deceleration = 0 ∧ r.standstill = 0 ∧ r.cueScale = 0)
    ∧ (hasUnitFields k = false → r.unitMultiplier = 0 ∧ r.unitShift = 0)

/-- A point lies in a box, its faces included. -/
def Box.holds (b : Box) (p : Point) : Prop :=
  b.lo.x ≤ p.x ∧ p.x ≤ b.hi.x ∧ b.lo.y ≤ p.y ∧ p.y ≤ b.hi.y ∧ b.lo.z ≤ p.z ∧ p.z ≤ b.hi.z

/-! ## The records that a command leaves as they stand -/

/-- The records of the machine, one for each block of the manual's block table, and the inputs and the timebase. -/
inductive Block
  | timebase
  | inputs
  | spine
  | cycle
  | link
  | pose
  | envelope
  | gate
  | stop
  | lens
  | store
  | recorder
  | player
  | cues
  | management
  | notices
  deriving DecidableEq, Repr

/-- The record of a block is the same in two states. -/
def Block.same (b : Block) (s t : State) : Prop :=
  match b with
  | .timebase => t.timebase = s.timebase
  | .inputs => t.pins = s.pins
  | .spine => t.spine = s.spine
  | .cycle => t.cycle = s.cycle
  | .link => t.link = s.link
  | .pose => t.pose = s.pose
  | .envelope => t.env = s.env
  | .gate => t.gate = s.gate
  | .stop => t.stop = s.stop
  | .lens => t.lens = s.lens
  | .store => t.store = s.store
  | .recorder => t.recorder = s.recorder
  | .player => t.player = s.player
  | .cues => t.cues = s.cues
  | .management => t.mgmt = s.mgmt
  | .notices => t.notices = s.notices

/-- Of the stop record only the lamp condition and the two lamps change: the stop state, the drive enable output, both
cause sets, every timer and every configured record stand. -/
def LampsOnly (s t : State) : Prop :=
  t.stop =
    { s.stop with lampCondition := t.stop.lampCondition, amber := t.stop.amber, red := t.stop.red }

/-- The records that a reply may change: the Management Unit's, and with the transmitter those of the spine and of the
notices. -/
def replyBlocks : List Block := [.spine, .management, .notices]

/-- The records that a cause entering or leaving the present set may change, the stop state's consequences among them. -/
def causeBlocks : List Block := [.spine, .notices, .management, .stop, .gate, .store, .recorder, .player]

/-- The records that a command may change; it leaves every other record as it stands. -/
def mayChange : Instr → List Block
  | .coldReset =>
    [.timebase, .spine, .cycle, .link, .pose, .envelope, .gate, .stop, .lens, .store, .recorder, .player, .cues,
      .management, .notices]
  | .warmReset =>
    [.spine, .cycle, .pose, .envelope, .gate, .stop, .lens, .store, .recorder, .player, .cues, .management, .notices]
  | .cycReceived _ _ _ => .timebase :: .cycle :: .link :: .pose :: .envelope :: .lens :: .cues :: causeBlocks
  | .setReceived _ => .cycle :: .link :: .pose :: .envelope :: .lens :: .cues :: causeBlocks
  | .fbkReceived _ _ => .cycle :: .link :: .pose :: .envelope :: .lens :: .cues :: causeBlocks
  | .mgtReceived _ => .cycle :: .link :: .pose :: .envelope :: .lens :: .cues :: causeBlocks
  | .rpyReceived _ => .cycle :: .link :: .pose :: .envelope :: .lens :: .cues :: causeBlocks
  | .badFrame _ _ _ => .cycle :: .link :: .pose :: .envelope :: .lens :: .cues :: causeBlocks
  | .gestureComplete => [.spine, .notices, .management, .stop, .gate]
  | .pulseMaximumExceeded => [.spine, .notices, .management, .stop, .gate]
  | .gapMaximumExceeded => [.spine, .notices, .management, .stop, .gate]
  | .eightGood _ => .link :: .envelope :: causeBlocks
  | .badRun _ _ => .cycle :: .link :: .envelope :: causeBlocks
  | .window _ _ => .cycle :: .link :: .envelope :: causeBlocks
  | .signalLost _ => .link :: .envelope :: causeBlocks
  | .signalRegained _ => [.link]
  | .linkUpTimerExpiry _ => .link :: .envelope :: causeBlocks
  | .degradeHoldTimerExpiry _ => [.link]
  | .uTransmitComplete => [.spine, .management, .notices]
  | .dTransmitComplete => [.spine]
  | .syncTimerExpiry _ => .cycle :: .link :: .pose :: .lens :: .cues :: causeBlocks
  | .substituteTimerExpiry _ => .cycle :: .link :: .pose :: .lens :: .cues :: causeBlocks
  | .rampTimeout => causeBlocks
  | .crewStopChannelChange _ _ _ => causeBlocks
  | .discrepancyWindowExpiry _ => causeBlocks
  | .presenceInputChange _ _ => [.inputs]
  | .serviceKeyChange _ => [.inputs]
  | .lampPatternPeriod _ => [.stop]
  | .erasePageReturn => .store :: replyBlocks
  | .unknownRequest => replyBlocks
  | .writeReadOnlySelector => replyBlocks
  | .readAxis => replyBlocks
  | .readGeometry => replyBlocks
  | .readZone => replyBlocks
  | .readStopConfig => replyBlocks
  | .readGesture => replyBlocks
  | .readLampMap => replyBlocks
  | .readCurve => replyBlocks
  | .readSubject => replyBlocks
  | .readCueSlot => replyBlocks
  | .readNoticeConfig => replyBlocks
  | .readThresholds => replyBlocks
  | .readPose => replyBlocks
  | .readEvaluation => .envelope :: replyBlocks
  | .readSpeedScale => replyBlocks
  | .readStopStatus => replyBlocks
  | .readPlayer => replyBlocks
  | .readRecorder => replyBlocks
  | .readTake => replyBlocks
  | .readFreeCount => replyBlocks
  | .readPort => .link :: .cycle :: replyBlocks
  | .readLensStatus => .lens :: replyBlocks
  | .readNotices => replyBlocks
  | .readGateCounters => .gate :: replyBlocks
  | .readMgmtCounters => replyBlocks
  | .writeAxis => .pose :: .lens :: causeBlocks
  | .writeGeometry => .pose :: causeBlocks
  | .writeZone => .envelope :: replyBlocks
  | .writeStopConfig => .stop :: .envelope :: replyBlocks
  | .writeGesture => .stop :: replyBlocks
  | .writeLampMap => .stop :: replyBlocks
  | .writeSubject => .lens :: replyBlocks
  | .writeCueSlot => .cues :: replyBlocks
  | .writeNoticeConfig => replyBlocks
  | .writeThresholds => .link :: replyBlocks
  | .stop => causeBlocks
  | .clearStop => .stop :: replyBlocks
  | .setScale => .envelope :: replyBlocks
  | .park => .stop :: replyBlocks
  | .wake => .stop :: replyBlocks
  | .lockConfig => replyBlocks
  | .unlockConfig => replyBlocks
  | .armRecord => .stop :: .recorder :: replyBlocks
  | .stopRecord => .stop :: .store :: .recorder :: replyBlocks
  | .erase => .store :: replyBlocks
  | .lockTake => .store :: replyBlocks
  | .unlockTake => .store :: replyBlocks
  | .loadBegin => .store :: replyBlocks
  | .loadPage => .store :: replyBlocks
  | .loadEnd => .store :: replyBlocks
  | .readPage => replyBlocks
  | .cue => .stop :: .player :: replyBlocks
  | .go => .player :: replyBlocks
  | .resume => .stop :: .player :: replyBlocks
  | .release => .stop :: .player :: replyBlocks
  | .curveLoad => .lens :: replyBlocks
  | .followOn => .lens :: replyBlocks
  | .followOff => .lens :: replyBlocks
  | .clearNotice => replyBlocks
  | .linkTestStart => .link :: .envelope :: causeBlocks
  | .linkTestStop => .link :: .envelope :: causeBlocks
  | .reset => replyBlocks
  | .linkTestBitReceived _ => [.link]

/-! ## Invariants of the stop supervision -/

/-- The drive enable output is high exactly in RUN, RAMP and HELD (R106). -/
def DriveEnableAgrees (s : State) : Prop := s.stop.driveEnable = s.stop.state.drives

/-- The trip set is empty in RUN, and in every other stop state it holds every cause of the present set (R104). -/
def TripSetAgrees (s : State) : Prop :=
  (s.stop.state = .run → FlagSet.isEmpty s.stop.trip = true)
    ∧ (s.stop.state ≠ .run → ∀ c : Fin 21, s.stop.present[c] = true → s.stop.trip[c] = true)

/-- While a CUT-category cause is in the present set, the stop state is CUT (R105). -/
def CutStands (s : State) : Prop := ∀ c : Fin 21, codeIsCut c = true → s.stop.present[c] = true → s.stop.state = .cut

/-- A cause is in the present set exactly while its condition holds. -/
def Mirrors (s : State) (c : Cause) (holds : Bool) : Prop := s.stop.present[c.code] = holds

/-- The present set holds each condition cause exactly while its condition holds, for the fifteen whose condition another
record gives at every moment (all but ZONE and MGMT_CUT); it holds ZONE only where the latest evaluation finds a zone
INTRUDE, and no event cause (R97, R98, R99, R31, R45, R49, R71, R100, R101, R102, R115, R117). -/
structure PresentSetAgrees (s : State) : Prop where
  crewStop : ∀ n : Fin 4, Mirrors s (.crewStop n) (s.stop.lines[n].state != .clear)
  lineFault : ∀ n : Fin 4, Mirrors s (.lineFault n) (s.stop.lines[n].latch != .absent)
  driveFault : Mirrors s .driveFault s.pose.driveFault
  feedbackLost : Mirrors s .feedbackLost s.pose.anyLost
  linkD : Mirrors s .linkD s.link.d.state.isDown
  unconfigured : Mirrors s .unconfigured s.pose.unconfigured
  grip : Mirrors s .grip !s.stop.gripHeld
  consoleStop : Mirrors s .consoleStop s.stop.consoleStop
  syncLost : Mirrors s .syncLost (s.stop.syncTimer == .expired)
  zone : s.stop.present[Cause.zone.code] = true → ∃ z : Fin 24, s.env.evaluation.zones[z] = .intrude
  rampTimeout : Mirrors s .rampTimeout false
  follow : Mirrors s .follow false
  slip : Mirrors s .slip false
  mgmtRamp : Mirrors s .mgmtRamp false

/-- The ramp timer runs exactly in RAMP, the standstill set is empty elsewhere, the gesture detector stands at its reset
values outside HELD, and substitution is under way exactly while the sync timer stands expired (R108 to R110, R115). -/
structure TimersAgree (s : State) : Prop where
  ramp : s.stop.rampTimer.isRunning = (s.stop.state == .ramp)
  standstill : s.stop.state ≠ .ramp → s.stop.standstill = FlagSet.empty 7
  detector : s.stop.state ≠ .held → s.stop.detector = Detector.initial
  substitution : s.stop.substituteTimer.isRunning = (s.stop.syncTimer == .expired)

/-- The lamp condition is the highest-precedence one that is true, and the lamps show the pair of patterns that the lamp
map gives for it (R120, R121). -/
def LampsAgree (s : State) : Prop :=
  s.stop.lampCondition = s.lampCondition ∧ s.stop.amber.pattern = s.stop.lampMap[s.stop.lampCondition.index].amber
    ∧ s.stop.red.pattern = s.stop.lampMap[s.stop.lampCondition.index].red

/-! ## Invariants of the gate, the pose and the scale -/

/-- The effective scale is the minimum of the three components (R75). -/
def ScaleAgrees (s : State) : Prop := s.env.scale.effective = s.env.scale.minimum

/-- Every valid axis record has its soft minimum below its soft maximum, and every valid last-forwarded value lies
within the soft limits of its axis (R41, R83, R90). -/
def LimitsHeld (s : State) : Prop :=
  ∀ k : Fin 10,
    (s.pose.axes[k].valid = true → s.pose.axes[k].softMin < s.pose.axes[k].softMax)
      ∧ ∀ v : Int, s.gate.last[k] = some v → s.pose.axes[k].softMin ≤ v ∧ v ≤ s.pose.axes[k].softMax

/-- In CUT every last-forwarded entry is invalid (R82, R86). -/
def CutForgets (s : State) : Prop := s.stop.state = .cut → ∀ k : Fin 10, s.gate.last[k] = none

/-- Every pose entry has an age of 15 or below, and age 15 while it is not present (R46, R48). -/
def AgesBounded (s : State) : Prop :=
  ∀ k : Fin 10, s.pose.entries[k].age ≤ 15 ∧ (s.pose.entries[k].present = false → s.pose.entries[k].age = 15)

/-- A lens axis is stale exactly while its axis record is valid, its pose entry is present, and its age is above the age
limit (R50). -/
def StaleAgrees (s : State) : Prop :=
  ∀ i : Fin 3,
    let r := s.pose.axes[lensAxis i]
    let e := s.pose.entries[lensAxis i]
    s.lens.stale[i] = true ↔ r.valid = true ∧ e.present = true ∧ r.ageLimit < e.age

/-! ## Invariants of the queues, the ports and the cue slots -/

/-- The transmit queues hold no more than 16 frames, the request queue no more than 4 requests, and the reply queue,
with the reply of an ERASE that is under way, no more than 4 replies (R14, R16, R184). -/
def QueuesBounded (s : State) : Prop :=
  s.spine.forward.length ≤ 16 ∧ s.spine.queueD.length ≤ 16 ∧ s.mgmt.requests.length ≤ 4
    ∧ s.mgmt.replies.length + (if s.mgmt.erasing.isSome then 1 else 0) ≤ 4

/-- A port record keeps to its state: no window and no lock-held outside UP and DEGRADED, a window of fewer than 1,024
frames, a good run below 8, the link-up timer running exactly in ACQUIRING, the hold timer and hold passed in DEGRADED
alone and never together (R25 to R30). -/
structure PortRecord.Agrees (r : PortRecord) : Prop where
  window : r.state.isUp = false → r.windowFrames = 0 ∧ r.windowErrors = 0
  frames : r.windowFrames < 1024
  goodRun : r.goodRun < 8
  lockHeld : r.lockHeld = true → r.state.isUp = true
  linkUp : r.linkUpTimer.isRunning = (r.state == .acquiring)
  hold : r.holdTimer.isRunning = true → r.state = .degraded ∧ r.holdPassed = false
  passed : r.holdPassed = true → r.state = .degraded

/-- Both port records keep to their states, and U is never in TEST (R24). -/
structure PortsAgree (s : State) : Prop where
  u : s.link.u.Agrees
  d : s.link.d.Agrees
  notTest : s.link.u.state ≠ .test

/-- A slot is disabled with no action and progress 0, or has a pattern of 1 to 8 bytes, an action, and a progress below
the length (R177, R179). -/
def CueSlot.Agrees (c : CueSlot) : Prop :=
  if c.pattern = [] then c.action = none ∧ c.progress = 0
  else c.pattern.length ≤ 8 ∧ c.action.isSome = true ∧ c.progress < c.pattern.length

/-- Every cue slot keeps to its form. -/
def SlotsAgree (s : State) : Prop := ∀ n : Fin 8, s.cues[n].Agrees

/-! ## Invariants of the take store, the recorder and the player -/

/-- The page memory is in its canonical form. -/
def MemoryCanonical (s : State) : Prop := Memory.wf s.store.words = true

/-- Every page index stands exactly once, in the free page list or in one page chain (R143, R145). -/
def PagesConserved (s : State) : Prop :=
  (s.store.free ++ s.store.takes.toList.flatMap (·.chain)).Perm (List.range 3072)

/-- The takes agree with those who use them: an EMPTY take has an empty chain and is not locked; the take that the recorder
holds is EMPTY while it is ARMED and RECORDING while it is RECORDING; the take that the player references is CLOSED; the
take of an ERASE under way is ERASING; an IDLE recorder holds none, and an IDLE player references none and masks no axis
(R144, R145, R147, R148, R153, R161). -/
structure TakesAgree (s : State) : Prop where
  bare :
    ∀ t : Fin 32, s.store.takes[t].state = .empty → s.store.takes[t].chain = [] ∧ s.store.takes[t].locked = false
  idle : s.recorder.state = .idle ↔ s.recorder.take = none
  armed : ∀ t : Fin 32, s.recorder.state = .armed → s.recorder.take = some t → s.store.takes[t].state = .empty
  recording :
    ∀ t : Fin 32, s.recorder.state = .recording → s.recorder.take = some t → s.store.takes[t].state = .recording
  playing : ∀ t : Fin 32, s.player.take = some t → s.store.takes[t].state = .closed
  erasing : ∀ e : Erasure, s.mgmt.erasing = some e → s.store.takes[e.take].state = .erasing
  playerIdle : s.player.state = .idle ↔ s.player.take = none
  unmasked : s.player.state = .idle → s.player.mask = FlagSet.empty 10

/-- Outside IDLE the recorder's mask is not empty. A take that is RECORDING, LOADING or CLOSED has a nonempty mask and a
chain of samples over samples per page pages, rounded up; the chain of a LOADING take that is open holds full pages only
(R144, R146, R150, R153, R158). -/
structure ChainsAgree (s : State) : Prop where
  armed : s.recorder.state ≠ .idle → FlagSet.isEmpty s.recorder.mask = false
  masked :
    ∀ t : Fin 32, s.store.takes[t].state ∈ [TakeState.recording, .loading, .closed] →
      FlagSet.isEmpty s.store.takes[t].mask = false
  pages :
    ∀ t : Fin 32, s.store.takes[t].state ∈ [TakeState.recording, .loading, .closed] →
      s.store.takes[t].chain.length =
        (s.store.takes[t].samples + s.store.takes[t].perPage - 1) / s.store.takes[t].perPage
  full :
    ∀ t : Fin 32, s.store.takes[t].state = .loading → s.store.takes[t].isOpen = true →
      s.store.takes[t].samples = s.store.takes[t].chain.length * s.store.takes[t].perPage

/-- Every history ring holds at most 8 entries, each cycle number at most once (R173). -/
def RingsBounded (s : State) : Prop :=
  ∀ k : Fin 10, s.player.rings[k].length ≤ 8 ∧ (s.player.rings[k].map (·.cycle)).Nodup

end Sys2Proof.Machine
end

