-- ==== Sys2Proof/Certificates/Slice0/Obligations.lean ====
section
/-! DEFINITION. The statements for the provers, from the numbered rules of the manual. -/

open Sys2Proof Sys2Proof.Machine

/-! ## Steps -/

/-- A step with a command waiting is that command's execution on the state with the rest of the queue. The queue is
the model's own (assumption log 1). -/
def Obligations.StepRunsTheFrontCommand : Prop :=
  ∀ (s : State) (i : Instr) (rest : List Instr), s.pending = i :: rest → step s = exec i (s.withPending rest)

/-- A step on an empty queue is one millisecond of the part's own clock: the timebase reads one more, the expiries
then due wait in the queue, and nothing else changes. Due is the expiry of each timer that runs and whose duration has
passed, and the expiries wait in the order of the list: ramp timer, sync timer, substitute timer, discrepancy windows,
link-up timers, degrade hold timers, lamps. All of it is the model's choice (assumption log 1); the order in which the
blocks take a substitute arrival is some order (log 3). -/
def Obligations.StepOnAnEmptyQueue : Prop :=
  (∀ s : State, s.pending = [] →
    step s =
      .next
        { s with timebase := s.timebase + 1, pending := dueCommands { s with timebase := s.timebase + 1 } })
    ∧ ∀ s : State, ∃ order : List CycBlock,
      let timers : List (Timer × Instr) :=
        [(s.stop.rampTimer, .rampTimeout), (s.stop.syncTimer, .syncTimerExpiry order),
          (s.stop.substituteTimer, .substituteTimerExpiry order),
          (s.stop.lines[0].window, .discrepancyWindowExpiry 0), (s.stop.lines[1].window, .discrepancyWindowExpiry 1),
          (s.stop.lines[2].window, .discrepancyWindowExpiry 2), (s.stop.lines[3].window, .discrepancyWindowExpiry 3),
          (s.link.u.linkUpTimer, .linkUpTimerExpiry .u), (s.link.d.linkUpTimer, .linkUpTimerExpiry .d),
          (s.link.u.holdTimer, .degradeHoldTimerExpiry .u), (s.link.d.holdTimer, .degradeHoldTimerExpiry .d),
          (s.stop.amber.phase, .lampPatternPeriod .amber), (s.stop.red.phase, .lampPatternPeriod .red)]
      (dueCommands s).Sublist (timers.map (·.2))
        ∧ ∀ x ∈ timers, x.2 ∈ dueCommands s ↔
          ∃ start duration : Nat, x.1 = .running start duration ∧ start + duration ≤ s.timebase

/-- The frame of every command: it leaves the waiting commands and every record outside its list as they stand
(section 3 of the manual, each record having one owner). The player's and the recorder's requests and the lamps'
periods change only the lamps in the stop record, so they leave the stop state, the drive enable output and both cause
sets (R105, R120); where a notice that such a request raises wakes a PARKED part, they leave the cause sets and the
part is in HELD (R114). RUN is entered from HELD alone, with the present set and the trip set empty and drive enable
high: no other command, and no other change of stop state, ends in RUN (the table of section 6.3, R112). -/
def Obligations.CommandsChangeTheirRecordsOnly : Prop :=
  ∀ (i : Instr) (s t : State), exec i s = .next t →
    (t.pending = s.pending ∧ ∀ b : Block, b ∉ mayChange i → b.same s t)
      ∧ (∀ lamp : LampName, i = .lampPatternPeriod lamp → LampsOnly s t)
      ∧ (i ∈ [.cue, .resume, .release, .armRecord, .stopRecord] →
        LampsOnly s t
          ∨ s.stop.state = .parked ∧ (∃ k : Fin 17, s.notices.config.wake[k] = true)
            ∧ t.stop.state = .held ∧ t.stop.driveEnable = true ∧ t.stop.present = s.stop.present
            ∧ t.stop.trip = s.stop.trip)
      ∧ (t.stop.state = .run →
        s.stop.state = .run
          ∨ s.stop.state = .held ∧ t.stop.present = FlagSet.empty 21 ∧ t.stop.trip = FlagSet.empty 21
            ∧ t.stop.driveEnable = true)

/-! ## Frames as bytes -/

/-- Frames and their bytes (R1, R2, R3, R20): a frame of a kind that arrives on a port, of a length that agrees with
its kind, is judged good there when its bytes arrive as a transmitter sends them, and reads back as it was; and a
frame that a port judges good is the frame whose bytes arrived, of such a kind and length. -/
def Obligations.FramesAndBytesAgree : Prop :=
  ∀ p : Port,
    (∀ f : Frame, f.kind.arrivesOn p = true → f.kind.lengthAgrees f.payload.length = true →
        receive p f.wire = .judged (.good f))
      ∧ ∀ (bytes : List Byte) (f : Frame), receive p bytes = .judged (.good f) →
        bytes.take (f.payload.length + 6) = f.wire ∧ f.kind.arrivesOn p = true
          ∧ f.kind.lengthAgrees f.payload.length = true

/-- The receive decoders (R1, R18, R38): bytes that complete no frame wait, and the bytes that follow act with them as
one frame; in TEST the decoder of D takes no frame. That a BAD_FRAME command, like every frame command, acts by what
its bytes are, so that bytes which complete no frame wait, is the model's choice (assumption log 4). -/
def Obligations.FrameBytesAreCollected : Prop :=
  (∀ (s : State) (bytes : List Byte) (now : Nat) (order : List CycBlock),
      let clear : State := { s with spine := { s.spine with receivingU := [] } }
      let whole := s.spine.receivingU ++ bytes
      exec (.cycReceived now order bytes) s = exec (.cycReceived now order whole) clear
        ∧ exec (.setReceived bytes) s = exec (.setReceived whole) clear
        ∧ exec (.mgtReceived bytes) s = exec (.mgtReceived whole) clear
        ∧ (∀ cut : Bool, exec (.badFrame .u bytes cut) s = exec (.badFrame .u whole cut) clear)
        ∧ (receive .u whole = .incomplete →
          exec (.badFrame .u bytes false) s = .next { s with spine := { s.spine with receivingU := whole } }))
    ∧ ∀ (s : State) (bytes : List Byte) (order : FbkOrder) (cut : Bool),
      let clear : State := { s with spine := { s.spine with receivingD := [] } }
      let whole := s.spine.receivingD ++ bytes
      (s.link.d.state ≠ .test →
          exec (.fbkReceived order bytes) s = exec (.fbkReceived order whole) clear
            ∧ exec (.rpyReceived bytes) s = exec (.rpyReceived whole) clear
            ∧ exec (.badFrame .d bytes cut) s = exec (.badFrame .d whole cut) clear
            ∧ (receive .d whole = .incomplete →
              exec (.badFrame .d bytes false) s = .next { s with spine := { s.spine with receivingD := whole } }))
        ∧ (s.link.d.state = .test →
          exec (.fbkReceived order bytes) s = .next s ∧ exec (.rpyReceived bytes) s = .next s
            ∧ exec (.badFrame .d bytes cut) s = .next s)

/-- The payload of a CYC and that of a SET, as the part composes them, read back as their fields (R19, R21). A record
laid out as a READ returns it reads back, as the body of a WRITE, as the same record, for every record within its
ranges (R23, and the rule of each record). A cue slot, whose WRITE lists other fields than its READ, reads back from
the length, pattern, action and arguments that R178 lists, with progress 0, and length 0 reads as the disabled slot.
Presence bytes and widths where R23 leaves room are the model's reading (assumption log 7), and the code of the
express source NONE and the WRITE of a cue slot without presence bytes its choices (assumption logs 8 and 19). -/
def Obligations.RecordsReadBack : Prop :=
  ((∀ x : CycFields, x.cues.length ≤ 4 → cycFields (cycPayload x) = x)
      ∧ ∀ (k : Axis) (cycle : CycleNo) (v : Int), -2147483648 ≤ v → v ≤ 2147483647 →
        setFields (setFrame k cycle v).payload = ⟨cycle, basisCounts, v⟩
          ∧ axisOf (setFrame k cycle v).address = some k
          ∧ (setFrame k cycle v).kind.lengthAgrees (setFrame k cycle v).payload.length = true)
    ∧ ((∀ (k : Axis) (r : AxisRecord), axisInRange k r = true → r.fits k →
        readAxisRecord k (axisRecordBytes k r) = some r)
      ∧ (∀ g : Geometry, geometryInRange g = true → readGeometry (geometryBytes g) = some g)
      ∧ (∀ z : Zone, z.box.lo.isI32 → z.box.hi.isI32 → z.band ≤ 5000 → z.factor ≤ 16 →
          (z.presence.isSome = true ↔ z.kind = .crew) → ∃ b, readZone (zoneBytes z) = some b ∧ b.stored = z)
      ∧ (∀ c : StopConfig, stopConfigInRange c = true → readStopConfig (stopConfigBytes c) = some c)
      ∧ (∀ g : Gesture, gestureInRange g = true → readGesture (gestureBytes g) = some g)
      ∧ (∀ m : Vector PatternPair 9, readLampMap (lampMapBytes m) = some m)
      ∧ (∀ p : Subject, p.point.isI32 → p.trimLimit ≤ 10000 → readSubject (subjectBytes p) = some p)
      ∧ (∀ c : NoticeConfig, 1 ≤ c.order → c.order ≤ 6 → readNoticeConfig (noticeConfigBytes c) = some c)
      ∧ (∀ (pattern : List Byte) (a : CueAction), 1 ≤ pattern.length → pattern.length ≤ 8 →
          (∀ (t : Fin 32) (m : FlagSet 10), a = .recStart t m → ∃ k : Fin 10, m[k] = true) →
          readCueSlot (u8 pattern.length :: pattern ++ a.code :: a.arguments) = some ⟨pattern, some a, 0⟩)
      ∧ (∀ rest : List Byte, readCueSlot (0x00#8 :: rest) = some ⟨[], none, 0⟩)
      ∧ ∀ t : Thresholds,
        t.erroredU ≤ 65535 → t.unknownU ≤ 65535 → t.dropsU ≤ 65535 → t.erroredD ≤ 65535 → t.unknownD ≤ 65535 →
        t.dropsD ≤ 65535 → t.sequence ≤ 65535 → readThresholds (thresholdsBytes t) = some t)

/-! ## Frames that arrive -/

/-- A good CYC received on U (R6, R48, R101, R115, R117): the cycle record takes the number, the timecode, the arrival
time and the measured interval, and counts a step other than 1; every present pose entry ages by one; the sync timer
restarts and substitution ends; GRIP and CONSOLE_STOP follow the frame and SYNC_LOST is absent. The envelope, the axis
and geometry records, the inputs and the configuration stand. It is counted at the U port, then as a sequence error
(R3, R25 to R28, R35); then each of the five blocks takes it once, in the order that the command carries; that order,
and the timebase moving to the reading carried, are the model's choice (logs 3 and 13). The Take Recorder (R155, R157,
R158): the first arrival after arming starts the recording at its cycle and timecode, with sample count 0; while
RECORDING, a newer cycle closes the open sample and min(d − 1, 3) repeat samples from the buffer and opens the new
cycle, a sample that finds no page ends the recording with STORE_FULL, and any other changes nothing. Unless the part
was PARKED at the arrival, the CYC is offered unchanged to the D queue (R8), before the blocks take it (log 9). The
Stop Supervisor, for either origin (R101, R115, R117, R119): a CYC from U restarts the sync timer, and in RUN with a
step of 0 or of 5 and above makes SLIP occur, which takes the part to RAMP; in HELD the gesture detector takes one
step, and the re-arm check follows a completed gesture. The Pose Unit (R48 to R50): the present entries age,
FEEDBACK_LOST is present exactly while the record of a motion axis is valid and its entry absent or above the age
limit, and a lens axis is stale exactly while its record is valid, its entry present and its age above the age limit;
one that becomes stale raises notice 12 with the axis and the reason STALE, in ascending axis order, its bytes the
model's reading (log 7). The Cue Matcher takes the cue bytes of a CYC from U, and nothing of a substitute (R8, R179);
the Take Player takes the cycle and the step (R168). Notice 9 of a full store carries take, reason, samples and pages
(R156). -/
def Obligations.CycReceivedActs : Prop :=
  (∀ (s : State) (now : Nat) (order : List CycBlock) (f : Frame), s.spine.receivingU = [] → f.kind = .cyc →
    f.payload.length = 12 →
    let x := cycFields f.payload
    let reading := max s.timebase now
    let step : Option Nat := s.cycle.last.map fun l => (x.cycle - l).toNat
    let missed : Prop := ∃ g : Nat, step = some g ∧ g ≠ 1
    let record : CycleRecord :=
      { last := some x.cycle
        timecode := x.timecode
        arrival := some reading
        interval :=
          match s.cycle.arrival with
          | some a => max 2 (min 1000 (reading - a))
          | none => s.cycle.interval
        sequenceErrors :=
          match s.cycle.last with
          | some l =>
            if (x.cycle - l).toNat = 1 then s.cycle.sequenceErrors else satInc 65535 s.cycle.sequenceErrors
          | none => s.cycle.sequenceErrors }
    let good : State := linkGood .u { s with timebase := reading }
    Nexts (exec (.cycReceived now order f.wire) s) fun t =>
      t.cycle = record
        ∧ t.timebase = reading
        ∧ t.stop.gripHeld = x.grip ∧ Mirrors t .grip (!x.grip)
        ∧ t.stop.consoleStop = x.consoleStop ∧ Mirrors t .consoleStop x.consoleStop
        ∧ t.stop.syncTimer = .running reading s.stop.config.syncTimeout ∧ Mirrors t .syncLost false
        ∧ t.stop.substituteTimer = .stopped
        ∧ (∀ k : Fin 10,
          t.pose.entries[k] =
            { s.pose.entries[k] with
              age :=
                if s.pose.entries[k].present then min 15 (s.pose.entries[k].age + 1) else s.pose.entries[k].age })
        ∧ t.pose.axes = s.pose.axes ∧ t.pose.geometry = s.pose.geometry ∧ t.env = s.env ∧ t.pins = s.pins
        ∧ t.stop.config = s.stop.config ∧ t.stop.gesture = s.stop.gesture ∧ t.stop.lampMap = s.stop.lampMap
        ∧ ∃ (blocks : List CycBlock) (counted s0 : State),
          blocks.Perm cycBlocks ∧ (order.Perm cycBlocks → blocks = order)
            ∧ t = blocks.foldl (cycTaken ⟨true, x, step⟩) s0
            ∧ (missed → counted = bumpCounter .u .sequence good) ∧ (¬missed → counted = good)
            ∧ (s.stop.state = .parked → s0 = { counted with cycle := record })
            ∧ (s.stop.state ≠ .parked → s0 = offerQueueD f { counted with cycle := record })
            ∧ s0.recorder = s.recorder ∧ s0.store = s.store ∧ s0.player = s.player ∧ s0.cues = s.cues
            ∧ s0.pose = s.pose ∧ s0.gate = s.gate ∧ s0.lens = s.lens
            ∧ (s.stop.state = .parked → s0.spine.queueD = s.spine.queueD)
            ∧ (s.stop.state ≠ .parked → s0.stop = s.stop ∧ OfferedToD f s s0))
    ∧ (∀ (a : Arrival) (s : State),
      let t := cycTaken a s .stopSupervisor
      let s1 : State :=
        { s with
          stop :=
            { s.stop with
              syncTimer := .running s.timebase s.stop.config.syncTimeout, substituteTimer := .stopped } }
      let slip : Prop := a.fromU = true ∧ s.stop.state = .run ∧ ∃ g : Nat, a.step = some g ∧ (g = 0 ∨ 5 ≤ g)
      ∃ u v w : State,
        (a.fromU = true → u = causeLeaves .syncLost s1) ∧ (a.fromU = false → u = s)
          ∧ (slip → v = rampEvent .slip u) ∧ (¬slip → v = u)
          ∧ w =
            handOver .consoleStop a.fields.consoleStop
              (handOver .grip (!a.fields.grip)
                { v with
                  stop := { v.stop with gripHeld := a.fields.grip, consoleStop := a.fields.consoleStop } })
          ∧ (w.stop.state ≠ .held → t = w)
          ∧ (w.stop.state = .held →
            let d := Detector.step w.stop.gesture a.fields.grip w.stop.detector
            let completed : Prop := d.state = .confirm ∧ w.stop.gesture.confirm ≤ d.count
            (completed → t = rearmCheck { w with stop := { w.stop with detector := ⟨.waitRelease, 0⟩ } })
              ∧ (¬completed → t = { w with stop := { w.stop with detector := d } }))
          ∧ (slip → t.stop.state = .ramp ∧ t.stop.trip[Cause.slip.code] = true))
    ∧ (∀ (a : Arrival) (s : State),
      let t := cycTaken a s .poseUnit
      let age (k : Axis) : Nat :=
        if s.pose.entries[k].present then min 15 (s.pose.entries[k].age + 1) else s.pose.entries[k].age
      let beyond (k : Axis) : Bool := decide (s.pose.axes[k].ageLimit < age k)
      let lost (k : Axis) : Bool := s.pose.axes[k].valid && (!s.pose.entries[k].present || beyond k)
      let stale (i : Fin 3) : Bool :=
        s.pose.axes[lensAxis i].valid && s.pose.entries[lensAxis i].present && beyond (lensAxis i)
      (∀ k : Fin 10, t.pose.entries[k] = { s.pose.entries[k] with age := age k })
        ∧ t.pose = { s.pose with entries := t.pose.entries }
        ∧ (t.stop.present[Cause.feedbackLost.code] = true ↔ ∃ k : Axis, k.val ≤ 6 ∧ lost k = true)
        ∧ (∀ i : Fin 3, t.lens.stale[i] = stale i) ∧ t.lens = { s.lens with stale := t.lens.stale }
        ∧ Occurrences 12
          (((List.finRange 3).filter fun i => stale i && !s.lens.stale[i]).map fun i => [u8 (i.val + 7), 0x01#8]) s t
        ∧ t.env = s.env ∧ t.cues = s.cues ∧ t.cycle = s.cycle)
    ∧ (∀ (a : Arrival) (s : State),
      let t := cycTaken a s .takeRecorder
      (s.recorder.state = .idle → t = s)
        ∧ ∀ k : Fin 32, s.recorder.take = some k →
          (s.recorder.state = .armed →
              t.recorder =
                  { s.recorder with state := .recording, openCycle := some a.fields.cycle, repeats := 0 }
                ∧ t.store =
                  { s.store with
                    takes :=
                      s.store.takes.set k.val
                        { s.store.takes[k] with
                          state := .recording, mask := s.recorder.mask, samples := 0, start := a.fields.timecode
                          prints := s.recorder.prints } }
                ∧ t.gate = s.gate ∧ t.player = s.player ∧ t.pose = s.pose ∧ t.stop.state = s.stop.state)
            ∧ ∀ c : CycleNo, s.recorder.state = .recording → s.recorder.openCycle = some c →
              let d := (a.fields.cycle - c).toNat
              let n := 1 + min (d - 1) 3
              let written (m : Nat) : Option Store :=
                (List.range m).foldlM (fun st _ => st.writeSample k s.recorder.sample) s.store
              (d = 0 ∨ 32768 ≤ d → t = s)
                ∧ (1 ≤ d → d ≤ 32767 → s.recorder.repeats ≤ 65535 →
                  (∀ st : Store, written n = some st →
                      t = { s with
                            store := st
                            recorder :=
                              { s.recorder with
                                openCycle := some a.fields.cycle
                                repeats := min 65535 (s.recorder.repeats + (n - 1)) } })
                    ∧ ∀ (m : Nat) (st : Store), m < n → written m = some st →
                      st.writeSample k s.recorder.sample = none →
                      t.recorder = Recorder.initial
                        ∧ t.store =
                          { st with
                            takes :=
                              st.takes.set k.val
                                { st.takes[k] with state := .closed, endReason := some .storeFull } }
                        ∧ Occurrences 9
                          [[u8 k.val, 0x02#8] ++ natBE 3 st.takes[k].samples ++ natBE 2 st.takes[k].chain.length] s t
                        ∧ t.gate = s.gate ∧ t.player = s.player ∧ t.pose = s.pose))
    ∧ ∀ (a : Arrival) (s : State),
      (a.fromU = true → cycTaken a s .cueMatcher = cueArrival a.fields.cues s)
        ∧ (a.fromU = false → cycTaken a s .cueMatcher = s)
        ∧ cycTaken a s .takePlayer = playerArrival a.fields.cycle a.step s

/-- Where a good SET received on U goes (R9, R85, R132, R141): an axis in COUNTS to the gate as a CONSOLE setpoint; a
lens axis in USER to the focus trim while follow is on, to the gate through its curve where that is valid, and to the
gate as refused where it is not; every other SET to the gate as refused. A setpoint that reaches the gate as refused
is dropped and counted: the refusal count rises by one, to 65,535 at most, and nothing else changes, no entry of the
gate among it. A value in USER beyond an end of the curve sets the end-reached flag of the axis, and no other does
(R130). -/
def Obligations.SetReceivedIsRouted : Prop :=
  (∀ s : State,
      gateRefusal s =
        { s with
          gate :=
            { s.gate with refusals := if s.gate.refusals < 65535 then s.gate.refusals + 1 else 65535 } })
    ∧ ∀ (s : State) (f : Frame), s.spine.receivingU = [] → f.kind = .set → f.payload.length = 7 →
    let x := setFields f.payload
    let s1 := linkGood .u s
    (10 ≤ f.address.toNat → exec (.setReceived f.wire) s = .next (gateRefusal s1))
      ∧ (x.basis ≠ 0x00#8 → x.basis ≠ 0x01#8 → exec (.setReceived f.wire) s = .next (gateRefusal s1))
      ∧ ∀ k : Axis, f.address = u8 k.val →
        (x.basis = 0x00#8 → exec (.setReceived f.wire) s = .next (submit .console k x.setpoint x.cycle s1))
          ∧ (x.basis = 0x01#8 → k.val ≤ 6 → exec (.setReceived f.wire) s = .next (gateRefusal s1))
          ∧ ∀ i : Fin 3, k = lensAxis i → x.basis = 0x01#8 →
            (i.val = 0 → s.lens.follow.on = true →
                exec (.setReceived f.wire) s =
                  .next
                    { s1 with
                      lens :=
                        { s1.lens with
                          follow :=
                            { s1.lens.follow with
                              trim := clampInt (-(s.lens.follow.trimLimit : Int)) s.lens.follow.trimLimit x.setpoint } } })
              ∧ (i.val ≠ 0 ∨ s.lens.follow.on = false → s.lens.curves[i].valid = false →
                exec (.setReceived f.wire) s = .next (gateRefusal s1))
              ∧ (i.val ≠ 0 ∨ s.lens.follow.on = false → s.lens.curves[i].valid = true →
                let curve := s.lens.curves[i]
                let beyond : Prop :=
                  x.setpoint < (curve.at 0).user ∨ ((curve.at (curve.points.length - 1)).user : Int) < x.setpoint
                ∃ s2 : State,
                  s2 = { s1 with lens := { s1.lens with endReached := s2.lens.endReached } }
                    ∧ (beyond → s2.lens.endReached = s.lens.endReached.set i.val true)
                    ∧ (¬beyond → s2.lens.endReached = s.lens.endReached)
                    ∧ exec (.setReceived f.wire) s =
                      .next (submit .console k (curve.forward x.setpoint) x.cycle s2))

/-- A setpoint submitted to the gate (R83, R86, R88 to R92): the tests in order, then the target clamped to the soft
limits, the last-forwarded value moved toward it by at most one step, the entry set to the result, the clamp counted,
and the SET offered to the D queue: sent at once by an idle transmitter, waiting behind a busy one, dropped and
counted where the queue is full, discarded in TEST. No other count of the gate and no other entry changes. A recorder
takes the SET (R154, R157): ARMED, its value replaces the value of a masked axis; RECORDING, one of an older cycle is
ignored, one of a newer cycle first closes samples, and a sample that finds no page ends the recording. A PLAYER
setpoint of a masked axis enters the history ring, in place of the entry of its cycle or as the newest of at most 8
(R173). A gating that clamps or shortens a PLAYER setpoint, or a CUEING one in READY, sets the clamped flag where it
was clear and raises notice 8 with the axis, the source and the cycle (R175). The stop record changes in its lamps
alone. That the SET is handed on before the clamp is reported is the model's choice (assumption log 9). -/
def Obligations.SetpointsAreGated : Prop :=
  ∀ (src : Source) (k : Axis) (asked : Int) (cycle : CycleNo) (s : State),
    let r := s.pose.axes[k]
    let tests123 : Prop :=
      r.valid = false ∨ (k.val ≤ 6 ∧ s.stop.state ≠ .run)
        ∨ (7 ≤ k.val ∧ (s.stop.state = .cut ∨ s.stop.state = .parked))
        ∨ ∃ i : Fin 3, k = lensAxis i ∧ s.lens.fault[i] = true
    let tests45 : Prop := src = .console ∧ (s.player.mask[k] = true ∨ (k.val = 7 ∧ s.lens.follow.on = true))
    let test6 : Prop := s.gate.last[k] = none ∧ s.pose.entries[k].present = false
    let t := submit src k asked cycle s
    (tests123 ∨ (¬tests45 ∧ test6) →
        t = { s with
              gate :=
                { s.gate with withheld := s.gate.withheld.set k.val (satInc 65535 s.gate.withheld[k]) } })
      ∧ (¬tests123 → tests45 →
        t = { s with
              gate :=
                { s.gate with overridden := s.gate.overridden.set k.val (satInc 65535 s.gate.overridden[k]) } })
      ∧ (¬tests123 → ¬tests45 → ¬test6 →
        let last := (s.gate.last[k]).getD (clampInt r.softMin r.softMax s.pose.entries[k].position)
        let target := clampInt r.softMin r.softMax asked
        let scale := if src = .cueing then min s.env.scale.effective r.cueScale else s.env.scale.effective
        let step : Nat := if k.val ≤ 6 then max 1 (r.stepMax * scale / 16) else r.stepMax
        let value : Int :=
          if (step : Int) < target - last then last + step
          else if target - last < -(step : Int) then last - step
          else target
        let shortened : Prop := target ≠ asked ∨ (step : Int) < target - last ∨ target - last < -(step : Int)
        t.gate.last = s.gate.last.set k.val (some value)
          ∧ (shortened → t.gate.clamps = s.gate.clamps.set k.val (satInc 65535 s.gate.clamps[k]))
          ∧ (¬shortened → t.gate.clamps = s.gate.clamps)
          ∧ t.gate.withheld = s.gate.withheld ∧ t.gate.overridden = s.gate.overridden
          ∧ t.gate.refusals = s.gate.refusals
          ∧ OfferedToD (setFrame k cycle value) s t
          ∧ (let buffered : Recorder :=
              { s.recorder with
                buffer := if s.recorder.mask[k] then s.recorder.buffer.set k.val value else s.recorder.buffer }
            (s.recorder.state = .idle → t.recorder = s.recorder ∧ t.store = s.store)
              ∧ (s.recorder.state = .armed → t.recorder = buffered ∧ t.store = s.store)
              ∧ ∀ (q : Fin 32) (c : CycleNo), s.recorder.state = .recording → s.recorder.take = some q →
                s.recorder.openCycle = some c →
                let d := (cycle - c).toNat
                let n := 1 + min (d - 1) 3
                let written (m : Nat) : Option Store :=
                  (List.range m).foldlM (fun st _ => st.writeSample q s.recorder.sample) s.store
                (32768 ≤ d → t.recorder = s.recorder ∧ t.store = s.store)
                  ∧ (d = 0 → t.recorder = buffered ∧ t.store = s.store)
                  ∧ (1 ≤ d → d ≤ 32767 → s.recorder.repeats ≤ 65535 →
                    (∀ st : Store, written n = some st →
                        t.store = st
                          ∧ t.recorder =
                            { buffered with
                              openCycle := some cycle, repeats := min 65535 (s.recorder.repeats + (n - 1)) })
                      ∧ ∀ (m : Nat) (st : Store), m < n → written m = some st →
                        st.writeSample q s.recorder.sample = none →
                        t.recorder = Recorder.initial
                          ∧ t.store =
                            { st with
                              takes :=
                                st.takes.set q.val
                                  { st.takes[q] with state := .closed, endReason := some .storeFull } }
                          ∧ Occurrences 9
                            [[u8 q.val, 0x02#8] ++ natBE 3 st.takes[q].samples ++ natBE 2 st.takes[q].chain.length] s
                            t))
          ∧ (let ring := s.player.rings[k]
            (src ≠ .player ∨ s.player.mask[k] = false → t.player.rings = s.player.rings)
              ∧ (src = .player → s.player.mask[k] = true →
                ((∃ e ∈ ring, e.cycle = cycle) →
                    t.player.rings =
                      s.player.rings.set k.val (ring.map fun e => if e.cycle = cycle then ⟨cycle, value⟩ else e))
                  ∧ ((∀ e ∈ ring, e.cycle ≠ cycle) →
                    (ring.length < 8 → t.player.rings = s.player.rings.set k.val (ring ++ [⟨cycle, value⟩]))
                      ∧ (8 ≤ ring.length →
                        t.player.rings = s.player.rings.set k.val (ring.drop 1 ++ [⟨cycle, value⟩])))))
          ∧ (let reported : Prop :=
              shortened ∧ s.player.clamped = false
                ∧ (src = .player ∨ (src = .cueing ∧ s.player.state = .ready))
            (¬reported → t.player = { s.player with rings := t.player.rings })
              ∧ (reported →
                t.player = { s.player with rings := t.player.rings, clamped := true }
                  ∧ ∃ u : State, u.player = t.player ∧ u.gate = t.gate ∧ u.recorder = t.recorder ∧ u.store = t.store
                    ∧ t = Machine.raise 8 ([u8 k.val, src.code] ++ natBE 2 cycle.toNat) u))
          ∧ t.pose = s.pose ∧ t.env = s.env ∧ t.lens = s.lens ∧ t.cues = s.cues ∧ t.pins = s.pins ∧ LampsOnly s t)

/-- A good FBK of an axis received on D outside TEST (R10, R11, R47, R49, R102): the entry of the axis takes the frame
and age 0, every other entry stands, DRIVE_FAULT and FEEDBACK_LOST are judged from the entries, and the frame is
forwarded after it, with the stop state, the player state, the effective scale and the user value as they then stand.
The cycle record, the cue slots, the inputs and the axis and geometry records stand. Each of the four blocks takes it
once, in the order that the command carries, the Pose Unit before the Stop Supervisor; that order is the model's
choice (assumption log 3). A good FBK whose address names no axis is passed to no block and is forwarded with
user value 0. The Pose Unit's taking for axes 0 to 3 is the row of R52 for the set: opened, captured, abandoned with a
skipped pose, or unchanged; the fourth capture closes the set and completes the pose, with the head position, the
evaluation and the follow submission, its FOLLOW setpoint at the gate included, where the five records are valid, in
the order that the command carries, and without them otherwise (R53, R140); FEEDBACK_LOST is judged after them. The
Lens Unit's sets or clears the fault flag, with notice 12 where it was clear (R133). The Take Player's in CUEING
enters READY when every masked axis is in position (R166), and in PLAYING compares the FBK with the ring entry of its
echo less the follow lag: the peak takes the magnitude, and one beyond the threshold makes FOLLOW occur, with notice 7
(R174). The bytes of those details are the model's reading (assumption log 7). The Pose Unit's taking for a lens axis
leaves it not stale, for its entry has age 0, and raises nothing (R50). The Stop Supervisor's for axes 0 to 6 hands
DRIVE_FAULT over (R102), then judges the axis for standstill by the echo of the FBK (R109), then the lamps (R120), and
for axes 7 to 9 it does nothing. Four orders inside these takings are the model's, not the rules' (assumption log 9).
DRIVE_FAULT handed over before standstill is judged, so that an FBK which reports FAULT and would complete the
standstill set takes RAMP to CUT and not to HELD, is its choice: none of R10, R102 and R109 orders them (DESIGN
CHOICE). ZONE handed over before notice 2 in the evaluation is its choice too (R71, R72; DESIGN CHOICE). FEEDBACK_LOST
judged after the pose set, and after the evaluation and the follow submission of a completed pose, is its reading of
the order in which R47 names them (DEDUCED). FOLLOW before notice 7 is its reading of the order of R174 (DEDUCED). -/
def Obligations.FbkReceivedActs : Prop :=
  (∀ (s : State) (order : FbkOrder) (f : Frame) (k : Axis), s.spine.receivingD = [] → s.inTest = false →
      f.kind = .fbk → f.payload.length = 18 → f.address = u8 k.val →
      let x := fbkFields f.payload
      ∃ s2 : State,
        exec (.fbkReceived order f.wire) s =
            .next
              (offerForward
                { f with
                  payload :=
                    f.payload.take 11 ++ [s2.stop.state.code, s2.player.state.code] ++ natBE 1 s2.env.scale.effective
                      ++ intBE 4 (userValue s2 k x.position) }
                s2)
          ∧ s2.pose.entries =
            s.pose.entries.set k.val
              { present := true, position := x.position, velocity := clampInt (-1048575) 1048575 x.velocity
                status := x.status, echo := x.echo, age := 0 }
          ∧ (k.val ≤ 6 → Mirrors s2 .driveFault s2.pose.driveFault ∧ Mirrors s2 .feedbackLost s2.pose.anyLost)
          ∧ s2.pose.axes = s.pose.axes ∧ s2.pose.geometry = s.pose.geometry ∧ s2.cycle = s.cycle ∧ s2.cues = s.cues
          ∧ s2.pins = s.pins ∧ s2.timebase = s.timebase
          ∧ ∃ blocks : List FbkBlock,
            blocks.Perm fbkBlocks ∧ blocks.idxOf .poseUnit < blocks.idxOf .stopSupervisor
              ∧ (order.blocks.Perm fbkBlocks → order.blocks.idxOf .poseUnit < order.blocks.idxOf .stopSupervisor →
                blocks = order.blocks)
              ∧ s2 = blocks.foldl (fbkTaken order.envelopeFirst k x) (linkGood .d s))
    ∧ (∀ (s : State) (order : FbkOrder) (f : Frame), s.spine.receivingD = [] → s.inTest = false → f.kind = .fbk →
      f.payload.length = 18 → 10 ≤ f.address.toNat →
      let s1 := linkGood .d s
      exec (.fbkReceived order f.wire) s =
        .next
          (offerForward
            { f with
              payload :=
                f.payload.take 11 ++ [s1.stop.state.code, s1.player.state.code] ++ natBE 1 s1.env.scale.effective
                  ++ [0x00#8, 0x00#8, 0x00#8, 0x00#8] }
            s1))
    ∧ (∀ (first : Bool) (k : Fin 4) (x : FbkFields) (s : State),
      let axis : Fin 10 := ⟨k.val, by omega⟩
      let t := fbkTaken first axis x s .poseUnit
      let m : Motion := ⟨x.position, clampInt (-1048575) 1048575 x.velocity⟩
      let opened : PoseSet := ⟨true, some x.echo, (Vector.replicate 4 none).set k.val (some m)⟩
      let captured := s.pose.set.captured.set k.val (some m)
      let unchanged : Prop := t.pose.completed = s.pose.completed ∧ t.lens = s.lens ∧ t.gate.clamps = s.gate.clamps
      let configured : Prop := s.pose.geometry.valid = true ∧ ∀ j : Fin 4, s.pose.axes[j.val].valid = true
      (s.pose.set.cycle = none → t.pose.set = opened ∧ t.env = s.env ∧ unchanged)
        ∧ ∀ c : CycleNo, s.pose.set.cycle = some c →
          let d := (x.echo - c).toNat
          (32768 ≤ d → t.pose.set = s.pose.set ∧ t.env = s.env ∧ unchanged)
            ∧ (1 ≤ d → d ≤ 32767 →
              t.pose.set = opened ∧ unchanged
                ∧ (s.pose.set.isOpen = false → t.env = s.env)
                ∧ (s.pose.set.isOpen = true →
                  t.env =
                    { s.env with
                      evaluation :=
                        { s.env.evaluation with skipped := satInc 65535 s.env.evaluation.skipped } }))
            ∧ (d = 0 → s.pose.set.isOpen = false ∨ s.pose.set.captured[k].isSome = true →
              t.pose.set = s.pose.set ∧ t.env = s.env ∧ unchanged)
            ∧ (d = 0 → s.pose.set.isOpen = true → s.pose.set.captured[k] = none →
              ((∃ j : Fin 4, captured[j] = none) →
                  t.pose.set = ⟨true, some x.echo, captured⟩ ∧ t.env = s.env ∧ unchanged)
                ∧ ∀ motions : Vector Motion 4, (∀ j : Fin 4, captured[j] = some motions[j]) →
                  let p := headPoint s.pose fun j => motions[j].position
                  t.pose.set = ⟨false, some x.echo, captured⟩
                    ∧ (¬configured →
                      t.pose.completed = ⟨true, x.echo, motions, none⟩ ∧ t.env = s.env ∧ t.lens = s.lens)
                    ∧ (configured →
                      t.pose.completed = ⟨true, x.echo, motions, some p⟩
                        ∧ t.env = (evaluate x.echo motions p s).env ∧ t.lens = (followSubmission p x.echo s).lens
                        ∧ (let completed : State :=
                            { s with
                              pose :=
                                { s.pose with
                                  entries :=
                                    s.pose.entries.set axis.val ⟨true, m.position, m.velocity, x.status, x.echo, 0⟩
                                  set := ⟨false, some x.echo, captured⟩
                                  completed := ⟨true, x.echo, motions, some p⟩ } }
                          ∃ u : State,
                            (first = true → u = followSubmission p x.echo (evaluate x.echo motions p completed))
                              ∧ (first = false → u = evaluate x.echo motions p (followSubmission p x.echo completed))
                              ∧ t = handOver .feedbackLost u.pose.anyLost u)
                        ∧ (t.stop.present[Cause.zone.code] = true
                          ↔ ∃ z : Fin 24, t.env.evaluation.zones[z] = .intrude ∧ s.env.zones[z].kind ≠ .soft))))
    ∧ (∀ (first : Bool) (k : Axis) (x : FbkFields) (s : State),
      let t := fbkTaken first k x s .poseUnit
      let entry : PoseEntry := ⟨true, x.position, clampInt (-1048575) 1048575 x.velocity, x.status, x.echo, 0⟩
      t.pose.entries = s.pose.entries.set k.val entry
        ∧ (k.val ≤ 6 → Mirrors t .feedbackLost t.pose.anyLost ∧ t.lens.stale = s.lens.stale)
        ∧ ∀ i : Fin 3, k = lensAxis i →
          t =
            { s with
              pose := { s.pose with entries := s.pose.entries.set k.val entry }
              lens := { s.lens with stale := s.lens.stale.set i.val false } })
    ∧ (∀ (first : Bool) (x : FbkFields) (s : State),
      (∀ k : Axis, 7 ≤ k.val → fbkTaken first k x s .stopSupervisor = s)
        ∧ ∀ k : Fin 7,
          let t := fbkTaken first ⟨k.val, by omega⟩ x s .stopSupervisor
          t = refreshLamps (judgeStandstill k x.echo (handOver .driveFault s.pose.driveFault s))
            ∧ Mirrors t .driveFault s.pose.driveFault)
    ∧ (∀ (first : Bool) (x : FbkFields) (s : State),
      (∀ k : Axis, k.val ≤ 6 → fbkTaken first k x s .lensUnit = s)
        ∧ ∀ i : Fin 3,
          let t := fbkTaken first (lensAxis i) x s .lensUnit
          let flagged (v : Bool) : State := { s with lens := { s.lens with fault := s.lens.fault.set i.val v } }
          (x.status = .fault → s.lens.fault[i] = true → t = s)
            ∧ (x.status = .fault → s.lens.fault[i] = false →
              t = Machine.raise 12 [u8 (i.val + 7), 0x00#8, x.statusCode] (flagged true))
            ∧ (x.status = .ready → t = flagged false)
            ∧ (x.status = .braked ∨ x.status = .disabled → t = s))
    ∧ ∀ (first : Bool) (k : Axis) (x : FbkFields) (s : State),
      let t := fbkTaken first k x s .takePlayer
      (s.player.mask[k] = false ∨ (s.player.state ≠ .cueing ∧ s.player.state ≠ .playing) → t = s)
        ∧ (∀ q : Fin 32, s.player.mask[k] = true → s.player.state = .cueing → s.player.take = some q →
          let reached (j : Axis) : Prop :=
            let r := s.pose.axes[j]
            let target := clampInt r.softMin r.softMax (s.store.sampleValue q j s.player.index)
            let near (position : Int) : Prop := (position - target).natAbs ≤ r.inPosition
            r.valid = true ∧ (j = k → near x.position)
              ∧ (j ≠ k → s.pose.entries[j].present = true ∧ near s.pose.entries[j].position)
          ((∀ j : Axis, s.player.mask[j] = true → reached j) →
              t = enterPlayer .ready s ∧ t.player = { s.player with state := .ready })
            ∧ ((∃ j : Axis, s.player.mask[j] = true ∧ ¬reached j) → t = s))
        ∧ (s.player.mask[k] = true → s.player.state = .playing →
          let sought := x.echo - BitVec.ofNat 16 s.pose.axes[k].followLag
          ((∀ e ∈ s.player.rings[k], e.cycle ≠ sought) → t = s)
            ∧ ((s.player.rings[k].map (·.cycle)).Nodup → ∀ e ∈ s.player.rings[k], e.cycle = sought →
              let d := x.position - e.value
              let s1 : State :=
                { s with
                  player :=
                    { s.player with
                      peaks := s.player.peaks.set k.val (min 16777215 (max s.player.peaks[k] d.natAbs)) } }
              (d.natAbs ≤ s.pose.axes[k].followThreshold → t = s1)
                ∧ (s.pose.axes[k].followThreshold < d.natAbs →
                  t = Machine.raise 7
                        ([u8 k.val] ++ natBE 2 x.echo.toNat ++ intBE 4 (clampInt (-16777215) 16777215 d))
                        (rampEvent .follow s1)
                    ∧ (s.stop.state = .run →
                      t.stop.state = .ramp ∧ t.stop.trip[Cause.follow.code] = true
                        ∧ t.player.state = .suspended))))

/-- A good MGT received on U, and a good RPY received on D outside TEST (R12, R13, R184): a request to the part joins
the request queue or is dropped and counted; drive management is offered to the D queue in HELD, CUT and PARKED and
dropped with notice 15 in RUN and RAMP, by the stop state at its arrival; a drive's reply is offered unchanged to the
forward queue. -/
def Obligations.MgtAndRpyAreRouted : Prop :=
  (∀ (s : State) (f : Frame), s.spine.receivingU = [] → f.kind = .mgt → 2 ≤ f.payload.length →
      f.payload.length ≤ 274 →
      let s1 := linkGood .u s
      let r : Request := ⟨f.payload.getD 0 0, f.payload.getD 1 0, f.payload.drop 2⟩
      (f.address = 62#8 → s1.mgmt.requests.length < 4 →
          exec (.mgtReceived f.wire) s = .next { s1 with mgmt := { s1.mgmt with requests := s1.mgmt.requests ++ [r] } })
        ∧ (f.address = 62#8 → 4 ≤ s1.mgmt.requests.length →
          exec (.mgtReceived f.wire) s =
            .next { s1 with mgmt := { s1.mgmt with drops := satInc 65535 s1.mgmt.drops } })
        ∧ (f.address ≠ 62#8 → s.stop.state = .held ∨ s.stop.state = .cut ∨ s.stop.state = .parked →
          exec (.mgtReceived f.wire) s = .next (offerQueueD f s1))
        ∧ (f.address ≠ 62#8 → s.stop.state = .run ∨ s.stop.state = .ramp →
          exec (.mgtReceived f.wire) s = .next (Machine.raise 15 [f.address, f.payload.getD 0 0] s1)))
    ∧ ∀ (s : State) (f : Frame), s.spine.receivingD = [] → s.inTest = false → f.kind = .rpy → 2 ≤ f.payload.length →
      f.payload.length ≤ 274 → exec (.rpyReceived f.wire) s = .next (offerForward f (linkGood .d s))

/-- A bad frame (R1, R3, R33, R183): it is counted at its port, twice for reason KIND; on U every slot loses its
progress and keeps its pattern and action; nothing of it reaches the pose, the gate counts or the cycle number. A
counter that increments (R35): it saturates at 65,535, and an increment from at or below a nonzero threshold to above
it raises notice 14 with the port, the counter and the threshold; the codes of the counters in that detail are the
model's choice (assumption log 19). The reasons (R1, R3, R20): an announced length above 274 is LENGTH at once; a
complete frame is bad with CHECK where its check differs, else with KIND where its kind code names no kind that
arrives on the port, else with LENGTH where its length does not agree with its kind, and otherwise good; fewer bytes
than announced complete no frame. -/
def Obligations.BadFramesAreCounted : Prop :=
  (∀ (p : Port) (bytes : List Byte), 4 ≤ bytes.length →
      let kind := bytes.getD 0 0x00#8
      let n := (bytes.getD 2 0x00#8).toNat * 256 + (bytes.getD 3 0x00#8).toNat
      let check := (bytes.getD (n + 4) 0x00#8).toNat * 256 + (bytes.getD (n + 5) 0x00#8).toNat
      let computed := (crc16 (bytes.take (n + 4))).toNat
      let arriving : List (Byte × FrameKind × Nat × Nat) :=
        match p with
        | .u => [(0x01#8, .cyc, 12, 12), (0x02#8, .set, 7, 7), (0x06#8, .mgt, 2, 274)]
        | .d => [(0x03#8, .fbk, 18, 18), (0x07#8, .rpy, 2, 274)]
      (274 < n → receive p bytes = .judged (.bad .length))
        ∧ (n ≤ 274 → bytes.length < n + 6 → receive p bytes = .incomplete)
        ∧ (n ≤ 274 → n + 6 ≤ bytes.length →
          (computed ≠ check → receive p bytes = .judged (.bad .check))
            ∧ (computed = check →
              ((∀ row ∈ arriving, row.1 ≠ kind) → receive p bytes = .judged (.bad .kind))
                ∧ ∀ (k : FrameKind) (least most : Nat), (kind, k, least, most) ∈ arriving →
                  (n < least ∨ most < n → receive p bytes = .judged (.bad .length))
                    ∧ (least ≤ n → n ≤ most →
                      receive p bytes = .judged (.good ⟨k, bytes.getD 1 0x00#8, (bytes.drop 4).take n⟩)))))
    ∧ (∀ (p : Port) (bytes : List Byte), bytes.length < 4 → receive p bytes = .incomplete)
    ∧ (∀ (s : State) (p : Port) (bytes : List Byte) (cut : Bool) (why : BadReason), s.spine.receiving p = [] →
    (p = .u ∨ s.inTest = false) →
    (receive p bytes = .judged (.bad why) ∨ (receive p bytes = .incomplete ∧ cut = true ∧ why = .length)) →
    Nexts (exec (.badFrame p bytes cut) s) fun t =>
      (t.link.port p).errored = satInc 65535 (s.link.port p).errored
        ∧ (t.link.port p).unknownKind =
          (if why = .kind then satInc 65535 (s.link.port p).unknownKind else (s.link.port p).unknownKind)
        ∧ (∀ n : Fin 8,
          t.cues[n] = { s.cues[n] with progress := if p = .u then 0 else s.cues[n].progress })
        ∧ t.pose = s.pose ∧ t.cycle = s.cycle ∧ t.pins = s.pins ∧ t.lens = s.lens
        ∧ t.gate.clamps = s.gate.clamps ∧ t.gate.withheld = s.gate.withheld ∧ t.gate.overridden = s.gate.overridden
        ∧ t.gate.refusals = s.gate.refusals)
    ∧ ∀ (s : State) (p : Port) (c : CounterName),
      let before := s.counter p c
      let after := satInc 65535 before
      let threshold := s.link.thresholds.get p c
      let s1 := s.setCounter p c after
      (threshold ≠ 0 → before ≤ threshold → threshold < after →
          bumpCounter p c s = Machine.raise 14 ([portCode p, c.code] ++ natBE 2 threshold) s1)
        ∧ (threshold = 0 ∨ threshold < before ∨ after ≤ threshold → bumpCounter p c s = s1)
        ∧ (threshold = 65535 → bumpCounter p c s = s1)
        ∧ (bumpCounter p c s).counter p c = after ∧ (bumpCounter p c s).link.thresholds = s.link.thresholds

/-! ## Transmitters -/

/-- The completion of a frame on U (R15): the arbiter takes the express notice, the head of the forward queue, the
head of the reply queue, or the chosen notice, and otherwise the transmitter is idle. That nothing happens with no
frame in transmission, and that the completion of the RESET reply takes this opportunity before the warm reset, are
the model's choices (assumption logs 4 and 14). -/
def Obligations.UTransmitterServesInOrder : Prop :=
  ∀ s : State,
    (s.spine.sendingU = none → exec .uTransmitComplete s = .next s)
      ∧ ∀ x : Sending, s.spine.sendingU = some x →
        let s1 : State :=
          { s with
            spine := { s.spine with sendingU := none }
            mgmt := { s.mgmt with reset := if x.ofReset then .transmitted else s.mgmt.reset } }
        (∀ k, s.notices.express = some k → exec .uTransmitComplete s = .next (sendNotice k s1))
          ∧ (s.notices.express = none →
            (∀ f rest, s.spine.forward = f :: rest →
                exec .uTransmitComplete s =
                  .next { s1 with spine := { s1.spine with forward := rest, sendingU := some ⟨f, false⟩ } })
              ∧ (s.spine.forward = [] →
                (∀ r rest, s.mgmt.replies = r :: rest →
                    exec .uTransmitComplete s =
                      .next
                        { s1 with
                          mgmt := { s1.mgmt with replies := rest }
                          spine :=
                            { s1.spine with
                              sendingU :=
                                some ⟨⟨.rpy, 62#8, r.tag :: r.result.code :: r.body⟩, r.ofReset⟩ } })
                  ∧ (s.mgmt.replies = [] →
                    (∀ k, s.notices.choice = some k → exec .uTransmitComplete s = .next (sendNotice k s1))
                      ∧ (s.notices.choice = none → exec .uTransmitComplete s = .next s1))))

/-- The completion of a frame on D (R17, R18): the arbiter takes the brake order, the lowest-numbered deceleration
order, or the head of the D queue after discarding the SETs that the stop state forbids there; in TEST it takes
nothing. That nothing happens with no frame in transmission is the model's choice (assumption log 4). -/
def Obligations.DTransmitterServesInOrder : Prop :=
  ∀ s : State,
    let forbidden (f : Frame) : Bool :=
      f.kind == .set
        && ((decide (f.address.toNat ≤ 6) && s.stop.state != .run)
          || (decide (7 ≤ f.address.toNat ∧ f.address.toNat ≤ 9)
            && (s.stop.state == .cut || s.stop.state == .parked)))
    (s.spine.sendingD = none → exec .dTransmitComplete s = .next s)
      ∧ (s.spine.sendingD.isSome = true →
        (s.inTest = true → exec .dTransmitComplete s = .next { s with spine := { s.spine with sendingD := none } })
          ∧ (s.inTest = false →
            (∀ f, s.spine.brake = some f →
                exec .dTransmitComplete s =
                  .next { s with spine := { s.spine with brake := none, sendingD := some f } })
              ∧ (s.spine.brake = none →
                (∀ (k : Fin 7) (f : Frame), s.spine.decel[k] = some f →
                    (∀ j : Fin 7, j.val < k.val → s.spine.decel[j] = none) →
                    exec .dTransmitComplete s =
                      .next
                        { s with
                          spine := { s.spine with decel := s.spine.decel.set k.val none, sendingD := some f } })
                  ∧ ((∀ k : Fin 7, s.spine.decel[k] = none) →
                    let waiting := s.spine.queueD.dropWhile forbidden
                    exec .dTransmitComplete s =
                      .next { s with spine := { s.spine with queueD := waiting.tail, sendingD := waiting.head? } }))))

/-- What is offered to a busy transmitter waits (R14, R16, R18, R184): a frame at the tail of its queue, or dropped
and counted where the queue holds 16; a brake or deceleration order in its entry, in place of the one that waited
there; a reply at the tail of the reply queue; in TEST the D transmitter discards what it is offered. An idle
transmitter with nothing waiting ahead sends the frame, the reply or the order at once, on D a frame other than a SET,
for which SetpointsAreGated says it, and sends the notice of an occurrence whose source is then eligible, where no
other source is; where it is not, the entry waits (R15, R17). Whatever waits, an offer, a reply or an occurrence at an
idle transmitter is a transmit opportunity: what follows it is what the completion of a frame would take from the same
queues and entries. -/
def Obligations.OffersWaitInTheirQueues : Prop :=
  (∀ (s : State) (f : Frame),
    (s.spine.sendingU.isSome = true →
        (s.spine.forward.length < 16 →
            offerForward f s = { s with spine := { s.spine with forward := s.spine.forward ++ [f] } })
          ∧ (16 ≤ s.spine.forward.length → offerForward f s = bumpCounter .u .queueDrops s)
          ∧ ∀ (tag : Byte) (result : Result) (body : List Byte) (ofReset : Bool),
            appendReply tag result body ofReset s =
              { s with mgmt := { s.mgmt with replies := s.mgmt.replies ++ [⟨tag, result, body, ofReset⟩] } })
      ∧ (s.spine.sendingU = none → s.notices.express = none → s.spine.forward = [] →
        offerForward f s = { s with spine := { s.spine with sendingU := some ⟨f, false⟩ } })
      ∧ (s.inTest = false → s.spine.sendingD = none → s.spine.brake = none →
        (∀ k : Fin 7, s.spine.decel[k] = none) → s.spine.queueD = [] → f.kind ≠ .set →
        offerQueueD f s = { s with spine := { s.spine with sendingD := some f } })
      ∧ (s.inTest = true →
        offerQueueD f s = s ∧ (∀ a, offerBrake a s = s) ∧ ∀ (k : Fin 7) (d : Nat), offerDecel k d s = s)
      ∧ (s.inTest = false → s.spine.sendingD.isSome = true →
        (s.spine.queueD.length < 16 →
            offerQueueD f s = { s with spine := { s.spine with queueD := s.spine.queueD ++ [f] } })
          ∧ (16 ≤ s.spine.queueD.length → offerQueueD f s = bumpCounter .d .queueDrops s)
          ∧ offerBrake .engage s =
            { s with spine := { s.spine with brake := some ⟨.brk, 63#8, [0x00#8, 0x7F#8, 0x01#8]⟩ } }
          ∧ offerBrake .release s =
            { s with spine := { s.spine with brake := some ⟨.brk, 63#8, [0x00#8, 0x7F#8, 0x00#8]⟩ } }
          ∧ ∀ (k : Fin 7) (d : Nat),
            offerDecel k d s =
              { s with
                spine :=
                  { s.spine with decel := s.spine.decel.set k.val (some ⟨.dec, u8 k.val, natBE 2 d⟩) } }))
    ∧ (∀ s : State, s.spine.sendingU = none → s.spine.forward = [] → s.mgmt.replies = [] →
      (s.notices.express = none → ∀ (tag : Byte) (result : Result) (body : List Byte) (ofReset : Bool),
          appendReply tag result body ofReset s =
            { s with
              spine :=
                { s.spine with sendingU := some ⟨⟨.rpy, 62#8, tag :: result.code :: body⟩, ofReset⟩ } })
        ∧ ∀ (k : Fin 17) (detail : List Byte), (∀ j : Fin 17, j ≠ k → s.notices.eligible j = false) →
          let e := s.notices.entries[k].occur (sourceLatched k) s.cycle.timecode detail
          let s1 : State :=
            { s with notices := { s.notices with entries := s.notices.entries.set k.val e } }
          (s1.notices.eligible k = true → noteOccurrence k detail s = sendNotice k s1)
            ∧ (s1.notices.eligible k = false → noteOccurrence k detail s = s1))
    ∧ (∀ s : State, s.inTest = false → s.spine.sendingD = none →
      offerBrake .engage s =
          { s with spine := { s.spine with brake := none, sendingD := some ⟨.brk, 63#8, [0x00#8, 0x7F#8, 0x01#8]⟩ } }
        ∧ offerBrake .release s =
          { s with spine := { s.spine with brake := none, sendingD := some ⟨.brk, 63#8, [0x00#8, 0x7F#8, 0x00#8]⟩ } }
        ∧ (s.spine.brake = none → (∀ k : Fin 7, s.spine.decel[k] = none) → ∀ (k : Fin 7) (d : Nat),
          offerDecel k d s = { s with spine := { s.spine with sendingD := some ⟨.dec, u8 k.val, natBE 2 d⟩ } }))
    ∧ (∀ (s : State) (f x : Frame), s.spine.sendingU = none →
      let completing (s1 : State) : State := { s1 with spine := { s1.spine with sendingU := some ⟨x, false⟩ } }
      (s.spine.forward.length < 16 →
          exec .uTransmitComplete (completing { s with spine := { s.spine with forward := s.spine.forward ++ [f] } }) =
            .next (offerForward f s))
        ∧ (∀ (tag : Byte) (result : Result) (body : List Byte) (ofReset : Bool),
          exec .uTransmitComplete
              (completing
                { s with mgmt := { s.mgmt with replies := s.mgmt.replies ++ [⟨tag, result, body, ofReset⟩] } }) =
            .next (appendReply tag result body ofReset s))
        ∧ ∀ (k : Fin 17) (detail : List Byte),
          let e := s.notices.entries[k].occur (sourceLatched k) s.cycle.timecode detail
          exec .uTransmitComplete
              (completing { s with notices := { s.notices with entries := s.notices.entries.set k.val e } }) =
            .next (noteOccurrence k detail s))
    ∧ ∀ (s : State) (f x : Frame), s.inTest = false → s.spine.sendingD = none →
      let completing (s1 : State) : State := { s1 with spine := { s1.spine with sendingD := some x } }
      (s.spine.queueD.length < 16 →
          exec .dTransmitComplete (completing { s with spine := { s.spine with queueD := s.spine.queueD ++ [f] } }) =
            .next (offerQueueD f s))
        ∧ ∀ (k : Fin 7) (d : Nat),
          exec .dTransmitComplete
              (completing
                { s with
                  spine :=
                    { s.spine with decel := s.spine.decel.set k.val (some ⟨.dec, u8 k.val, natBE 2 d⟩) } }) =
            .next (offerDecel k d s)

/-! ## Notices -/

/-- An occurrence at a source and a take of it for transmission change its entry as R191 says, and after cold and warm
reset every entry has pending no, sent no, count 0 and no detail. -/
def Obligations.NoticeEntriesChangeAsR191Says : Prop :=
  (∀ (k : Fin 17) (detail : List Byte) (s : State), s.spine.sendingU.isSome = true →
      let e := s.notices.entries[k]
      let fresh : NoticeEntry := ⟨true, false, 0, s.cycle.timecode, detail⟩
      let coalesced : NoticeEntry := ⟨true, e.sent, satInc 255 e.count, s.cycle.timecode, detail⟩
      let after : NoticeEntry :=
        if e.pending = false then fresh
        else if sourceLatched k then { e with count := satInc 255 e.count }
        else coalesced
      noteOccurrence k detail s = { s with notices := { s.notices with entries := s.notices.entries.set k.val after } })
    ∧ (∀ (k : Fin 17) (s : State),
      let e := s.notices.entries[k]
      let after : NoticeEntry := if sourceLatched k then { e with sent := true } else { e with pending := false }
      sendNotice k s =
        { s with
          notices := { s.notices with entries := s.notices.entries.set k.val after }
          spine :=
            { s.spine with
              sendingU :=
                some
                  ⟨⟨.note, 62#8,
                      u8 k.val :: (sourceClass k).code :: u8 e.count
                        :: (e.timecode.hours :: e.timecode.minutes :: e.timecode.seconds :: e.timecode.frames
                          :: e.detail)⟩,
                    false⟩ } })
    ∧ (∀ k : Fin 17, sourceLatched k = true ↔ k.val ∈ [1, 4, 7, 8, 12, 14])
    ∧ (∀ k : Fin 17,
      sourceClass k = if k.val ≤ 4 then .safety else if k.val ≤ 12 then .motion else .link)
    ∧ (∀ (n : Notices) (k : Fin 17), sourceLatched k = true → n.entries[k].sent = true → n.eligible k = false)
    ∧ ∀ (s : State) (k : Fin 17),
      let cleared (e : NoticeEntry) : Prop := e.pending = false ∧ e.sent = false ∧ e.count = 0 ∧ e.detail = []
      cleared (coldReset s).notices.entries[k] ∧ cleared (warmReset s).notices.entries[k]

/-- The choice of the Notice Arbiter (R195): no eligible source where there is none, and otherwise an eligible source
of the first class, in the class order, that has one, the lowest-numbered of that class. The class order of each order
code is that of the table (R194). A source is eligible exactly while it is pending, not a latched source already sent,
and its class enable and the global enable are on; the express source is offered exactly while it is eligible. -/
def Obligations.NoticeChoiceIsTheFirstEligible : Prop :=
  (classOrder 1 = [.safety, .motion, .link] ∧ classOrder 2 = [.safety, .link, .motion]
      ∧ classOrder 3 = [.motion, .safety, .link] ∧ classOrder 4 = [.motion, .link, .safety]
      ∧ classOrder 5 = [.link, .safety, .motion] ∧ classOrder 6 = [.link, .motion, .safety])
    ∧ (∀ (n : Notices) (k : Fin 17),
      n.eligible k = true ↔
        n.entries[k].pending = true ∧ ¬(k.val ∈ [1, 4, 7, 8, 12, 14] ∧ n.entries[k].sent = true)
          ∧ n.config.global = true
          ∧ (k.val ≤ 4 → n.config.safety = true) ∧ (5 ≤ k.val → k.val ≤ 12 → n.config.motion = true)
          ∧ (13 ≤ k.val → n.config.link = true))
    ∧ (∀ (n : Notices) (k : Fin 17), n.express = some k ↔ n.config.express = some k ∧ n.eligible k = true)
    ∧ ∀ n : Notices,
    match n.choice with
    | none => ∀ k : Fin 17, n.eligible k = false
    | some k =>
      n.eligible k = true
        ∧ ∀ j : Fin 17, n.eligible j = true →
          (classOrder n.config.order).idxOf (sourceClass k) < (classOrder n.config.order).idxOf (sourceClass j)
            ∨ (sourceClass k = sourceClass j ∧ k.val ≤ j.val)


/-! ## Stop supervision -/

/-- A condition cause that enters the present set where it was absent (R82, R104 to R108, R110): it stands in the
present set; a CUT-category cause takes every state to CUT with drive enable low, the gate's entries invalid, the ramp
timer stopped and the detector reset; a RAMP-category cause takes RUN to RAMP with the entry cycle, an empty
standstill set, the ramp timer started and a DEC for each motion axis with the deceleration of its record (R108); in
RAMP and HELD, and in CUT while a CUT-category cause is present, it leaves the stop state as it stands; CUT without
one it takes to HELD, and in PARKED it joins the trip set, whose notice wakes the part to HELD where source 1 is in
the wake set and was not pending. Every CUT-category cause that enters offers BRK ENGAGE, in CUT too. It joins the
trip set, and out of RUN so does every cause present. The entry to CUT from RUN suspends a player that is CUEING,
READY or PLAYING and ends a recording or an arming, and so does the entry to RAMP (R105, R160, R170): here for a cause
that enters the present set in RUN. A condition cause that leaves the present set (R104, R107): it is out of the set,
the trip set stands, and CUT with no CUT-category cause left is left for HELD; every other stop state, and CUT with
one left, stands; a cause that is absent changes nothing. Each change of stop state raises notice 0 with the previous
state, the new one and the reason, and each cause that joins the trip set notice 1, in code order (R104, R105), at the
occurrence of an event cause too; the player's suspension raises notice 5 and the recording's end notice 9 (R156,
R162). That causes that join together join in code order is the model's reading (assumption log 9), and CLEARED as the
reason where the entry of a RAMP-category cause ends CUT its choice (assumption log 20); the bytes of the detail of
notice 16 are its reading (assumption log 7). -/
def Obligations.CausesEnter : Prop :=
  (∀ (c : Cause) (s : State), s.stop.present[c.code] = false →
      let t := causeEnters c s
      t.stop.present = s.stop.present.set c.code.val true
        ∧ t.stop.trip[c.code] = true
        ∧ (s.stop.state = .run → ∀ d : Fin 21, t.stop.present[d] = true → t.stop.trip[d] = true)
        ∧ (c.isCut = true → t.stop.state = .cut ∧ (s.stop.state ≠ .cut → t.stop.driveEnable = false
            ∧ (∀ k : Fin 10, t.gate.last[k] = none) ∧ t.stop.rampTimer = .stopped
            ∧ t.stop.standstill = FlagSet.empty 7 ∧ t.stop.detector = ⟨.waitRelease, 0⟩))
        ∧ (c.isCut = true → s.inTest = false →
          let engage : Frame := ⟨.brk, 63#8, [0x00#8, 0x7F#8, 0x01#8]⟩
          (s.spine.sendingD.isSome = true → t.spine.brake = some engage)
            ∧ (s.spine.sendingD = none → t.spine.brake = none ∧ t.spine.sendingD = some engage))
        ∧ (c.isCut = false → s.stop.state = .run →
          t.stop.state = .ramp ∧ t.stop.driveEnable = true ∧ t.stop.entryCycle = s.cycle.last
            ∧ t.stop.standstill = FlagSet.empty 7
            ∧ t.stop.rampTimer = .running s.timebase s.stop.config.rampLimit ∧ t.gate = s.gate)
        ∧ (c.isCut = false → s.stop.state = .run → s.inTest = false →
          let order (k : Fin 7) : Option Frame := some ⟨.dec, u8 k.val, natBE 2 s.pose.axes[k.val].deceleration⟩
          (s.spine.sendingD.isSome = true → ∀ k : Fin 7, t.spine.decel[k] = order k)
            ∧ (s.spine.sendingD = none → s.spine.brake = none → (∀ k : Fin 7, s.spine.decel[k] = none) →
              t.spine.sendingD = order 0 ∧ t.spine.decel[0] = none
                ∧ ∀ k : Fin 7, 1 ≤ k.val → t.spine.decel[k] = order k))
        ∧ (c.isCut = false →
          s.stop.state = .ramp ∨ s.stop.state = .held ∨ (s.stop.state = .cut ∧ s.stop.cutPresent = true) →
          t.stop.state = s.stop.state ∧ t.stop.driveEnable = s.stop.driveEnable ∧ t.gate = s.gate
            ∧ t.player = s.player ∧ t.recorder = s.recorder
            ∧ t.stop.trip = s.stop.trip.set c.code.val true)
        ∧ (c.isCut = false → s.stop.state = .cut → s.stop.cutPresent = false →
          t.stop.state = .held ∧ t.stop.driveEnable = true ∧ t.stop.trip = s.stop.trip.set c.code.val true
            ∧ t.gate = s.gate ∧ t.player = s.player ∧ t.recorder = s.recorder)
        ∧ (c.isCut = false → s.stop.state = .parked →
          t.stop.trip = s.stop.trip.set c.code.val true ∧ t.gate = s.gate ∧ t.player = s.player
            ∧ t.recorder = s.recorder
            ∧ (if s.stop.trip[c.code] = false ∧ s.notices.config.wake[1] = true
                ∧ s.notices.entries[1].pending = false then
              t.stop.state = .held ∧ t.stop.driveEnable = true ∧ t.stop.detector = ⟨.waitRelease, 0⟩
            else t.stop.state = .parked ∧ t.stop.driveEnable = s.stop.driveEnable))
        ∧ t.pose = s.pose ∧ t.env = s.env ∧ t.lens = s.lens ∧ t.cycle = s.cycle ∧ t.link = s.link ∧ t.cues = s.cues
        ∧ t.stop.config = s.stop.config ∧ t.stop.lines = s.stop.lines)
    ∧ (∀ (c : Cause) (s : State), s.stop.present[c.code] = false → s.stop.state = .run →
      let t := causeEnters c s
      (s.player.state = .cueing ∨ s.player.state = .ready ∨ s.player.state = .playing →
          t.player =
            { s.player with state := .suspended, suspendedFrom := some s.player.state, goPending := false }
            ∧ Occurrences 5
              [[s.player.state.code, 0x04#8]
                ++ (match s.player.take with | some q => [0x01#8, u8 q.val] | none => [0x00#8, 0x00#8])
                ++ natBE 3 s.player.index]
              s t)
        ∧ (s.player.state = .idle ∨ s.player.state = .suspended ∨ s.player.state = .holding →
          t.player = s.player ∧ Occurrences 5 [] s t)
        ∧ (∀ k : Fin 32, s.recorder.take = some k → s.recorder.state ≠ .idle →
          t.recorder = Recorder.initial
            ∧ (s.recorder.state = .recording →
              t.store =
                { s.store with
                  takes :=
                    s.store.takes.set k.val
                      { s.store.takes[k] with state := .closed, endReason := some .interrupted } }
                ∧ Occurrences 9
                  [[u8 k.val, 0x01#8] ++ natBE 3 s.store.takes[k].samples ++ natBE 2 s.store.takes[k].chain.length] s t)
            ∧ (s.recorder.state = .armed →
              t.store = s.store ∧ Occurrences 9 [[u8 k.val, 0x01#8] ++ List.replicate 5 0x00#8] s t))
        ∧ (s.recorder.state = .idle → t.recorder = s.recorder ∧ t.store = s.store ∧ Occurrences 9 [] s t))
    ∧ (∀ (c : Cause) (s : State), s.stop.present[c.code] = false →
      let t := causeEnters c s
      let reason := u8 c.code.val
      let joining :=
        (List.finRange 21).filter fun d =>
          !s.stop.trip[d] && (decide (d = c.code) || (s.stop.state == .run && s.stop.present[d]))
      let wakes : Prop :=
        s.stop.trip[c.code] = false ∧ s.notices.config.wake[1] = true ∧ s.notices.entries[1].pending = false
      Occurrences 1 (joining.map fun d => [u8 d.val]) s t
        ∧ (c.isCut = true →
          (s.stop.state ≠ .cut → Occurrences 0 [[s.stop.state.code, 0x03#8, reason]] s t)
            ∧ (s.stop.state = .cut → Occurrences 0 [] s t))
        ∧ (c.isCut = false →
          (s.stop.state = .run → Occurrences 0 [[0x00#8, 0x01#8, reason]] s t)
            ∧ (s.stop.state = .ramp ∨ s.stop.state = .held → Occurrences 0 [] s t)
            ∧ (s.stop.state = .cut → s.stop.cutPresent = true → Occurrences 0 [] s t)
            ∧ (s.stop.state = .cut → s.stop.cutPresent = false → Occurrences 0 [[0x03#8, 0x02#8, 0x16#8]] s t)
            ∧ (s.stop.state = .parked → wakes →
              Occurrences 0 [[0x04#8, 0x02#8, 0x1A#8]] s t ∧ Occurrences 16 [[0x01#8, 0x01#8]] s t)
            ∧ (s.stop.state = .parked → ¬wakes → Occurrences 0 [] s t)))
    ∧ (∀ (c : Cause) (s : State),
      let t := rampEvent c s
      let joined (already : Bool) : List (List Byte) := if already then [] else [[u8 c.code.val]]
      (s.stop.state = .run →
          t.stop.state = .ramp ∧ t.stop.present = s.stop.present
            ∧ (∀ d : Fin 21, t.stop.trip[d] = (s.stop.trip[d] || s.stop.present[d] || decide (d = c.code)))
            ∧ Occurrences 0 [[0x00#8, 0x01#8, u8 c.code.val]] s t
            ∧ Occurrences 1
              ((((List.finRange 21).filter fun d => !s.stop.trip[d] && s.stop.present[d]).map fun d => [u8 d.val])
                ++ joined (s.stop.trip[c.code] || s.stop.present[c.code]))
              s t)
        ∧ (s.stop.state ≠ .run →
          t.stop.present = s.stop.present ∧ t.stop.trip = s.stop.trip.set c.code.val true
            ∧ Occurrences 1 (joined s.stop.trip[c.code]) s t))
    ∧ ∀ (c : Cause) (s : State),
      let t := causeLeaves c s
      let s1 : State := { s with stop := { s.stop with present := s.stop.present.set c.code.val false } }
      (s.stop.present[c.code] = false → t = s)
        ∧ (s.stop.present[c.code] = true → s.stop.state = .cut →
          (∀ d : Fin 21, d.val < 14 → s1.stop.present[d] = false) →
          t = enterHeld .cleared s1 ∧ t.stop.state = .held ∧ t.stop.present = s1.stop.present
            ∧ t.stop.trip = s.stop.trip)
        ∧ (s.stop.present[c.code] = true →
          s.stop.state ≠ .cut ∨ (∃ d : Fin 21, d.val < 14 ∧ s1.stop.present[d] = true) → t = s1)

/-- STOP and CLEAR_STOP (R103, R107): STOP(CUT) makes MGMT_CUT enter, or changes nothing where it is present;
STOP(RAMP) makes MGMT_RAMP occur, which takes RUN to RAMP and elsewhere, PARKED apart, joins the trip set alone;
another mode is answered INVALID. CLEAR_STOP removes MGMT_CUT and takes CUT to HELD where no CUT-category cause is
left. No other command but a cold or warm reset makes MGMT_CUT enter or leave the present set. -/
def Obligations.StopRequestsAct : Prop :=
  (∀ (s s' : State) (tag : Byte),
    (Takes s ⟨tag, 0x03#8, [0x01#8]⟩ s' →
        (s.stop.present[Cause.mgmtCut.code] = true → Replies .stop s tag .ok [] s')
          ∧ (s.stop.present[Cause.mgmtCut.code] = false → Replies .stop s tag .ok [] (causeEnters .mgmtCut s')))
      ∧ (Takes s ⟨tag, 0x03#8, [0x00#8]⟩ s' →
        Replies .stop s tag .ok [] (rampEvent .mgmtRamp s')
          ∧ (s.stop.state = .run →
            (rampEvent .mgmtRamp s').stop.state = .ramp
              ∧ (rampEvent .mgmtRamp s').stop.trip[Cause.mgmtRamp.code] = true)
          ∧ (s.stop.state ≠ .run → s.stop.state ≠ .parked →
            (rampEvent .mgmtRamp s').stop = { s.stop with trip := s.stop.trip.set 20 true }
              ∧ (rampEvent .mgmtRamp s').gate = s.gate))
      ∧ (∀ b : Byte, 2 ≤ b.toNat → Takes s ⟨tag, 0x03#8, [b]⟩ s' → Replies .stop s tag .invalid [] s')
      ∧ (Takes s ⟨tag, 0x04#8, []⟩ s' →
        let s1 : State := { s' with stop := { s.stop with present := s.stop.present.set 12 false } }
        if s.stop.state = .cut ∧ ∀ c : Fin 21, c.val < 14 → s1.stop.present[c] = false then
          Replies .clearStop s tag .ok [] (enterHeld .cleared s1)
        else Replies .clearStop s tag .ok [] s1))
    ∧ ∀ (i : Instr) (s t : State), exec i s = .next t → i ≠ .stop → i ≠ .clearStop → i ≠ .coldReset →
      i ≠ .warmReset → t.stop.present[Cause.mgmtCut.code] = s.stop.present[Cause.mgmtCut.code]

/-- The entry to HELD (R106, R110): drive enable high, the detector at WAIT_RELEASE, the ramp timer stopped, the
standstill set empty, and BRK ENGAGE in the brake entry of a D transmitter that is busy and not in TEST. The present
set, the trip set, the gate, the pose and the player stand. PARK and WAKE (R113, R114): PARK outside HELD is refused,
and in HELD with a wake-set source pending it is answered NOT_PARKED; otherwise the part is PARKED with drive enable
low, unless source 0 is in the wake set, whose notice wakes it at once to HELD. WAKE takes PARKED to HELD and is
refused elsewhere. A source of the wake set that becomes pending wakes a PARKED part to HELD, whatever the enables,
and raises notice 16 with the reason and the source; a notice raised in another case changes no stop state (R114,
R196). Each change of stop state raises notice 0 with the previous state, the new one and the reason, the reasons that
are no cause coded from 15h in the order of R105 (R23). The bytes of the detail of notice 16 (assumption log 7), and
the notice 0 of a wake before its notice 16 (assumption log 9), are the model's reading. -/
def Obligations.HeldParkAndWakeAct : Prop :=
  (∀ (why : StopReason) (s : State),
      let t := enterHeld why s
      t.stop.state = .held ∧ t.stop.driveEnable = true ∧ t.stop.detector = ⟨.waitRelease, 0⟩
        ∧ t.stop.rampTimer = .stopped ∧ t.stop.standstill = FlagSet.empty 7
        ∧ (s.inTest = false → s.spine.sendingD.isSome = true →
          t.spine.brake = some ⟨.brk, 63#8, [0x00#8, 0x7F#8, 0x01#8]⟩)
        ∧ Occurrences 0 [[s.stop.state.code, 0x02#8, why.code]] s t
        ∧ t.stop.present = s.stop.present ∧ t.stop.trip = s.stop.trip ∧ t.stop.lines = s.stop.lines
        ∧ t.stop.config = s.stop.config ∧ t.gate = s.gate ∧ t.pose = s.pose ∧ t.player = s.player
        ∧ t.recorder = s.recorder ∧ t.store = s.store ∧ t.lens = s.lens ∧ t.env = s.env ∧ t.link = s.link)
    ∧ ((∀ c : Cause, (StopReason.cause c).code = u8 c.code.val)
      ∧ [StopReason.standstill, .cleared, .rearm, .park, .wakeRequest, .wakeSource].map StopReason.code
          = [0x15#8, 0x16#8, 0x17#8, 0x18#8, 0x19#8, 0x1A#8]
      ∧ [StopState.run, .ramp, .held, .cut, .parked].map StopState.code = [0x00#8, 0x01#8, 0x02#8, 0x03#8, 0x04#8])
    ∧ (∀ (s s' : State) (tag : Byte),
      (Takes s ⟨tag, 0x06#8, []⟩ s' →
          (s.stop.state ≠ .held → Replies .park s tag .refused [] s')
            ∧ ((∃ k : Fin 17, s.notices.config.wake[k] = true ∧ s.notices.entries[k].pending = true) →
              s.stop.state = .held → Replies .park s tag .notParked [] s')
            ∧ (s.stop.state = .held →
              (∀ k : Fin 17, s.notices.config.wake[k] = true → s.notices.entries[k].pending = false) →
              ∃ t : State, Replies .park s tag .ok [] t
                ∧ t.stop.state = (if s.notices.config.wake[0] then .held else .parked)
                ∧ t.stop.driveEnable = s.notices.config.wake[0]
                ∧ Occurrences 0
                  ([0x02#8, 0x04#8, 0x18#8] :: if s.notices.config.wake[0] then [[0x04#8, 0x02#8, 0x1A#8]] else []) s t
                ∧ Occurrences 16 (if s.notices.config.wake[0] then [[0x01#8, 0x00#8]] else []) s t
                ∧ t.stop.detector = ⟨.waitRelease, 0⟩ ∧ t.stop.present = s.stop.present ∧ t.stop.trip = s.stop.trip
                ∧ t.gate = s.gate ∧ t.pose = s.pose ∧ t.player = s.player ∧ t.link = s.link))
        ∧ (Takes s ⟨tag, 0x07#8, []⟩ s' →
          (s.stop.state ≠ .parked → Replies .wake s tag .refused [] s')
            ∧ (s.stop.state = .parked →
              Replies .wake s tag .ok [] (noteOccurrence 16 [0x00#8] (enterHeld .wakeRequest s'))
                ∧ Occurrences 0 [[0x04#8, 0x02#8, 0x19#8]] s (enterHeld .wakeRequest s'))))
    ∧ ∀ (k : Fin 17) (detail : List Byte) (s : State),
      let s1 := noteOccurrence k detail s
      let wakes : Prop :=
        s.stop.state = .parked ∧ s.notices.config.wake[k] = true ∧ s.notices.entries[k].pending = false
      (wakes →
          Machine.raise k detail s = noteOccurrence 16 [0x01#8, u8 k.val] (enterHeld .wakeSource s1)
            ∧ (Machine.raise k detail s).stop.state = .held)
        ∧ (¬wakes → Machine.raise k detail s = s1 ∧ s1.stop = s.stop)

/-- The end of a ramp (R109): the ramp timer's expiry in RAMP takes the state to CUT, RAMP_TIMEOUT joins the trip set,
and the present set stands; out of RAMP, or with the timer not due, nothing happens. An FBK judged for standstill puts
its axis in the standstill set or takes it out, and the seventh axis takes the state to HELD; an earlier echo is not
judged. Each FBK of a motion axis is so judged, by its echo, at the Stop Supervisor (R102): here where the present set
already shows DRIVE_FAULT as it is, and FbkReceivedActs says it for every state. Both ends raise notice 0 with the
reason, RAMP_TIMEOUT or STANDSTILL, and RAMP_TIMEOUT notice 1 where it joins the trip set (R104, R105). That the
command RAMP_TIMEOUT changes nothing where the ramp timer is not due in RAMP is the model's choice (assumption log 4).
-/
def Obligations.RampsEnd : Prop :=
  (∀ s : State, s.stop.state = .ramp → IsDue s.stop.rampTimer s.timebase →
      Nexts (exec .rampTimeout s) fun t =>
        t.stop.state = .cut ∧ t.stop.driveEnable = false ∧ t.stop.present = s.stop.present
          ∧ t.stop.trip = s.stop.trip.set 13 true ∧ t.stop.rampTimer = .stopped
          ∧ t.stop.standstill = FlagSet.empty 7 ∧ (∀ k : Fin 10, t.gate.last[k] = none) ∧ t.pose = s.pose
          ∧ t.player = s.player ∧ t.recorder = s.recorder ∧ t.store = s.store
          ∧ Occurrences 0 [[0x01#8, 0x03#8, 0x0D#8]] s t
          ∧ Occurrences 1 (if s.stop.trip[13] then [] else [[0x0D#8]]) s t)
    ∧ (∀ (first : Bool) (k : Fin 7) (x : FbkFields) (s : State), Mirrors s .driveFault s.pose.driveFault →
      fbkTaken first ⟨k.val, by omega⟩ x s .stopSupervisor = refreshLamps (judgeStandstill k x.echo s))
    ∧ (∀ s : State, s.stop.state ≠ .ramp ∨ ¬IsDue s.stop.rampTimer s.timebase → exec .rampTimeout s = .next s)
    ∧ ∀ (s : State) (k : Fin 7) (echo entry : CycleNo), s.stop.state = .ramp → s.stop.entryCycle = some entry →
      let still := decide (s.pose.entries[k.val].velocity.natAbs ≤ s.pose.axes[k.val].standstill)
      let after := s.stop.standstill.set k.val still
      (32768 ≤ (echo - entry).toNat → judgeStandstill k echo s = s)
        ∧ ((echo - entry).toNat ≤ 32767 → (∃ j : Fin 7, after[j] = false) →
          judgeStandstill k echo s = { s with stop := { s.stop with standstill := after } })
        ∧ ((echo - entry).toNat ≤ 32767 → (∀ j : Fin 7, after[j] = true) →
          (judgeStandstill k echo s).stop.state = .held ∧ (judgeStandstill k echo s).stop.rampTimer = .stopped
            ∧ Occurrences 0 [[0x01#8, 0x02#8, 0x15#8]] s (judgeStandstill k echo s))

/-- The completed gesture and the two ways a gesture is lost (R111, R112, R119): with nothing present, every motion
axis present and within its soft limits, the stop state becomes RUN with the trip set empty, drive enable high, the
gate's motion entries at the reported positions and its lens entries as they were; otherwise the state stays HELD with
notice 3 naming the first failed condition. A pulse held too long returns the detector to WAIT_RELEASE, a gap held too
long to ARMED. The gesture completes on the step that brings CONFIRM to the confirm count, which is the step that
enters CONFIRM where that count is 1. Where its condition does not hold, each of the three commands changes nothing
(the model's choice, assumption log 4). A step of the detector is the cell of the table for its state and the grip
(R119); the count 0 after a step into WAIT_RELEASE or ARMED is the model's choice, and the bytes of the detail of
notice 3 its reading (assumption logs 18 and 7). -/
def Obligations.GesturesRearm : Prop :=
  let completes (st : Stop) : Prop :=
    (st.detector.state = .confirm ∧ st.gesture.confirm ≤ st.detector.count + 1)
      ∨ (st.gesture.confirm ≤ 1
        ∧ (st.detector.state = .gap ∨ (st.detector.state = .armed ∧ st.gesture.kind = .single)))
  ((∀ s : State, s.stop.state = .held → completes s.stop →
        let s1 : State := { s with stop := { s.stop with detector := ⟨.waitRelease, 0⟩ } }
        let axis (k : Fin 7) : Fin 10 := ⟨k.val, by omega⟩
        let present (k : Fin 7) : Prop := s.pose.entries[axis k].present = true
        let inside (k : Fin 7) : Prop :=
          s.pose.axes[axis k].softMin ≤ s.pose.entries[axis k].position
            ∧ s.pose.entries[axis k].position ≤ s.pose.axes[axis k].softMax
        ((∀ c : Fin 21, s.stop.present[c] = false) → (∀ k, present k) → (∀ k, inside k) →
            Nexts (exec .gestureComplete s) fun t =>
              t.stop.state = .run ∧ t.stop.driveEnable = true ∧ t.stop.trip = FlagSet.empty 21
                ∧ t.stop.present = s.stop.present ∧ t.stop.detector = ⟨.waitRelease, 0⟩
                ∧ (∀ k : Fin 10,
                  t.gate.last[k] = if k.val ≤ 6 then some s.pose.entries[k].position else s.gate.last[k])
                ∧ Occurrences 0 [[0x02#8, 0x00#8, 0x17#8]] s t
                ∧ (s.inTest = false → s.spine.sendingD.isSome = true →
                  t.spine.brake = some ⟨.brk, 63#8, [0x00#8, 0x7F#8, 0x00#8]⟩)
                ∧ t.pose = s.pose ∧ t.player = s.player ∧ t.recorder = s.recorder ∧ t.env = s.env ∧ t.link = s.link)
          ∧ ((∃ c : Fin 21, s.stop.present[c] = true) →
            exec .gestureComplete s = .next (raise 3 (0x00#8 :: causeSetBytes s.stop.present) s1))
          ∧ ((∀ c : Fin 21, s.stop.present[c] = false) →
            (∀ k, ¬present k → (∀ j : Fin 7, j.val < k.val → present j) →
                exec .gestureComplete s = .next (raise 3 [0x01#8, u8 k.val] s1))
              ∧ ((∀ k, present k) → ∀ k, ¬inside k → (∀ j : Fin 7, j.val < k.val → inside j) →
                exec .gestureComplete s =
                  .next (raise 3 ([0x02#8, u8 k.val] ++ intBE 4 s.pose.entries[axis k].position) s1))))
      ∧ (∀ s : State, s.stop.state ≠ .held ∨ ¬completes s.stop → exec .gestureComplete s = .next s)
      ∧ (∀ s : State,
        (s.stop.state = .held → s.stop.detector.state = .pulse →
            s.stop.gesture.pulseMax < s.stop.detector.count + 1 →
            exec .pulseMaximumExceeded s =
              .next { s with stop := { s.stop with detector := ⟨.waitRelease, 0⟩ } })
          ∧ (s.stop.state ≠ .held ∨ s.stop.detector.state ≠ .pulse
              ∨ s.stop.detector.count + 1 ≤ s.stop.gesture.pulseMax →
            exec .pulseMaximumExceeded s = .next s)
          ∧ (s.stop.state = .held → s.stop.detector.state = .gap → s.stop.gesture.gapMax < s.stop.detector.count + 1 →
            exec .gapMaximumExceeded s = .next { s with stop := { s.stop with detector := ⟨.armed, 0⟩ } })
          ∧ (s.stop.state ≠ .held ∨ s.stop.detector.state ≠ .gap
              ∨ s.stop.detector.count + 1 ≤ s.stop.gesture.gapMax →
            exec .gapMaximumExceeded s = .next s)))
    ∧ (∀ (g : Gesture) (n : Nat),
      Detector.step g false ⟨.waitRelease, n⟩ = ⟨.armed, 0⟩ ∧ Detector.step g true ⟨.waitRelease, n⟩ = ⟨.waitRelease, n⟩
        ∧ Detector.step g false ⟨.armed, n⟩ = ⟨.armed, n⟩
        ∧ (g.kind = .double → Detector.step g true ⟨.armed, n⟩ = ⟨.pulse, 1⟩)
        ∧ (g.kind = .single → Detector.step g true ⟨.armed, n⟩ = ⟨.confirm, 1⟩)
        ∧ Detector.step g false ⟨.pulse, n⟩ = ⟨.gap, 1⟩
        ∧ (n + 1 ≤ g.pulseMax → Detector.step g true ⟨.pulse, n⟩ = ⟨.pulse, n + 1⟩)
        ∧ (g.pulseMax < n + 1 → Detector.step g true ⟨.pulse, n⟩ = ⟨.waitRelease, 0⟩)
        ∧ (n + 1 ≤ g.gapMax → Detector.step g false ⟨.gap, n⟩ = ⟨.gap, n + 1⟩)
        ∧ (g.gapMax < n + 1 → Detector.step g false ⟨.gap, n⟩ = ⟨.armed, 0⟩)
        ∧ Detector.step g true ⟨.gap, n⟩ = ⟨.confirm, 1⟩ ∧ Detector.step g false ⟨.confirm, n⟩ = ⟨.armed, 0⟩
        ∧ Detector.step g true ⟨.confirm, n⟩ = ⟨.confirm, n + 1⟩)

/-- The crew stop lines (R97, R98, R99): a change of one channel derives the line state, starts the discrepancy window
on entering DISCREPANT and stops it elsewhere, moves the fault latch, makes CREW_STOPn present exactly outside CLEAR,
and removes LINE_FAULTn where the latch has become absent; a level that stands changes nothing. The window's expiry
latches AWAIT_STOP, makes LINE_FAULTn present, and raises notice 4 with the line and the levels of its channels, OPEN
00h and CLOSED 01h; that the expiry of a window that is not due changes nothing is the model's choice (assumption log
4). -/
def Obligations.CrewStopLinesAct : Prop :=
  (∀ (s : State) (n : Fin 4) (contact : Contact) (level : Channel),
      let r := s.stop.lines[n]
      let a := if contact = .a then level else r.a
      let b := if contact = .b then level else r.b
      (a = r.a ∧ b = r.b → exec (.crewStopChannelChange n contact level) s = .next s)
        ∧ (¬(a = r.a ∧ b = r.b) →
          Nexts (exec (.crewStopChannelChange n contact level) s) fun t =>
            t.stop.lines =
                s.stop.lines.set n.val
                  { a := a, b := b
                    window := if a = b then .stopped else .running s.timebase s.stop.config.discrepancy
                    latch :=
                      if a = .opened ∧ b = .opened ∧ r.latch = .awaitStop then .awaitClear
                      else if a = .closed ∧ b = .closed ∧ r.latch = .awaitClear then .absent
                      else r.latch }
              ∧ Mirrors t (.crewStop n) (!decide (a = .closed ∧ b = .closed))
              ∧ (a = .closed → b = .closed → r.latch = .awaitClear → Mirrors t (.lineFault n) false)
              ∧ t.pose = s.pose ∧ t.env = s.env ∧ t.lens = s.lens ∧ t.cycle = s.cycle ∧ t.link = s.link
              ∧ t.cues = s.cues ∧ t.pins = s.pins))
    ∧ ∀ (s : State) (n : Fin 4),
      (IsDue s.stop.lines[n].window s.timebase →
          Nexts (exec (.discrepancyWindowExpiry n) s) fun t =>
            t.stop.lines =
                s.stop.lines.set n.val { s.stop.lines[n] with window := .stopped, latch := .awaitStop }
              ∧ Mirrors t (.lineFault n) true
              ∧ (Mirrors s (.lineFault n) false → t.stop.state = .cut)
              ∧ (let code (level : Channel) : Byte := if level = .closed then 0x01#8 else 0x00#8
                Occurrences 4 [[u8 n.val, code s.stop.lines[n].a, code s.stop.lines[n].b]] s t)
              ∧ t.pose = s.pose ∧ t.env = s.env ∧ t.lens = s.lens ∧ t.cycle = s.cycle ∧ t.link = s.link)
        ∧ (¬IsDue s.stop.lines[n].window s.timebase → exec (.discrepancyWindowExpiry n) s = .next s)

/-- The sync timer's expiry and the substitute timer's (R7, R115, R116): each originates a substitute CYC, numbered
one past the last number or 0, with the timecode, the interval and the sequence error count as they stand, the arrival
time invalid, grip RELEASED and console stop clear, and starts the substitute timer with the measured interval; the
sync timer's makes SYNC_LOST present and stands expired. The composed frame, with address 63, is offered to the D
queue before the blocks take the arrival, unless the part is then PARKED (R8), and each block takes it once, in the
order that the command carries (assumption logs 3 and 9); its four cue bytes of 00h are the model's choice (log 17).
After a CYC received on U, the sync timer is started again and the substitute timer stopped, so an expiry of either
that still waits brings nothing about (R117); that any expiry whose timer is not due does so is the model's choice
(assumption log 4). -/
def Obligations.SubstitutesAreOriginated : Prop :=
  ∀ (s : State) (order : List CycBlock),
    let number : CycleNo := match s.cycle.last with | some c => c + 1 | none => 0
    let frame : Frame :=
      ⟨.cyc, 63#8, natBE 2 number.toNat ++ s.cycle.timecode.bytes ++ List.replicate 6 0x00#8⟩
    let arrival : Arrival := ⟨false, ⟨number, s.cycle.timecode, false, false, []⟩, s.cycle.last.map fun _ => 1⟩
    let taken (s1 t : State) : Prop :=
      let s2 : State := { s1 with cycle := { s1.cycle with last := some number, arrival := none } }
      ∃ (blocks : List CycBlock) (s0 u : State),
        blocks.Perm cycBlocks ∧ (order.Perm cycBlocks → blocks = order)
          ∧ (s1.stop.state = .parked → s0 = s2) ∧ (s1.stop.state ≠ .parked → s0 = offerQueueD frame s2)
          ∧ u = blocks.foldl (cycTaken arrival) s0
          ∧ t = { u with stop := { u.stop with substituteTimer := .running s.timebase s.cycle.interval } }
    let originated (t : State) : Prop :=
      t.cycle =
          { last := some number
            timecode := s.cycle.timecode, arrival := none, interval := s.cycle.interval
            sequenceErrors := s.cycle.sequenceErrors }
        ∧ t.stop.substituteTimer = .running s.timebase s.cycle.interval
        ∧ t.stop.gripHeld = false ∧ Mirrors t .grip true ∧ t.stop.consoleStop = false ∧ Mirrors t .consoleStop false
        ∧ (∀ k : Fin 10,
          t.pose.entries[k] =
            { s.pose.entries[k] with
              age :=
                if s.pose.entries[k].present then min 15 (s.pose.entries[k].age + 1) else s.pose.entries[k].age })
        ∧ t.env = s.env ∧ t.cues = s.cues ∧ t.timebase = s.timebase ∧ t.pins = s.pins
    (IsDue s.stop.syncTimer s.timebase →
        Nexts (exec (.syncTimerExpiry order) s) fun t =>
          originated t ∧ t.stop.syncTimer = .expired ∧ Mirrors t .syncLost true
            ∧ taken (causeEnters .syncLost { s with stop := { s.stop with syncTimer := .expired } }) t)
      ∧ (¬IsDue s.stop.syncTimer s.timebase → exec (.syncTimerExpiry order) s = .next s)
      ∧ (IsDue s.stop.substituteTimer s.timebase →
        Nexts (exec (.substituteTimerExpiry order) s) fun t =>
          originated t ∧ t.stop.syncTimer = s.stop.syncTimer
            ∧ t.stop.present[Cause.syncLost.code] = s.stop.present[Cause.syncLost.code] ∧ taken s t)
      ∧ (¬IsDue s.stop.substituteTimer s.timebase → exec (.substituteTimerExpiry order) s = .next s)
      ∧ ∀ (now : Nat) (taken : List CycBlock) (f : Frame), s.spine.receivingU = [] → f.kind = .cyc →
        f.payload.length = 12 → 1 ≤ s.stop.config.syncTimeout →
        Nexts (exec (.cycReceived now taken f.wire) s) fun t =>
          exec (.syncTimerExpiry order) t = .next t ∧ exec (.substituteTimerExpiry order) t = .next t

/-- The inputs and the lamps (R68, R121, R188): a presence input takes its level and nothing else changes; the service
key takes its level and the lock stands; a flashing lamp goes on or off for the times that the table gives its
pattern, each part beginning where the one before it ended; a part that is not due goes on (the model's choice,
assumption log 4), and a steady lamp does nothing. A lamp given another pattern begins it at once, a flashing one with
the lamp on, and the same pattern is not restarted. -/
def Obligations.InputsAndLampsChange : Prop :=
  let flashing : List (Pattern × Nat × Nat) :=
    [(.b025, 500, 3500), (.b05, 500, 1500), (.b1, 500, 500), (.b2, 250, 250), (.b4, 125, 125)]
  (∀ s : State,
      (∀ (i : Fin 8) (asserted : Bool),
          exec (.presenceInputChange i asserted) s =
            .next { s with pins := { s.pins with presence := s.pins.presence.set i.val asserted } })
        ∧ (∀ asserted : Bool,
          exec (.serviceKeyChange asserted) s = .next { s with pins := { s.pins with serviceKey := asserted } })
        ∧ ∀ name : LampName,
          let l : Lamp := match name with | .amber => s.stop.amber | .red => s.stop.red
          let withLamp (x : Lamp) : State :=
            { s with
              stop := match name with | .amber => { s.stop with amber := x } | .red => { s.stop with red := x } }
          (∀ (p : Pattern) (on off start duration : Nat), (p, on, off) ∈ flashing → l.pattern = p →
              l.phase = .running start duration →
              (start + duration ≤ s.timebase →
                  exec (.lampPatternPeriod name) s =
                    .next (withLamp ⟨p, !l.lit, .running (start + duration) (if l.lit then off else on)⟩))
                ∧ (s.timebase < start + duration → exec (.lampPatternPeriod name) s = .next s))
            ∧ (l.pattern = .on ∨ l.pattern = .off ∨ l.phase.isRunning = false →
              exec (.lampPatternPeriod name) s = .next s))
    ∧ ∀ (now : Nat) (l : Lamp) (p : Pattern),
      (l.pattern = p → l.take now p = l)
        ∧ (l.pattern ≠ p →
          (∀ on off : Nat, (p, on, off) ∈ flashing → l.take now p = ⟨p, true, .running now on⟩)
            ∧ (p = .on → l.take now p = ⟨.on, true, .stopped⟩) ∧ (p = .off → l.take now p = ⟨.off, false, .stopped⟩))

/-! ## Resets -/

/-- The cold reset (R96, R124, and the cold-reset values of every block): every record takes its values of
`State.reset`, but for the levels found; the present set holds CREW_STOPn for each line not CLEAR, LINK_D,
UNCONFIGURED and GRIP, and the trip set is equal to it. The timebase at 0, the waiting commands kept and the values
behind invalid marks (assumption log 2), the pattern generator at 0 (log 6) and the timecodes of the notice entries
(log 12) are the model's choices. -/
def Obligations.ColdResetSetsEveryRecord : Prop :=
  ∀ s : State, Nexts (exec .coldReset s) fun t =>
    t.pending = s.pending ∧ t.pins = s.pins ∧ t.timebase = 0 ∧ t.spine = State.reset.spine
      ∧ t.cycle = State.reset.cycle ∧ t.pose = State.reset.pose ∧ t.env = State.reset.env ∧ t.gate = State.reset.gate
      ∧ t.lens = State.reset.lens ∧ t.store = State.reset.store ∧ t.recorder = State.reset.recorder
      ∧ t.player = State.reset.player ∧ t.cues = State.reset.cues ∧ t.mgmt = State.reset.mgmt
      ∧ t.notices = State.reset.notices
      ∧ t.link =
        { State.reset.link with
          u := { State.reset.link.u with signal := s.link.u.signal }
          d := { State.reset.link.d with signal := s.link.d.signal } }
      ∧ t.stop =
        { State.reset.stop with lines := t.stop.lines, present := t.stop.present, trip := t.stop.present }
      ∧ (∀ n : Fin 4,
        t.stop.lines[n].a = s.stop.lines[n].a ∧ t.stop.lines[n].b = s.stop.lines[n].b
          ∧ t.stop.lines[n].latch = .absent
          ∧ t.stop.lines[n].window = if s.stop.lines[n].a = s.stop.lines[n].b then .stopped else .running 0 50)
      ∧ ∀ c : Fin 21,
        t.stop.present[c] =
          (decide (c = Cause.linkD.code ∨ c = Cause.unconfigured.code ∨ c = Cause.grip.code)
            || (List.finRange 4).any fun n =>
              decide (c = (Cause.crewStop n).code)
                && !decide (s.stop.lines[n].a = .closed ∧ s.stop.lines[n].b = .closed))

/-- The state after reset, which a cold reset of it leaves (the cold-reset values of the chapters on cycles, ports,
axes and pose, zones and speed scale, gate, stop supervision, lenses, takes, player, cue slots, management and
notices): the values that they give, record by record, a field that they give as absent or invalid being none, or in a
record marked so; and every invariant below holds of it. That the lines are found closed is the model's choice
(assumption log 2). -/
def Obligations.ResetStateIsAsStated : Prop :=
  let s := State.reset
  exec .coldReset s = .next s ∧ s.stop.state = .cut ∧ s.stop.driveEnable = false ∧ s.stop.trip = s.stop.present
    ∧ s.stop.gesture = ⟨.double, 15, 15, 25⟩ ∧ s.stop.config = ⟨100, 5000, 50, 8, 100, 1000, 16⟩
    ∧ s.stop.syncTimer = .stopped ∧ s.stop.rampTimer = .stopped ∧ s.stop.substituteTimer = .stopped
    ∧ s.cycle =
      { last := none, timecode := ⟨0x00#8, 0x00#8, 0x00#8, 0x00#8⟩, arrival := none, interval := 20, sequenceErrors := 0 }
    ∧ s.link.d.state = .down ∧ s.link.u.state = .down
    ∧ (∀ k : Fin 10,
      s.pose.axes[k] =
          { valid := false, softMin := 0, softMax := 0, stepMax := 0, deceleration := 0, standstill := 0, ageLimit := 0
            followThreshold := 0, followLag := 0, inPosition := 0, cueScale := 0, unitMultiplier := 0, unitShift := 0 }
        ∧ s.gate.last[k] = none)
    ∧ s.env.scale = ⟨16, 16, 16, 16⟩ ∧ s.store.free = List.range 3072
    ∧ (∀ t : Fin 32,
      s.store.takes[t].state = .empty ∧ s.store.takes[t].locked = false ∧ s.store.takes[t].chain = []
        ∧ s.store.takes[t].endReason = none)
    ∧ s.recorder.state = .idle ∧ s.recorder.take = none ∧ s.recorder.openCycle = none
    ∧ s.player.state = .idle ∧ s.player.take = none ∧ s.player.mask = FlagSet.empty 10 ∧ s.player.index = 0
    ∧ s.player.goPending = false ∧ s.player.suspendedFrom = none ∧ s.player.clamped = false
    ∧ s.mgmt.requests = [] ∧ s.mgmt.replies = [] ∧ s.mgmt.locked = false ∧ s.spine.forward = []
    ∧ s.spine.queueD = [] ∧ s.spine.brake = none ∧ (∀ k : Fin 7, s.spine.decel[k] = none) ∧ s.pending = []
    ∧ (s.stop.lampMap =
        #v[⟨.off, .on⟩, ⟨.off, .b4⟩, ⟨.off, .b1⟩, ⟨.off, .b025⟩, ⟨.b2, .off⟩, ⟨.b1, .off⟩, ⟨.b05, .off⟩, ⟨.on, .off⟩,
          ⟨.off, .off⟩]
      ∧ s.stop.lampCondition = .cut ∧ s.stop.amber.pattern = .off ∧ s.stop.red.pattern = .on
      ∧ s.stop.gripHeld = false ∧ s.stop.consoleStop = false ∧ s.stop.detector = ⟨.waitRelease, 0⟩
      ∧ s.stop.standstill = FlagSet.empty 7 ∧ (∀ n : Fin 4, s.stop.lines[n] = ⟨.closed, .closed, .stopped, .absent⟩)
      ∧ ∀ c : Fin 21,
        s.stop.present[c] = decide (c = Cause.linkD.code ∨ c = Cause.unconfigured.code ∨ c = Cause.grip.code))
    ∧ (s.notices.config = ⟨1, true, true, true, true, none, FlagSet.empty 17⟩
      ∧ ∀ k : Fin 17,
        s.notices.entries[k].pending = false ∧ s.notices.entries[k].sent = false ∧ s.notices.entries[k].count = 0
          ∧ s.notices.entries[k].detail = [])
    ∧ (s.link.thresholds = ⟨0, 0, 0, 0, 0, 0, 0⟩ ∧ s.link.testErrors = 0
      ∧ ∀ p : Port,
        s.link.port p = ⟨.down, (s.link.port p).signal, 0, 0, 0, 0, false, false, 0, 0, 0, .stopped, .stopped⟩)
    ∧ ((∀ z : Fin 24,
        s.env.zones[z].enabled = false ∧ s.env.zones[z].kind = .obstacle
          ∧ s.env.zones[z].box = ⟨⟨0, 0, 0⟩, ⟨0, 0, 0⟩⟩ ∧ s.env.zones[z].presence = none
          ∧ s.env.zones[z].band = 0 ∧ s.env.zones[z].factor = 16)
      ∧ s.env.evaluation.evaluated = false ∧ s.env.evaluation.cycle = none ∧ s.env.evaluation.p = none
      ∧ s.env.evaluation.q = none ∧ s.env.evaluation.swept = none ∧ (∀ i : Fin 8, s.env.evaluation.sample[i] = false)
      ∧ s.env.evaluation.factor = 16 ∧ s.env.evaluation.skipped = 0
      ∧ ∀ z : Fin 24, s.env.evaluation.zones[z] = .clear)
    ∧ ((∀ i : Fin 3,
        s.lens.curves[i] =
            { valid := false, points := [], identity := #v[0x00#8, 0x00#8, 0x00#8, 0x00#8], fingerprint := 0 }
          ∧ s.lens.fault[i] = false ∧ s.lens.stale[i] = false
          ∧ s.lens.endReached[i] = false)
      ∧ (∀ k : Fin 4, s.lens.subjects[k] = ⟨⟨0, 0, 0⟩, 0⟩) ∧ s.lens.follow = ⟨false, none, ⟨0, 0, 0⟩, 0, 0, none⟩)
    ∧ (s.pose.geometry = { valid := false, pivot := ⟨0, 0, 0⟩, headDrop := 0, headRadius := 0 }
      ∧ s.pose.set.isOpen = false ∧ s.pose.set.cycle = none ∧ (∀ k : Fin 4, s.pose.set.captured[k] = none)
      ∧ s.pose.completed.valid = false
      ∧ ∀ k : Fin 10,
        s.pose.entries[k] = { present := false, position := 0, velocity := 0, status := .ready, echo := 0, age := 15 }
          ∧ s.gate.clamps[k] = 0
          ∧ s.gate.withheld[k] = 0 ∧ s.gate.overridden[k] = 0)
    ∧ (s.gate.refusals = 0 ∧ s.mgmt.drops = 0 ∧ ∀ n : Fin 8, s.cues[n] = ⟨[], none, 0⟩)
    ∧ (∀ a : Nat, readWord s.store.words a = 0)
    ∧ (CutStands s ∧ PresentSetAgrees s ∧ DriveEnableAgrees s ∧ TripSetAgrees s ∧ TimersAgree s ∧ LampsAgree s)
    ∧ (LimitsHeld s ∧ CutForgets s ∧ PagesConserved s ∧ TakesAgree s ∧ PortsAgree s ∧ MemoryCanonical s)
    ∧ (QueuesBounded s ∧ AgesBounded s ∧ ScaleAgrees s ∧ RingsBounded s ∧ SlotsAgree s ∧ ChainsAgree s)
    ∧ StaleAgrees s

/-- The warm reset (R124, R190): where the RESET reply has been transmitted, each block keeps and clears what the
manual says, the stop state is CUT with MGMT_CUT present, and the trip set is equal to the present set; elsewhere the
command changes nothing (the model's choice, assumption log 4). A frame in reception on U or D is received to its end,
and one in transmission sent to its end, but for the RESET reply on U, whose transmission is complete and leaves the
transmitter idle (R1, R15, R17). The lamps take the patterns of CUT, and a pattern that stands is not restarted
(R121). -/
def Obligations.WarmResetKeepsAndClears : Prop :=
  ∀ s : State,
    (s.mgmt.reset ≠ .transmitted → s.spine.sendingU.any (·.ofReset) = false → exec .warmReset s = .next s)
      ∧ (s.mgmt.reset = .transmitted ∨ s.spine.sendingU.any (·.ofReset) = true →
        Nexts (exec .warmReset s) fun t =>
          t.pending = s.pending ∧ t.timebase = s.timebase ∧ t.pins = s.pins ∧ t.link = s.link
            ∧ t.cycle = { s.cycle with last := none, arrival := none }
            ∧ t.spine.forward = [] ∧ t.spine.brake = none ∧ (∀ k : Fin 7, t.spine.decel[k] = none)
            ∧ t.spine.queueD = [] ∧ t.spine.sendingD = s.spine.sendingD
            ∧ t.spine.sendingU = (if s.spine.sendingU.any (·.ofReset) then none else s.spine.sendingU)
            ∧ t.spine.receivingU = s.spine.receivingU ∧ t.spine.receivingD = s.spine.receivingD
            ∧ t.stop.lampCondition = .cut
            ∧ t.stop.amber = s.stop.amber.take s.timebase s.stop.lampMap[0].amber
            ∧ t.stop.red = s.stop.red.take s.timebase s.stop.lampMap[0].red
            ∧ t.pose.axes = s.pose.axes ∧ t.pose.geometry = s.pose.geometry
            ∧ t.pose.entries = Vector.replicate 10 PoseEntry.initial ∧ t.pose.set = PoseSet.initial
            ∧ t.pose.completed.valid = false
            ∧ t.env.zones = s.env.zones ∧ t.env.evaluation = Evaluation.initial
            ∧ t.env.scale.zone = 16 ∧ t.env.scale.trim = 16
            ∧ t.env.scale.link = (if s.link.d.state = .degraded then s.stop.config.degradeFactor else 16)
            ∧ t.env.scale.effective = min 16 t.env.scale.link
            ∧ t.gate = { s.gate with last := Vector.replicate 10 none }
            ∧ t.stop.state = .cut ∧ t.stop.driveEnable = false ∧ t.stop.trip = t.stop.present
            ∧ Mirrors t .mgmtCut true ∧ Mirrors t .linkD s.link.d.state.isDown ∧ Mirrors t .driveFault false
            ∧ Mirrors t .grip (!s.stop.gripHeld) ∧ Mirrors t .consoleStop s.stop.consoleStop
            ∧ Mirrors t .unconfigured s.pose.unconfigured ∧ Mirrors t .zone false ∧ Mirrors t .syncLost false
            ∧ Mirrors t .feedbackLost ((List.finRange 7).any fun k => s.pose.axes[k.val].valid)
            ∧ (∀ n : Fin 4,
              Mirrors t (.crewStop n) (s.stop.lines[n].state != .clear)
                ∧ Mirrors t (.lineFault n) (s.stop.lines[n].latch != .absent))
            ∧ t.stop.lines = s.stop.lines ∧ t.stop.gripHeld = s.stop.gripHeld
            ∧ t.stop.consoleStop = s.stop.consoleStop ∧ t.stop.gesture = s.stop.gesture
            ∧ t.stop.lampMap = s.stop.lampMap ∧ t.stop.config = s.stop.config
            ∧ t.stop.syncTimer = .running s.timebase s.stop.config.syncTimeout ∧ t.stop.substituteTimer = .stopped
            ∧ t.stop.rampTimer = .stopped ∧ t.stop.detector = ⟨.waitRelease, 0⟩
            ∧ t.lens.curves = s.lens.curves ∧ t.lens.subjects = s.lens.subjects ∧ t.lens.follow = Follow.initial
            ∧ (∀ i : Fin 3, t.lens.fault[i] = false ∧ t.lens.stale[i] = false ∧ t.lens.endReached[i] = false)
            ∧ t.store.words = s.store.words ∧ t.recorder = Recorder.initial ∧ t.player = Player.initial
            ∧ (∀ n : Fin 8, t.cues[n] = { s.cues[n] with progress := 0 })
            ∧ t.mgmt = { s.mgmt with requests := [], replies := [], erasing := none, reset := .none }
            ∧ t.notices.config = s.notices.config)

/-- R152: a warm reset empties every LOADING take and returns its pages, the takes in ascending number and each chain
in its order. The take of a recording under way is closed with end reason INTERRUPTED, its samples, chain and words as
written (R160, R190), and every other take and every word stands. -/
def Obligations.WarmResetErasesLoadingTakes : Prop :=
  ∀ s : State, TakesAgree s → warmResetDue s = true →
    Nexts (exec .warmReset s) fun t =>
      t.store.free =
          s.store.free
            ++ (List.finRange 32).flatMap
              (fun k => if s.store.takes[k].state = .loading then s.store.takes[k].chain else [])
        ∧ t.store.words = s.store.words ∧ t.recorder = Recorder.initial
        ∧ ∀ k : Fin 32,
          (s.store.takes[k].state = .loading → t.store.takes[k] = Take.initial)
            ∧ (s.recorder.state = .recording → s.recorder.take = some k →
              t.store.takes[k] = { s.store.takes[k] with state := .closed, endReason := some .interrupted })
            ∧ (s.store.takes[k].state ≠ .loading → s.recorder.state ≠ .recording ∨ s.recorder.take ≠ some k →
              t.store.takes[k] = s.store.takes[k])


/-! ## Link supervision -/

/-- The changes of port state (R25 to R32): what each leaves of the port record, those into and out of TEST apart, and
the detail of notice 13; LINK_D and the link component follow the D port. A frame that changes no port state is
counted (R25 to R28): the good run, the bad run, the window frames and the window errors; one that reaches a bound
acts as EIGHT_GOOD, WINDOW or BAD_RUN. That the bad run stands as it is in DOWN, at 4 after four bad frames, and that
the counters of a bad frame are raised first, are the model's choices (assumption logs 16 and 9). Where its condition
does not hold, EIGHT_GOOD, BAD_RUN or WINDOW changes nothing (the model's choice, assumption log 4), and neither does
the expiry of a timer that is not due. Signal lost and regained (R1, R25, R26, R27, R38): the partial frame is
discarded, a port in ACQUIRING, UP or DEGRADED goes DOWN, one in DOWN loses its good run, and in TEST the checker
stops; regained, the signal is present, and in TEST the fifteen-bit collection restarts. No counter of the port
changes. -/
def Obligations.PortStatesChange : Prop :=
  (∀ (s : State) (p : Port),
      let r := s.link.port p
      let reaches (i : Instr) (r' : PortRecord) (reason : Byte) : Prop :=
        Nexts (exec i s) fun t =>
          t.link.port p = r'
            ∧ (s.spine.sendingU.isSome = true →
              t.notices.entries[13].pending = true
                ∧ t.notices.entries[13].detail = [portCode p, r.state.code, r'.state.code, reason])
            ∧ (p = .d → Mirrors t .linkD r'.state.isDown
              ∧ t.env.scale.link = (if r'.state = .degraded then s.stop.config.degradeFactor else 16)
              ∧ ScaleAgrees t)
            ∧ (p = .u → t.env = s.env ∧ t.link.d = s.link.d)
            ∧ t.pose = s.pose ∧ t.lens = s.lens ∧ t.cues = s.cues ∧ t.pins = s.pins
      let down : PortRecord :=
        { r with
          state := .down, goodRun := 0, windowFrames := 0, windowErrors := 0, holdPassed := false, lockHeld := false
          linkUpTimer := .stopped, holdTimer := .stopped }
      (r.state = .down → 7 ≤ r.goodRun →
          reaches (.eightGood p)
            { r with
              state := .acquiring, goodRun := 0, lockHeld := false
              linkUpTimer := .running s.timebase s.stop.config.linkUpTime }
            0x00#8)
        ∧ (r.state ≠ .down ∨ r.goodRun < 7 → exec (.eightGood p) s = .next s)
        ∧ (IsDue r.linkUpTimer s.timebase →
          reaches (.linkUpTimerExpiry p)
            { r with
              state := .up, badRun := 0, windowFrames := 0, windowErrors := 0, holdPassed := false
              linkUpTimer := .stopped }
            0x01#8)
        ∧ (¬IsDue r.linkUpTimer s.timebase → exec (.linkUpTimerExpiry p) s = .next s)
        ∧ (∀ why : BadReason, r.state = .up ∨ r.state = .degraded → 3 ≤ r.badRun →
          reaches (.badRun p why)
            { down with
              badRun := r.badRun + 1, errored := satInc 65535 r.errored
              unknownKind := if why = .kind then satInc 65535 r.unknownKind else r.unknownKind }
            0x03#8)
        ∧ (∀ why : BadReason, (r.state ≠ .up ∧ r.state ≠ .degraded) ∨ r.badRun < 3 →
          exec (.badRun p why) s = .next s)
        ∧ (r.state = .up ∨ r.state = .degraded → r.windowFrames = 1023 →
          let ended : PortRecord := { r with badRun := 0, windowFrames := 0, windowErrors := 0 }
          (r.state = .up → s.stop.config.highError ≤ r.windowErrors →
              reaches (.window p none)
                { ended with
                  state := .degraded, holdPassed := false
                  holdTimer := .running s.timebase s.stop.config.degradeHold }
                0x05#8)
            ∧ (r.state = .degraded → r.windowErrors < s.stop.config.highError → r.holdPassed = true →
              reaches (.window p none) { ended with state := .up, holdPassed := false } 0x05#8)
            ∧ (r.state = .up ∧ r.windowErrors < s.stop.config.highError
                ∨ r.state = .degraded ∧ (s.stop.config.highError ≤ r.windowErrors ∨ r.holdPassed = false) →
              exec (.window p none) s = .next { s with link := s.link.setPort p ended }))
        ∧ (∀ why : BadReason, r.state = .up ∨ r.state = .degraded → r.windowFrames = 1023 →
          let ended : PortRecord :=
            { r with
              badRun := r.badRun + 1, windowFrames := 0, windowErrors := 0, errored := satInc 65535 r.errored
              unknownKind := if why = .kind then satInc 65535 r.unknownKind else r.unknownKind }
          (3 ≤ r.badRun → exec (.window p (some why)) s = .next s)
            ∧ (r.badRun < 3 → r.state = .up → s.stop.config.highError ≤ r.windowErrors + 1 →
              reaches (.window p (some why))
                { ended with
                  state := .degraded, holdPassed := false
                  holdTimer := .running s.timebase s.stop.config.degradeHold }
                0x05#8)
            ∧ (r.badRun < 3 → r.state = .degraded → r.windowErrors + 1 < s.stop.config.highError →
              r.holdPassed = true → reaches (.window p (some why)) { ended with state := .up, holdPassed := false } 0x05#8)
            ∧ (r.badRun < 3 →
              r.state = .up ∧ r.windowErrors + 1 < s.stop.config.highError
                ∨ r.state = .degraded ∧ (s.stop.config.highError ≤ r.windowErrors + 1 ∨ r.holdPassed = false) →
              Nexts (exec (.window p (some why)) s) fun t =>
                t.link.port p = ended ∧ t.env = s.env ∧ t.pose = s.pose ∧ t.lens = s.lens ∧ t.cues = s.cues))
        ∧ (∀ judged : Option BadReason, (r.state ≠ .up ∧ r.state ≠ .degraded) ∨ r.windowFrames < 1023 →
          exec (.window p judged) s = .next s)
        ∧ (IsDue r.holdTimer s.timebase →
          exec (.degradeHoldTimerExpiry p) s =
            .next { s with link := s.link.setPort p { r with holdPassed := true, holdTimer := .stopped } })
        ∧ (¬IsDue r.holdTimer s.timebase → exec (.degradeHoldTimerExpiry p) s = .next s)
        ∧ (r.state = .acquiring ∨ r.state = .up ∨ r.state = .degraded →
          reaches (.signalLost p) { down with signal := false } 0x04#8)
        ∧ (r.state = .acquiring → ∀ (why : BadReason) (bytes : List Byte), s.spine.receiving p = [] →
          receive p bytes = .judged (.bad why) →
          Nexts (exec (.badFrame p bytes false) s) fun t =>
            t.link.port p =
                { down with
                  errored := satInc 65535 r.errored
                  unknownKind := if why = .kind then satInc 65535 r.unknownKind else r.unknownKind }
              ∧ (s.spine.sendingU.isSome = true →
                t.notices.entries[13].pending = true
                  ∧ t.notices.entries[13].detail = [portCode p, 0x01#8, 0x00#8, 0x02#8])
              ∧ (p = .d → Mirrors t .linkD true ∧ t.env.scale.link = 16 ∧ ScaleAgrees t)
              ∧ (p = .u → t.env = s.env ∧ t.link.d = s.link.d)
              ∧ t.pose = s.pose ∧ t.lens = s.lens ∧ t.pins = s.pins))
    ∧ (∀ (s : State) (p : Port),
      let r := s.link.port p
      let counted (x : PortRecord) : State := { s with link := s.link.setPort p x }
      let up : Prop := (r.state = .up ∨ r.state = .degraded) ∧ r.windowFrames < 1023
      (r.state = .down → r.goodRun < 7 → linkGood p s = counted { r with goodRun := r.goodRun + 1 })
        ∧ (r.state = .down → 7 ≤ r.goodRun → exec (.eightGood p) s = .next (linkGood p s))
        ∧ (r.state = .acquiring ∨ r.state = .test → linkGood p s = s)
        ∧ (r.state = .up ∨ r.state = .degraded → 1023 ≤ r.windowFrames →
          exec (.window p none) s = .next (linkGood p s)
            ∧ ∀ why : BadReason, r.badRun < 3 → exec (.window p (some why)) s = .next (linkBad p why s))
        ∧ (r.state = .up ∨ r.state = .degraded → 3 ≤ r.badRun →
          ∀ why : BadReason, exec (.badRun p why) s = .next (linkBad p why s))
        ∧ (up → linkGood p s = counted { r with badRun := 0, windowFrames := r.windowFrames + 1 })
        ∧ ∀ why : BadReason,
          let bad : PortRecord :=
            { r with
              errored := satInc 65535 r.errored
              unknownKind := if why = .kind then satInc 65535 r.unknownKind else r.unknownKind }
          let t := linkBad p why s
          (r.state = .down → t.link.port p = { bad with goodRun := 0 })
            ∧ (up → r.badRun < 3 →
              t.link.port p =
                { bad with
                  badRun := r.badRun + 1, windowFrames := r.windowFrames + 1, windowErrors := r.windowErrors + 1 })
            ∧ (r.state = .down ∨ (up ∧ r.badRun < 3) →
              t.env = s.env ∧ t.link.test = s.link.test ∧ t.link.thresholds = s.link.thresholds
                ∧ (p = .u → t.link.d = s.link.d) ∧ (p = .d → t.link.u = s.link.u)))
    ∧ (∀ (s : State) (p : Port), (p = .u → s.link.u.state ≠ .test) →
      let r := s.link.port p
      (Nexts (exec (.signalLost p) s) fun t =>
          t.spine.receiving p = []
            ∧ (r.state = .down → t.link.port p = { r with signal := false, goodRun := 0 } ∧ t.env = s.env)
            ∧ (r.state = .test → t.link.port p = { r with signal := false } ∧ t.env = s.env)
            ∧ (r.state = .test →
              t.link.test = { s.link.test with checking := false, latest := [] } ∧ t.stop = s.stop
                ∧ t.link.testErrors = s.link.testErrors)
            ∧ (r.state ≠ .test → t.link.test = s.link.test)
            ∧ t.pose = s.pose ∧ t.lens = s.lens ∧ t.cues = s.cues)
        ∧ (r.state ≠ .test →
          exec (.signalRegained p) s = .next { s with link := s.link.setPort p { r with signal := true } })
        ∧ (r.state = .test → p = .d →
          exec (.signalRegained p) s =
            .next
              { s with
                link :=
                  { s.link with
                    d := { r with signal := true }
                    test := { s.link.test with checking := true, latest := [] } } }))

/-- The link test (R37, R38, R39): START is accepted in CUT with the D port not in TEST, and leaves it in TEST with
the test errors, the runs, the window and the D transmitter's entries and queue empty and LINK_D present; STOP is
accepted in TEST and leaves the port DOWN with the test errors as they stand; otherwise either is refused. A bit
received in TEST is collected, and once fifteen are held it is compared with the exclusive-OR of the bits 14 and 15
places before it. One generator step for each received bit, and no effect of a bit outside TEST, are the model's
choices (assumption logs 6 and 4). START and STOP raise notice 13 with the port D, the previous and the new state, and
the reason TEST_START or TEST_STOP (R30). A generator step makes the next bit the exclusive-OR of the bits 14 and 15
places before it and moves the others up by one place (R38). -/
def Obligations.LinkTestsRun : Prop :=
  (∀ (s s' : State) (tag : Byte), Takes s ⟨tag, 0x1B#8, []⟩ s' →
      (s.stop.state ≠ .cut ∨ s.link.d.state = .test → Replies .linkTestStart s tag .refused [] s')
        ∧ (s.stop.state = .cut → s.link.d.state ≠ .test →
          ∃ t : State, Replies .linkTestStart s tag .ok [] t
            ∧ t.link.d =
              { s.link.d with
                state := .test, goodRun := 0, badRun := 0, windowFrames := 0, windowErrors := 0, holdPassed := false
                lockHeld := false, linkUpTimer := .stopped, holdTimer := .stopped }
            ∧ t.link.testErrors = 0 ∧ t.link.test = ⟨0x7FFF#15, s.link.d.signal, []⟩ ∧ t.link.u = s.link.u
            ∧ t.spine.brake = none ∧ (∀ k : Fin 7, t.spine.decel[k] = none) ∧ t.spine.queueD = []
            ∧ t.spine.sendingD = s.spine.sendingD ∧ t.spine.receivingD = []
            ∧ Mirrors t .linkD true ∧ t.stop.state = .cut ∧ t.env.scale.link = 16 ∧ t.pose = s.pose
            ∧ t.gate = s.gate ∧ t.lens = s.lens
            ∧ Occurrences 13 [[0x01#8, s.link.d.state.code, 0x04#8, 0x06#8]] s t))
    ∧ (∀ (s s' : State) (tag : Byte), Takes s ⟨tag, 0x1C#8, []⟩ s' →
      (s.link.d.state ≠ .test → Replies .linkTestStop s tag .refused [] s')
        ∧ (s.link.d.state = .test →
          ∃ t : State, Replies .linkTestStop s tag .ok [] t
            ∧ t.link.d = { s.link.d with state := .down, goodRun := 0, lockHeld := false }
            ∧ t.link.testErrors = s.link.testErrors ∧ t.link.test.checking = false ∧ t.link.u = s.link.u
            ∧ Mirrors t .linkD true ∧ t.env.scale.link = 16 ∧ t.pose = s.pose ∧ t.lens = s.lens
            ∧ Occurrences 13 [[0x01#8, 0x04#8, 0x00#8, 0x07#8]] s t))
    ∧ (∀ g : BitVec 15,
      (patternStep g).getLsbD 0 = Bool.xor (g.getLsbD 13) (g.getLsbD 14)
        ∧ ∀ n : Nat, n < 14 → (patternStep g).getLsbD (n + 1) = g.getLsbD n)
    ∧ ∀ (s : State) (bit : Bool),
      (s.link.d.state ≠ .test → exec (.linkTestBitReceived bit) s = .next s)
        ∧ (s.link.d.state = .test →
          let generator :=
            if s.spine.sendingD.isSome then s.link.test.generator else patternStep s.link.test.generator
          let held := s.link.test.latest
          (s.link.test.checking = false →
              exec (.linkTestBitReceived bit) s =
                .next { s with link := { s.link with test := { s.link.test with generator := generator } } })
            ∧ (s.link.test.checking = true →
              exec (.linkTestBitReceived bit) s =
                .next
                  { s with
                    link :=
                      { s.link with
                        test := { s.link.test with generator := generator, latest := (bit :: held).take 15 }
                        testErrors :=
                          if 15 ≤ held.length ∧ bit ≠ Bool.xor (held.getD 13 false) (held.getD 14 false) then
                            satInc 4294967295 s.link.testErrors
                          else s.link.testErrors } }))

/-! ## Requests: READ -/

/-- The READs of the axis table, the pose, the envelope and the stop supervision answer OK with the record as it
stands and change nothing, but that READ of EVALUATION with the clear option clears the skipped-pose count (R60, R63,
R77, R118, R121, R122, R123, R186). The READs of the lenses, the takes, the recorder, the player, the cue slots and
the notices answer OK with the record as it stands and change nothing, but that READ of LENS_STATUS clears every
end-reached flag (R128, R130, R135, R136, R143, R144, R153, R176, R177, R186, R193, R194). Every record that is read
only is laid out field by field: numbers most significant byte first and in two's complement, sets with bit k for
member k, names by their codes, flags 01h and 00h, an absent field as 00h and zero bytes (R19, R22, R23). The bytes of
the replies where R23 leaves room are the model's reading and choice (assumption logs 7, 8 and 19). -/
def Obligations.ReadsAnswerTheirRecords : Prop :=
  (∀ (s s' : State) (tag b : Byte) (clear : Bool),
      (∀ k : Fin 10, Takes s (readRequest tag 0x00#8 (u8 k.val) clear) s' →
          Replies .readAxis s tag .ok (axisRecordBytes k s.pose.axes[k]) s')
        ∧ (Takes s (readRequest tag 0x01#8 b clear) s' →
          Replies .readGeometry s tag .ok (geometryBytes s.pose.geometry) s')
        ∧ (∀ z : Fin 24, Takes s (readRequest tag 0x02#8 (u8 z.val) clear) s' →
          Replies .readZone s tag .ok (zoneBytes s.env.zones[z]) s')
        ∧ (Takes s (readRequest tag 0x03#8 b clear) s' →
          Replies .readStopConfig s tag .ok (stopConfigBytes s.stop.config) s')
        ∧ (Takes s (readRequest tag 0x04#8 b clear) s' →
          Replies .readGesture s tag .ok (gestureBytes s.stop.gesture) s')
        ∧ (Takes s (readRequest tag 0x05#8 b clear) s' →
          Replies .readLampMap s tag .ok (lampMapBytes s.stop.lampMap) s')
        ∧ (Takes s (readRequest tag 0x0B#8 b clear) s' → Replies .readPose s tag .ok (poseBytes s.pose) s')
        ∧ (Takes s (readRequest tag 0x0C#8 b clear) s' →
          Replies .readEvaluation s tag .ok (evaluationBytes s.env.evaluation)
            { s' with
              env :=
                { s.env with
                  evaluation :=
                    { s.env.evaluation with skipped := if clear then 0 else s.env.evaluation.skipped } } })
        ∧ (Takes s (readRequest tag 0x0D#8 b clear) s' →
          Replies .readSpeedScale s tag .ok
            [u8 s.env.scale.zone, u8 s.env.scale.link, u8 s.env.scale.trim, u8 s.env.scale.effective] s')
        ∧ (Takes s (readRequest tag 0x0E#8 b clear) s' →
          Replies .readStopStatus s tag .ok (stopStatusBytes s.stop) s'))
    ∧ (∀ (s s' : State) (tag b : Byte) (clear : Bool),
      (∀ i : Fin 3, Takes s (readRequest tag 0x06#8 (u8 (i.val + 7)) clear) s' →
          Replies .readCurve s tag .ok (curveBytes i s.lens.curves[i]) s')
        ∧ (∀ k : Fin 4, Takes s (readRequest tag 0x07#8 (u8 k.val) clear) s' →
          Replies .readSubject s tag .ok (subjectBytes s.lens.subjects[k]) s')
        ∧ (∀ n : Fin 8, Takes s (readRequest tag 0x08#8 (u8 n.val) clear) s' →
          Replies .readCueSlot s tag .ok (cueSlotBytes s.cues[n]) s')
        ∧ (Takes s (readRequest tag 0x09#8 b clear) s' →
          Replies .readNoticeConfig s tag .ok (noticeConfigBytes s.notices.config) s')
        ∧ (∀ k : Fin 10, Takes s (readRequest tag 0x0F#8 (u8 k.val) clear) s' →
          Replies .readPlayer s tag .ok (playerBytes s k) s')
        ∧ (Takes s (readRequest tag 0x10#8 b clear) s' → Replies .readRecorder s tag .ok (recorderBytes s.recorder) s')
        ∧ (∀ t : Fin 32, Takes s (readRequest tag 0x11#8 (u8 t.val) clear) s' →
          Replies .readTake s tag .ok (takeBytes s.store.takes[t]) s')
        ∧ (Takes s (readRequest tag 0x12#8 b clear) s' →
          Replies .readFreeCount s tag .ok (freeCountBytes s.store.free) s')
        ∧ (Takes s (readRequest tag 0x14#8 b clear) s' →
          Replies .readLensStatus s tag .ok (lensStatusBytes s.lens)
            { s' with lens := { s.lens with endReached := FlagSet.empty 3 } })
        ∧ (∀ k : Fin 17, Takes s (readRequest tag 0x15#8 (u8 k.val) clear) s' →
          Replies .readNotices s tag .ok (noticeBytes s.notices k) s'))
    ∧ ((∀ (n v : Nat), v < 2 ^ (8 * n) →
          (natBE n v).length = n ∧ ∀ j : Nat, j < n → (natBE n v)[j]? = some (u8 (v / 256 ^ (n - 1 - j))))
      ∧ (∀ (n : Nat) (v : Int), -(2 ^ (8 * n)) ≤ v → v < 2 ^ (8 * n) →
        intBE n v = natBE n (if v < 0 then v + 2 ^ (8 * n) else v).toNat)
      ∧ (∀ (m : FlagSet 10) (v : Nat), v < 2 ^ 10 → (∀ k : Fin 10, v.testBit k.val = m[k]) → axisSetBytes m = natBE 2 v)
      ∧ (∀ (m : FlagSet 21) (v : Nat), v < 2 ^ 21 → (∀ c : Fin 21, v.testBit c.val = m[c]) →
        causeSetBytes m = natBE 3 v)
      ∧ [DriveStatus.ready, .braked, .disabled, .fault].map DriveStatus.code = [0x00#8, 0x01#8, 0x02#8, 0x03#8]
      ∧ [ZoneState.clear, .approach, .intrude].map ZoneState.code = [0x00#8, 0x01#8, 0x02#8]
      ∧ [Channel.opened, .closed].map channelCode = [0x00#8, 0x01#8]
      ∧ [LineState.clear, .stop, .discrepant].map LineState.code = [0x00#8, 0x01#8, 0x02#8]
      ∧ [FaultLatch.absent, .awaitStop, .awaitClear].map FaultLatch.code = [0x00#8, 0x01#8, 0x02#8]
      ∧ [DetectorState.waitRelease, .armed, .pulse, .gap, .confirm].map DetectorState.code
          = [0x00#8, 0x01#8, 0x02#8, 0x03#8, 0x04#8]
      ∧ [LampCondition.cut, .ramp, .held, .parked, .zoneApproach, .playing, .recording, .runMoving, .runIdle].map
          LampCondition.index = List.finRange 9
      ∧ [Pattern.off, .b025, .b05, .b1, .b2, .b4, .on].map Pattern.code
          = [0x00#8, 0x01#8, 0x02#8, 0x03#8, 0x04#8, 0x05#8, 0x06#8]
      ∧ [PlayerState.idle, .cueing, .ready, .playing, .suspended, .holding].map PlayerState.code
          = [0x00#8, 0x01#8, 0x02#8, 0x03#8, 0x04#8, 0x05#8]
      ∧ [RecorderState.idle, .armed, .recording].map RecorderState.code = [0x00#8, 0x01#8, 0x02#8]
      ∧ [TakeState.empty, .recording, .loading, .closed, .erasing].map TakeState.code
          = [0x00#8, 0x01#8, 0x02#8, 0x03#8, 0x04#8]
      ∧ [EndReason.normal, .interrupted, .storeFull, .loaded].map EndReason.code = [0x00#8, 0x01#8, 0x02#8, 0x03#8])
    ∧ (let flag (v : Bool) : List Byte := if v then [0x01#8] else [0x00#8]
      let present (width : Nat) (v : Option (List Byte)) : List Byte :=
        match v with
        | some bytes => 0x01#8 :: bytes
        | none => 0x00#8 :: List.replicate width 0x00#8
      let cycle (c : CycleNo) : List Byte := natBE 2 c.toNat
      let point (p : Point) : List Byte := intBE 4 p.x ++ intBE 4 p.y ++ intBE 4 p.z
      let prints (v : Vector (Option (BitVec 16)) 3) : List Byte :=
        (List.finRange 3).flatMap fun i => present 2 (v[i].map fun x => natBE 2 x.toNat)
      let each (m : FlagSet 10) (item : Fin 10 → List Byte) : List Byte :=
        (List.finRange 10).flatMap fun k => if m[k] then item k else []
      (∀ p : Pose,
          let entry (e : PoseEntry) : List Byte :=
            flag e.present ++ intBE 4 e.position ++ intBE 3 e.velocity ++ [e.status.code] ++ cycle e.echo ++ natBE 1 e.age
          let captured (j : Fin 4) : Bool := p.set.captured[j].isSome
          poseBytes p =
            ((List.finRange 10).flatMap fun k => entry p.entries[k]) ++ flag p.set.isOpen
              ++ present 2 (p.set.cycle.map cycle)
              ++ axisSetBytes
                #v[captured 0, captured 1, captured 2, captured 3, false, false, false, false, false, false]
              ++ flag p.completed.valid ++ cycle p.completed.cycle
              ++ ((List.finRange 4).flatMap fun j => intBE 4 p.completed.motions[j].position)
              ++ ((List.finRange 4).flatMap fun j => intBE 3 p.completed.motions[j].velocity)
              ++ present 12 (p.completed.head.map point))
        ∧ (∀ e : Evaluation,
          let bounds (b : Box) : List Byte :=
            intBE 8 b.lo.x ++ intBE 8 b.hi.x ++ intBE 8 b.lo.y ++ intBE 8 b.hi.y ++ intBE 8 b.lo.z ++ intBE 8 b.hi.z
          evaluationBytes e =
            flag e.evaluated ++ present 2 (e.cycle.map cycle) ++ present 12 (e.p.map point) ++ present 12 (e.q.map point)
              ++ present 48 (e.swept.map bounds) ++ ((List.finRange 8).flatMap fun i => flag e.sample[i])
              ++ ((List.finRange 24).map fun z => e.zones[z].code) ++ natBE 1 e.factor ++ natBE 2 e.skipped)
        ∧ (∀ st : Stop,
          let line (r : LineRecord) : List Byte :=
            [channelCode r.a, channelCode r.b, r.state.code] ++ flag r.window.isRunning ++ [r.latch.code]
          let inRamp (width : Nat) (bytes : List Byte) : List Byte :=
            present width (if st.state = .ramp then some bytes else none)
          let still (k : Fin 7) : Bool := st.standstill[k]
          let sync : Byte := match st.syncTimer with | .running _ _ => 0x00#8 | .expired => 0x01#8 | .stopped => 0x02#8
          stopStatusBytes st =
            [st.state.code] ++ causeSetBytes st.present ++ causeSetBytes st.trip
              ++ ((List.finRange 4).flatMap fun n => line st.lines[n]) ++ flag st.driveEnable
              ++ inRamp 1 [if st.rampTimer.isRunning then 0x00#8 else 0x01#8]
              ++ inRamp 2 (cycle (st.entryCycle.getD 0))
              ++ inRamp 2
                (axisSetBytes
                  #v[still 0, still 1, still 2, still 3, still 4, still 5, still 6, false, false, false])
              ++ [sync] ++ flag st.substituteTimer.isRunning ++ flag st.gripHeld ++ flag st.consoleStop
              ++ [st.detector.state.code] ++ natBE 1 st.detector.count
              ++ [u8 st.lampCondition.index.val, st.amber.pattern.code, st.red.pattern.code])
        ∧ (∀ (i : Fin 3) (c : Curve),
          curveBytes i c =
            flag c.valid ++ natBE 1 c.points.length
              ++ (c.points.flatMap fun p => natBE (if i.val = 0 then 3 else 2) p.user ++ intBE 4 p.count)
              ++ c.identity.toList ++ natBE 2 c.fingerprint.toNat)
        ∧ (∀ (s : State) (k : Fin 10),
          let p := s.player
          playerBytes s k =
            [p.state.code] ++ present 1 (p.take.map fun t => [u8 t.val]) ++ axisSetBytes p.mask ++ natBE 3 p.index
              ++ present 3 (p.take.map fun t => natBE 3 s.store.takes[t].samples) ++ flag p.goPending
              ++ present 1 (p.suspendedFrom.map fun q => [q.code])
              ++ (if p.state = .idle then [0x00#8] else 0x01#8 :: each p.mask fun j => natBE 3 p.peaks[j])
              ++ flag p.clamped
              ++ (if p.mask[k] then
                  0x01#8 :: u8 p.rings[k].length :: p.rings[k].flatMap fun e => cycle e.cycle ++ intBE 4 e.value
                else [0x00#8]))
        ∧ (∀ r : Recorder,
          recorderBytes r =
            [r.state.code] ++ present 1 (r.take.map fun t => [u8 t.val])
              ++ present 2 (if r.state = .idle then none else some (axisSetBytes r.mask)) ++ prints r.prints
              ++ (if r.state = .idle then [0x00#8] else 0x01#8 :: each r.mask fun k => intBE 4 r.buffer[k])
              ++ present 2 (r.openCycle.map cycle)
              ++ present 2 (if r.state = .recording then some (natBE 2 r.repeats) else none))
        ∧ (∀ r : Take,
          let masked (width : Nat) (bytes : List Byte) : List Byte :=
            present width (if r.state = .empty then none else some bytes)
          takeBytes r =
            [r.state.code] ++ flag r.locked ++ masked 2 (axisSetBytes r.mask) ++ masked 1 (natBE 1 r.perPage)
              ++ masked 3 (natBE 3 r.samples) ++ natBE 2 r.chain.length ++ present 2 (r.chain[0]?.map (natBE 2))
              ++ present 2 (r.chain[r.chain.length - 1]?.map (natBE 2)) ++ masked 4 r.start.bytes ++ prints r.prints
              ++ present 1 (r.endReason.map fun e => [e.code]))
        ∧ (∀ free : List Nat,
          freeCountBytes free =
            natBE 2 free.length ++ present 2 (free[0]?.map (natBE 2))
              ++ present 2 (free[free.length - 1]?.map (natBE 2)))
        ∧ (∀ l : Lens,
          let status (i : Fin 3) : Byte := if l.fault[i] then 0x00#8 else if l.stale[i] then 0x01#8 else 0x02#8
          lensStatusBytes l =
            ((List.finRange 3).flatMap fun i =>
                [status i] ++ flag l.fault[i] ++ flag l.stale[i] ++ flag l.endReached[i] ++ flag l.curves[i].valid
                  ++ natBE 2 l.curves[i].fingerprint.toNat)
              ++ flag l.follow.on ++ present 1 (l.follow.preset.map fun k => [u8 k.val]) ++ point l.follow.subject
              ++ intBE 2 l.follow.trim ++ natBE 2 l.follow.trimLimit
              ++ present 9 (l.follow.latest.map fun f => cycle f.cycle ++ natBE 4 f.distance ++ natBE 3 f.user))
        ∧ (∀ (n : Notices) (k : Fin 17),
          let e := n.entries[k]
          noticeBytes n k =
            flag e.pending ++ flag e.sent ++ natBE 1 e.count ++ e.timecode.bytes ++ [u8 e.detail.length] ++ e.detail
              ++ flag (n.eligible k))
        ∧ ∀ tc : Timecode, tc.bytes = [tc.hours, tc.minutes, tc.seconds, tc.frames])

/-- The READs of the records that hold counts (R34, R35, R94, R187): the record as it stands, and after the capture,
with the clear option, its counts at 0; a READ of a port also sets its lock-held flag by the port's state. The records
are laid out field by field (R5, R23, R24, R35, R94, R187). That the READ of the management record reports itself as
executing (assumption log 11), and the bytes where R23 leaves room (assumption logs 7 and 19), are the model's reading
and choice. -/
def Obligations.ReadsOfCounts : Prop :=
  (let flag (v : Bool) : List Byte := if v then [0x01#8] else [0x00#8]
    let present (width : Nat) (v : Option (List Byte)) : List Byte :=
      match v with
      | some bytes => 0x01#8 :: bytes
      | none => 0x00#8 :: List.replicate width 0x00#8
    let port (r : PortRecord) : List Byte :=
      [r.state.code] ++ flag r.signal ++ natBE 1 r.goodRun ++ natBE 1 r.badRun ++ natBE 2 r.windowFrames
        ++ natBE 2 r.windowErrors ++ flag r.holdPassed ++ flag r.lockHeld ++ natBE 2 r.errored ++ natBE 2 r.unknownKind
        ++ natBE 2 r.queueDrops
    [PortState.down, .acquiring, .up, .degraded, .test].map PortState.code = [0x00#8, 0x01#8, 0x02#8, 0x03#8, 0x04#8]
      ∧ (∀ s : State,
        portBytes s .u =
            port s.link.u ++ present 2 (s.cycle.last.map fun c => natBE 2 c.toNat)
              ++ [s.cycle.timecode.hours, s.cycle.timecode.minutes, s.cycle.timecode.seconds, s.cycle.timecode.frames]
              ++ present 8 (s.cycle.arrival.map (natBE 8)) ++ natBE 2 s.cycle.interval ++ natBE 2 s.cycle.sequenceErrors
          ∧ portBytes s .d = port s.link.d ++ natBE 4 s.link.testErrors)
      ∧ (∀ g : Gate,
        gateBytes g =
          ((List.finRange 10).flatMap fun k => natBE 2 g.clamps[k] ++ natBE 2 g.withheld[k] ++ natBE 2 g.overridden[k])
            ++ natBE 2 g.refusals ++ (List.finRange 10).flatMap fun k => present 4 (g.last[k].map (intBE 4)))
      ∧ (∀ s : State,
        mgmtBytes s =
          natBE 2 s.mgmt.drops ++ [u8 s.mgmt.requests.length, u8 s.mgmt.replies.length, 0x01#8, 0x01#8]
            ++ flag s.mgmt.locked ++ flag s.pins.serviceKey)
      ∧ ∀ t : Thresholds,
        thresholdsBytes t =
          [t.erroredU, t.unknownU, t.dropsU, t.erroredD, t.unknownD, t.dropsD, t.sequence].flatMap (natBE 2))
    ∧ ∀ (s s' : State) (tag b : Byte) (clear : Bool),
    (Takes s (readRequest tag 0x0A#8 b clear) s' →
        Replies .readThresholds s tag .ok (thresholdsBytes s.link.thresholds) s')
      ∧ (Takes s (readRequest tag 0x13#8 0x00#8 clear) s' →
        let held : PortRecord :=
          { s.link.u with lockHeld := decide (s.link.u.state = .up ∨ s.link.u.state = .degraded) }
        Replies .readPort s tag .ok (portBytes s .u)
          (if clear then
            { s' with
              link := { s.link with u := { held with errored := 0, unknownKind := 0, queueDrops := 0 } }
              cycle := { s.cycle with sequenceErrors := 0 } }
          else { s' with link := { s.link with u := held } }))
      ∧ (Takes s (readRequest tag 0x13#8 0x01#8 clear) s' →
        let held : PortRecord :=
          { s.link.d with lockHeld := decide (s.link.d.state = .up ∨ s.link.d.state = .degraded) }
        Replies .readPort s tag .ok (portBytes s .d)
          (if clear then
            { s' with
              link :=
                { s.link with d := { held with errored := 0, unknownKind := 0, queueDrops := 0 }, testErrors := 0 } }
          else { s' with link := { s.link with d := held } }))
      ∧ (Takes s (readRequest tag 0x16#8 b clear) s' →
        Replies .readGateCounters s tag .ok (gateBytes s.gate)
          (if clear then
            { s' with
              gate :=
                ⟨s.gate.last, Vector.replicate 10 0, Vector.replicate 10 0, Vector.replicate 10 0, 0⟩ }
          else s'))
      ∧ (Takes s (readRequest tag 0x17#8 b clear) s' →
        Replies .readMgmtCounters s tag .ok (mgmtBytes s')
          (if clear then { s' with mgmt := { s'.mgmt with drops := 0 } } else s'))

/-! ## Requests: WRITE, unknown requests, the lock -/

/-- The WRITEs under the configuration lock (R41, R42, R44, R45, R62, R82, R118, R121, R122, R188): LOCKED while it is
set; then the tests of each rule in order, the ranges of every field among them (R40, R43, R61, R118, R122); and
otherwise OK with the record replaced, or, for an axis or the geometry written with valid no, made invalid, and what
the write hands over. That a WRITE of AXIS judges FEEDBACK_LOST or STALE before UNCONFIGURED is the model's reading
(assumption log 9). The judgement of STALE sets the flag of a lens axis whose record is valid, whose entry is present
and whose age is above the age limit, with notice 12 where it was clear, and clears it otherwise (R50); the bytes of
that notice's detail are the model's reading (assumption log 7). -/
def Obligations.LockedWritesAct : Prop :=
  ((∀ (k : Fin 10) (r : AxisRecord),
        axisInRange k r = true
          ↔ r.softMin < r.softMax ∧ 1 ≤ r.stepMax ∧ r.stepMax ≤ 1048575
            ∧ (k.val ≤ 6 →
              (1 ≤ r.deceleration ∧ r.deceleration ≤ 65535) ∧ r.standstill ≤ 1023 ∧ 1 ≤ r.cueScale ∧ r.cueScale ≤ 16)
            ∧ (1 ≤ r.ageLimit ∧ r.ageLimit ≤ 15) ∧ (1 ≤ r.followThreshold ∧ r.followThreshold ≤ 16777215)
            ∧ r.followLag ≤ 7 ∧ r.inPosition ≤ 65535
            ∧ (k.val ≤ 3 →
              -65535 ≤ r.unitMultiplier ∧ r.unitMultiplier ≤ 65535 ∧ r.unitMultiplier ≠ 0 ∧ r.unitShift ≤ 24))
      ∧ (∀ g : Geometry,
        geometryInRange g = true
          ↔ (∀ c ∈ [g.pivot.x, g.pivot.y, g.pivot.z], -100000 ≤ c ∧ c ≤ 100000) ∧ g.headDrop ≤ 2000
            ∧ g.headRadius ≤ 3000)
      ∧ (∀ b : ZoneBody,
        (zoneInRange b = true
            ↔ b.zone.box.lo.x ≤ b.zone.box.hi.x ∧ b.zone.box.lo.y ≤ b.zone.box.hi.y
              ∧ b.zone.box.lo.z ≤ b.zone.box.hi.z ∧ b.zone.band ≤ 5000 ∧ 1 ≤ b.zone.factor ∧ b.zone.factor ≤ 16
              ∧ (b.zone.kind = .crew → b.presence ≤ 7))
          ∧ b.stored = { b.zone with presence := b.stored.presence }
          ∧ (b.zone.kind = .crew → ∀ i : Fin 8, i.val = b.presence → b.stored.presence = some i)
          ∧ (b.zone.kind ≠ .crew → b.stored.presence = none))
      ∧ (∀ c : StopConfig,
        stopConfigInRange c = true
          ↔ (10 ≤ c.syncTimeout ∧ c.syncTimeout ≤ 2000) ∧ (100 ≤ c.rampLimit ∧ c.rampLimit ≤ 20000)
            ∧ (5 ≤ c.discrepancy ∧ c.discrepancy ≤ 500) ∧ (1 ≤ c.degradeFactor ∧ c.degradeFactor ≤ 16)
            ∧ (1 ≤ c.linkUpTime ∧ c.linkUpTime ≤ 2000) ∧ (1 ≤ c.degradeHold ∧ c.degradeHold ≤ 10000)
            ∧ 1 ≤ c.highError ∧ c.highError ≤ 255)
      ∧ ∀ g : Gesture,
        gestureInRange g = true
          ↔ (1 ≤ g.pulseMax ∧ g.pulseMax ≤ 63) ∧ (1 ≤ g.gapMax ∧ g.gapMax ≤ 63) ∧ 1 ≤ g.confirm ∧ g.confirm ≤ 255)
    ∧ (∀ (i : Fin 3) (s : State),
      let r := s.pose.axes[lensAxis i]
      let e := s.pose.entries[lensAxis i]
      let stale : Prop := r.valid = true ∧ e.present = true ∧ r.ageLimit < e.age
      let flagged (v : Bool) : State := { s with lens := { s.lens with stale := s.lens.stale.set i.val v } }
      (stale → s.lens.stale[i] = false → judgeStale i s = Machine.raise 12 [u8 (i.val + 7), 0x01#8] (flagged true))
        ∧ (stale → s.lens.stale[i] = true → judgeStale i s = s) ∧ (¬stale → judgeStale i s = flagged false))
    ∧ ∀ (s s' : State) (tag b : Byte) (record : List Byte),
    (∀ (k : Fin 10) (r : AxisRecord), readAxisRecord k record = some r →
        Takes s (writeRequest tag 0x00#8 (u8 k.val) record) s' →
        let busy : Prop :=
          (k.val ≤ 6 ∧ (s.stop.state = .run ∨ s.stop.state = .ramp)) ∨ (7 ≤ k.val ∧ s.player.mask[k] = true)
        let bad : Prop := r.valid = true ∧ axisInRange k r = false
        let after : AxisRecord := if r.valid then r else { s.pose.axes[k] with valid := false }
        let s1 : State :=
          { s' with
            pose := { s.pose with axes := s.pose.axes.set k.val after }
            gate := { s.gate with last := s.gate.last.set k.val none } }
        (s.mgmt.locked = true → Replies .writeAxis s tag .locked [] s')
          ∧ (s.mgmt.locked = false → busy → Replies .writeAxis s tag .refused [] s')
          ∧ (s.mgmt.locked = false → ¬busy → bad → Replies .writeAxis s tag .invalid [] s')
          ∧ (s.mgmt.locked = false → ¬busy → ¬bad →
            Replies .writeAxis s tag .ok []
              (handOver .unconfigured s1.pose.unconfigured
                (if h : 7 ≤ k.val then judgeStale ⟨k.val - 7, by omega⟩ s1
                else handOver .feedbackLost s1.pose.anyLost s1))))
      ∧ (∀ g : Geometry, readGeometry record = some g → Takes s (writeRequest tag 0x01#8 b record) s' →
        let busy : Prop := s.stop.state = .run ∨ s.stop.state = .ramp
        let bad : Prop := g.valid = true ∧ geometryInRange g = false
        let s1 : State :=
          { s' with
            pose := { s.pose with geometry := if g.valid then g else { s.pose.geometry with valid := false } } }
        (s.mgmt.locked = true → Replies .writeGeometry s tag .locked [] s')
          ∧ (s.mgmt.locked = false → busy → Replies .writeGeometry s tag .refused [] s')
          ∧ (s.mgmt.locked = false → ¬busy → bad → Replies .writeGeometry s tag .invalid [] s')
          ∧ (s.mgmt.locked = false → ¬busy → ¬bad →
            Replies .writeGeometry s tag .ok [] (handOver .unconfigured s1.pose.unconfigured s1)))
      ∧ (∀ (z : Fin 24) (r : ZoneBody), readZone record = some r →
        Takes s (writeRequest tag 0x02#8 (u8 z.val) record) s' →
        (s.mgmt.locked = true → Replies .writeZone s tag .locked [] s')
          ∧ (s.mgmt.locked = false → zoneInRange r = false → Replies .writeZone s tag .invalid [] s')
          ∧ (s.mgmt.locked = false → zoneInRange r = true →
            Replies .writeZone s tag .ok [] { s' with env := { s.env with zones := s.env.zones.set z.val r.stored } }))
      ∧ (∀ c : StopConfig, readStopConfig record = some c → Takes s (writeRequest tag 0x03#8 b record) s' →
        let s1 : State := { s' with stop := { s.stop with config := c } }
        (s.mgmt.locked = true → Replies .writeStopConfig s tag .locked [] s')
          ∧ (s.mgmt.locked = false → stopConfigInRange c = false → Replies .writeStopConfig s tag .invalid [] s')
          ∧ (s.mgmt.locked = false → stopConfigInRange c = true → s.link.d.state ≠ .degraded →
            Replies .writeStopConfig s tag .ok [] s1)
          ∧ (s.mgmt.locked = false → stopConfigInRange c = true → s.link.d.state = .degraded →
            Replies .writeStopConfig s tag .ok []
              { s1 with
                env :=
                  { s.env with
                    scale :=
                      ⟨s.env.scale.zone, c.degradeFactor, s.env.scale.trim,
                        min s.env.scale.zone (min c.degradeFactor s.env.scale.trim)⟩ } }))
      ∧ (∀ g : Gesture, readGesture record = some g → Takes s (writeRequest tag 0x04#8 b record) s' →
        (s.mgmt.locked = true → Replies .writeGesture s tag .locked [] s')
          ∧ (s.mgmt.locked = false → gestureInRange g = false → Replies .writeGesture s tag .invalid [] s')
          ∧ (s.mgmt.locked = false → gestureInRange g = true →
            Replies .writeGesture s tag .ok []
              { s' with stop := { s.stop with gesture := g, detector := ⟨.waitRelease, 0⟩ } }))
      ∧ ∀ m : Vector PatternPair 9, readLampMap record = some m → Takes s (writeRequest tag 0x05#8 b record) s' →
        (s.mgmt.locked = true → Replies .writeLampMap s tag .locked [] s')
          ∧ (s.mgmt.locked = false →
            Replies .writeLampMap s tag .ok [] (refreshLamps { s' with stop := { s.stop with lampMap := m } }))

/-- The WRITEs that the lock does not touch (R35, R136, R178, R188, R194): a subject preset, which also moves a follow
that has it selected; a cue slot, disabled, or loaded where it was disabled; the notice configuration; the thresholds.
An order code of 0 or 7 is stored as 1, and 1 to 6 as it is; a code above 7, an express source beyond 16 that is not
NONE, or a wake set with a bit that names no source, is answered INVALID (R194, R23); the code 17 for NONE is the
model's choice (assumption log 8). How their bodies are read where R23 leaves room is the model's reading and choice
(assumption logs 7, 8 and 19). -/
def Obligations.UnlockedWritesAct : Prop :=
  ∀ (s s' : State) (tag b : Byte) (record : List Byte),
    (∀ (k : Fin 4) (p : Subject), readSubject record = some p →
        Takes s (writeRequest tag 0x07#8 (u8 k.val) record) s' →
        (10000 < p.trimLimit → Replies .writeSubject s tag .invalid [] s')
          ∧ (p.trimLimit ≤ 10000 →
            Replies .writeSubject s tag .ok []
              { s' with
                lens :=
                  { s.lens with
                    subjects := s.lens.subjects.set k.val p
                    follow :=
                      if s.lens.follow.on = true ∧ s.lens.follow.preset = some k then
                        { s.lens.follow with
                          subject := p.point, trimLimit := p.trimLimit
                          trim := clampInt (-(p.trimLimit : Int)) p.trimLimit s.lens.follow.trim }
                      else s.lens.follow } }))
      ∧ (∀ (n : Fin 8) (c : CueSlot), readCueSlot record = some c →
        Takes s (writeRequest tag 0x08#8 (u8 n.val) record) s' →
        (c.pattern ≠ [] → s.cues[n].pattern ≠ [] → Replies .writeCueSlot s tag .slotBusy [] s')
          ∧ (c.pattern = [] ∨ s.cues[n].pattern = [] →
            Replies .writeCueSlot s tag .ok [] { s' with cues := s.cues.set n.val c } ∧ c.progress = 0))
      ∧ (∀ c : NoticeConfig, readNoticeConfig record = some c → Takes s (writeRequest tag 0x09#8 b record) s' →
        Replies .writeNoticeConfig s tag .ok [] { s' with notices := { s.notices with config := c } })
      ∧ (∀ (order express : Byte) (safety motion link overall : Bool) (wake : Nat), wake < 2 ^ 24 →
        record =
            order :: flagByte safety :: flagByte motion :: flagByte link :: flagByte overall :: express :: natBE 3 wake →
        Takes s (writeRequest tag 0x09#8 b record) s' →
        (order.toNat ≤ 7 → express.toNat ≤ 17 → wake < 2 ^ 17 →
            ∃ c : NoticeConfig,
              Replies .writeNoticeConfig s tag .ok [] { s' with notices := { s.notices with config := c } }
                ∧ c.order = (if order.toNat = 0 ∨ order.toNat = 7 then 1 else order.toNat)
                ∧ c.safety = safety ∧ c.motion = motion ∧ c.link = link ∧ c.global = overall
                ∧ c.express.map (·.val) = (if express.toNat = 17 then none else some express.toNat)
                ∧ ∀ k : Fin 17, c.wake[k] = wake.testBit k.val)
          ∧ (8 ≤ order.toNat ∨ 18 ≤ express.toNat ∨ 2 ^ 17 ≤ wake → Replies .writeNoticeConfig s tag .invalid [] s'))
      ∧ ∀ t : Thresholds, readThresholds record = some t → Takes s (writeRequest tag 0x0A#8 b record) s' →
        Replies .writeThresholds s tag .ok [] { s' with link := { s.link with thresholds := t } }

/-- Requests that the part does not have, and bodies of another form (R185, R186): a code outside the catalogue, a
READ of a selector that does not exist and a WRITE of one that is read only or does not exist, whatever follows the
selector, and an index outside the range of its selector are answered UNKNOWN; a body that the request does not take
is answered INVALID: a READ or WRITE of no selector, or of the selector alone, a take number of 32 and above (R144,
R163), an axis number of CURVE_LOAD other than 7 to 9 (R127), a mask of ARM_RECORD or LOAD_BEGIN with a bit that names
no axis (R23), a record that does not read, a body of another length; nothing changes. Where two tests meet, the index
comes first and the form before the tests of the record's owner, the lock among them: the model's choice (assumption
log 5). That the words of a LOAD_PAGE stand behind a count byte, so that a body whose length is not 3 + 4 times its
third byte does not read, and that a clear flag other than 00h and 01h makes a READ INVALID, are the model's reading
(assumption log 7). -/
def Obligations.UnknownAndIllFormedRequestsAreAnswered : Prop :=
  ∀ (s s' : State) (tag : Byte),
    (∀ (code : Byte) (body : List Byte), code = 0x00#8 ∨ 0x1E ≤ code.toNat → Takes s ⟨tag, code, body⟩ s' →
        Replies .unknownRequest s tag .unknown [] s')
      ∧ (∀ (selector : Byte) (rest : List Byte), 0x18 ≤ selector.toNat →
        Takes s ⟨tag, 0x01#8, selector :: rest⟩ s' → Replies .unknownRequest s tag .unknown [] s')
      ∧ (∀ (selector : Byte) (rest : List Byte), selector = 0x06#8 ∨ 0x0B ≤ selector.toNat →
        Takes s ⟨tag, 0x02#8, selector :: rest⟩ s' → Replies .writeReadOnlySelector s tag .unknown [] s')
      ∧ (∀ (row : Instr) (selector : Byte) (count : Nat),
        (row, selector, count)
            ∈ [(Instr.readAxis, 0x00#8, 10), (.readZone, 0x02#8, 24), (.readSubject, 0x07#8, 4),
              (.readCueSlot, 0x08#8, 8), (.readPlayer, 0x0F#8, 10), (.readTake, 0x11#8, 32), (.readPort, 0x13#8, 2),
              (.readNotices, 0x15#8, 17)] →
        ∀ (index : Byte) (rest : List Byte), count ≤ index.toNat →
          Takes s ⟨tag, 0x01#8, selector :: index :: rest⟩ s' → Replies row s tag .unknown [] s')
      ∧ (∀ (index : Byte) (rest : List Byte), index.toNat < 7 ∨ 10 ≤ index.toNat →
        Takes s ⟨tag, 0x01#8, 0x06#8 :: index :: rest⟩ s' → Replies .readCurve s tag .unknown [] s')
      ∧ (∀ (row : Instr) (selector : Byte) (count : Nat),
        (row, selector, count)
            ∈ [(Instr.writeAxis, 0x00#8, 10), (.writeZone, 0x02#8, 24), (.writeSubject, 0x07#8, 4),
              (.writeCueSlot, 0x08#8, 8)] →
        ∀ (index : Byte) (rest : List Byte), count ≤ index.toNat →
          Takes s (writeRequest tag selector index rest) s' → Replies row s tag .unknown [] s')
      ∧ (∀ (row : Instr) (selector : Byte),
        (row, selector)
            ∈ [(Instr.readGeometry, 0x01#8), (.readStopConfig, 0x03#8), (.readGesture, 0x04#8), (.readLampMap, 0x05#8),
              (.readNoticeConfig, 0x09#8), (.readThresholds, 0x0A#8), (.readPose, 0x0B#8), (.readEvaluation, 0x0C#8),
              (.readSpeedScale, 0x0D#8), (.readStopStatus, 0x0E#8), (.readRecorder, 0x10#8), (.readFreeCount, 0x12#8),
              (.readLensStatus, 0x14#8), (.readGateCounters, 0x16#8), (.readMgmtCounters, 0x17#8)] →
        (Takes s ⟨tag, 0x01#8, [selector]⟩ s' → Replies row s tag .invalid [] s')
          ∧ ∀ (index : Byte) (rest : List Byte), rest ≠ [0x00#8] → rest ≠ [0x01#8] →
            Takes s ⟨tag, 0x01#8, selector :: index :: rest⟩ s' → Replies row s tag .invalid [] s')
      ∧ (∀ (row : Instr) (selector : Byte),
        (row, selector)
            ∈ [(Instr.writeAxis, 0x00#8), (.writeGeometry, 0x01#8), (.writeZone, 0x02#8), (.writeStopConfig, 0x03#8),
              (.writeGesture, 0x04#8), (.writeLampMap, 0x05#8), (.writeSubject, 0x07#8), (.writeCueSlot, 0x08#8),
              (.writeNoticeConfig, 0x09#8), (.writeThresholds, 0x0A#8)] →
        Takes s ⟨tag, 0x02#8, [selector]⟩ s' → Replies row s tag .invalid [] s')
      ∧ (∀ (row : Instr) (selector : Byte) (first count : Nat),
        (row, selector, first, count)
            ∈ [(Instr.readAxis, 0x00#8, 0, 10), (.readZone, 0x02#8, 0, 24), (.readCurve, 0x06#8, 7, 3),
              (.readSubject, 0x07#8, 0, 4), (.readCueSlot, 0x08#8, 0, 8), (.readPlayer, 0x0F#8, 0, 10),
              (.readTake, 0x11#8, 0, 32), (.readPort, 0x13#8, 0, 2), (.readNotices, 0x15#8, 0, 17)] →
        (Takes s ⟨tag, 0x01#8, [selector]⟩ s' → Replies row s tag .invalid [] s')
          ∧ ∀ (index : Byte) (rest : List Byte), first ≤ index.toNat → index.toNat < first + count →
            rest ≠ [0x00#8] → rest ≠ [0x01#8] →
            Takes s ⟨tag, 0x01#8, selector :: index :: rest⟩ s' → Replies row s tag .invalid [] s')
      ∧ (Takes s ⟨tag, 0x01#8, []⟩ s' → Replies .unknownRequest s tag .invalid [] s')
      ∧ (Takes s ⟨tag, 0x02#8, []⟩ s' → Replies .writeReadOnlySelector s tag .invalid [] s')
      ∧ (∀ record : List Byte,
        (∀ k : Fin 10, readAxisRecord k record = none → Takes s (writeRequest tag 0x00#8 (u8 k.val) record) s' →
            Replies .writeAxis s tag .invalid [] s')
          ∧ (∀ z : Fin 24, readZone record = none → Takes s (writeRequest tag 0x02#8 (u8 z.val) record) s' →
            Replies .writeZone s tag .invalid [] s')
          ∧ (∀ k : Fin 4, readSubject record = none → Takes s (writeRequest tag 0x07#8 (u8 k.val) record) s' →
            Replies .writeSubject s tag .invalid [] s')
          ∧ ∀ n : Fin 8, readCueSlot record = none → Takes s (writeRequest tag 0x08#8 (u8 n.val) record) s' →
            Replies .writeCueSlot s tag .invalid [] s')
      ∧ (∀ (code : Byte) (row : Instr),
        (code, row)
            ∈ [(0x0A#8, Instr.armRecord), (0x0C#8, .erase), (0x0D#8, .lockTake), (0x0E#8, .unlockTake),
              (0x0F#8, .loadBegin), (0x10#8, .loadPage), (0x11#8, .loadEnd), (0x12#8, .readPage), (0x13#8, .cue)] →
        ∀ (number : Byte) (rest : List Byte), 32 ≤ number.toNat → Takes s ⟨tag, code, number :: rest⟩ s' →
          Replies row s tag .invalid [] s')
      ∧ (∀ (take : Byte) (mask : Nat) (rest : List Byte), 2 ^ 10 ≤ mask → mask < 2 ^ 16 →
        (Takes s ⟨tag, 0x0A#8, take :: natBE 2 mask⟩ s' → Replies .armRecord s tag .invalid [] s')
          ∧ (Takes s ⟨tag, 0x0F#8, take :: (natBE 2 mask ++ rest)⟩ s' → Replies .loadBegin s tag .invalid [] s'))
      ∧ (∀ (axis : Byte) (rest : List Byte), axis.toNat < 7 ∨ 10 ≤ axis.toNat →
        Takes s ⟨tag, 0x17#8, axis :: rest⟩ s' → Replies .curveLoad s tag .invalid [] s')
      ∧ (∀ (code : Byte) (row : Instr) (length : Nat),
        (code, row, length)
            ∈ [(0x03#8, Instr.stop, 1), (0x05#8, .setScale, 1), (0x0A#8, .armRecord, 3), (0x0C#8, .erase, 1),
              (0x0D#8, .lockTake, 1), (0x0E#8, .unlockTake, 1), (0x11#8, .loadEnd, 1), (0x12#8, .readPage, 3),
              (0x13#8, .cue, 1), (0x18#8, .followOn, 1), (0x1A#8, .clearNotice, 3)] →
        ∀ body : List Byte, body.length ≠ length → Takes s ⟨tag, code, body⟩ s' → Replies row s tag .invalid [] s')
      ∧ (∀ body : List Byte,
        (readLoadBegin body = none → Takes s ⟨tag, 0x0F#8, body⟩ s' → Replies .loadBegin s tag .invalid [] s')
          ∧ (readLoadPage body = none → Takes s ⟨tag, 0x10#8, body⟩ s' → Replies .loadPage s tag .invalid [] s')
          ∧ (readCurveLoad body = none → Takes s ⟨tag, 0x17#8, body⟩ s' → Replies .curveLoad s tag .invalid [] s')
          ∧ (body.length < 7 → readLoadBegin body = none)
          ∧ (body.length < 3 ∨ body.length ≠ 3 + 4 * (body.getD 2 0x00#8).toNat → readLoadPage body = none)
          ∧ (body.length < 6 → readCurveLoad body = none))
      ∧ (∀ (index : Byte) (record : List Byte),
        (readGeometry record = none → Takes s (writeRequest tag 0x01#8 index record) s' →
            Replies .writeGeometry s tag .invalid [] s')
          ∧ (readStopConfig record = none → Takes s (writeRequest tag 0x03#8 index record) s' →
            Replies .writeStopConfig s tag .invalid [] s')
          ∧ (readGesture record = none → Takes s (writeRequest tag 0x04#8 index record) s' →
            Replies .writeGesture s tag .invalid [] s')
          ∧ (readLampMap record = none → Takes s (writeRequest tag 0x05#8 index record) s' →
            Replies .writeLampMap s tag .invalid [] s')
          ∧ (readNoticeConfig record = none → Takes s (writeRequest tag 0x09#8 index record) s' →
            Replies .writeNoticeConfig s tag .invalid [] s')
          ∧ (readThresholds record = none → Takes s (writeRequest tag 0x0A#8 index record) s' →
            Replies .writeThresholds s tag .invalid [] s'))
      ∧ ∀ (code : Byte) (row : Instr),
        (code, row)
            ∈ [(0x04#8, Instr.clearStop), (0x06#8, .park), (0x07#8, .wake), (0x08#8, .lockConfig),
              (0x09#8, .unlockConfig), (0x0B#8, .stopRecord), (0x14#8, .go), (0x15#8, .resume), (0x16#8, .release),
              (0x19#8, .followOff), (0x1B#8, .linkTestStart), (0x1C#8, .linkTestStop), (0x1D#8, .reset)] →
        ∀ body : List Byte, body ≠ [] → Takes s ⟨tag, code, body⟩ s' → Replies row s tag .invalid [] s'

/-- SET_SCALE (R76): the value clamped to 1..16 is the trim, the effective scale is recomputed, and the reply carries
the trim, in every stop state and under the lock; nothing else changes but what the reply takes, so the crane stays as
it is. The trim stays through every other command but a reset. With trim 1 a motion axis moves by a sixteenth of its
step maximum, the least step being 1. -/
def Obligations.SetScaleStoresTheTrim : Prop :=
  (∀ (s s' : State) (tag v : Byte), Takes s ⟨tag, 0x05#8, [v]⟩ s' →
      let trim := if v.toNat = 0 then 1 else if 17 ≤ v.toNat then 16 else v.toNat
      Replies .setScale s tag .ok [u8 trim]
        { s' with
          env :=
            { s.env with
              scale :=
                ⟨s.env.scale.zone, s.env.scale.link, trim, min s.env.scale.zone (min s.env.scale.link trim)⟩ } })
    ∧ (∀ (i : Instr) (s t : State), exec i s = .next t → i ≠ .setScale → i ≠ .coldReset → i ≠ .warmReset →
      t.env.scale.trim = s.env.scale.trim)
    ∧ ∀ (s : State) (k : Axis), s.env.scale.trim = 1 → ScaleAgrees s → 1 ≤ s.env.scale.zone → 1 ≤ s.env.scale.link →
      k.val ≤ 6 → gateStep .console k s = max 1 (s.pose.axes[k].stepMax / 16)

/-- The configuration lock and RESET (R188, R189): LOCK_CONFIG sets the lock; UNLOCK_CONFIG clears it with the service
key asserted and is answered LOCKED without it; RESET appends its reply and lets no further request start. No request
command changes anything while an ERASE is under way, after a RESET is answered, or while the reply queue has no room
(R184, R189); that it changes nothing where no request waits, or the one at the head is of another row, is the model's
choice (assumption log 4). -/
def Obligations.LockAndResetRequestsAct : Prop :=
  (∀ row ∈ requestRows, ∀ s : State,
      (s.mgmt.erasing.isSome = true ∨ s.mgmt.reset ≠ .none ∨ 4 ≤ s.mgmt.replies.length → exec row s = .next s)
        ∧ (s.mgmt.requests = [] → exec row s = .next s)
        ∧ ∀ (r : Request) (rest : List Request), s.mgmt.requests = r :: rest → r.row ≠ row → exec row s = .next s)
    ∧ ∀ (s s' : State) (tag : Byte),
    (Takes s ⟨tag, 0x08#8, []⟩ s' →
        Replies .lockConfig s tag .ok [] { s' with mgmt := { s'.mgmt with locked := true } })
      ∧ (Takes s ⟨tag, 0x09#8, []⟩ s' →
        (s.pins.serviceKey = true →
            Replies .unlockConfig s tag .ok [] { s' with mgmt := { s'.mgmt with locked := false } })
          ∧ (s.pins.serviceKey = false → Replies .unlockConfig s tag .locked [] s'))
      ∧ (Takes s ⟨tag, 0x1D#8, []⟩ s' →
        Nexts (exec .reset s) fun t =>
          t = appendReply tag .ok [] true { s' with mgmt := { s'.mgmt with reset := .replying } }
            ∧ t.mgmt.reset ≠ .none ∧ t.mgmt.canStart = false ∧ t.mgmt.requests = s'.mgmt.requests ∧ t.stop = s.stop
            ∧ t.pose = s.pose)

/-- CLEAR_NOTICE (R192): a number outside 0..16 is answered INVALID and no entry is cleared; otherwise every named
entry takes pending no, sent no, count 0 and no detail, every other stands, and the reply is OK, in every stop state
and under the lock. A cleared source is not eligible, so there is nothing to take, and its next occurrence is a first
one. -/
def Obligations.ClearNoticeClears : Prop :=
  (∀ (s s' : State) (tag : Byte) (n : Nat), Takes s ⟨tag, 0x1A#8, natBE 3 n⟩ s' →
    (2 ^ 17 ≤ n → n < 2 ^ 24 → Replies .clearNotice s tag .invalid [] s')
      ∧ (n < 2 ^ 17 →
        ∃ entries : Vector NoticeEntry 17,
          Replies .clearNotice s tag .ok [] { s' with notices := { s.notices with entries := entries } }
            ∧ ∀ k : Fin 17,
              (n.testBit k.val = true →
                  entries[k].pending = false ∧ entries[k].sent = false ∧ entries[k].count = 0 ∧ entries[k].detail = [])
                ∧ (n.testBit k.val = false → entries[k] = s.notices.entries[k])))
    ∧ ∀ (a : Notices) (k : Fin 17), a.entries[k].pending = false →
      a.eligible k = false
        ∧ ∀ (timecode : Timecode) (detail : List Byte),
          a.entries[k].occur (sourceLatched k) timecode detail = ⟨true, false, 0, timecode, detail⟩

/-! ## Requests of the takes, the recorder, the player and the lenses -/

/-- ARM_RECORD and STOP_RECORD (R154, R155, R156, R159): the tests of arming in order, then ARMED with the take, the
mask, the start values and the fingerprints; STOP_RECORD is refused in IDLE, ends an arming with the take EMPTY, and
ends a recording with its open sample written and the take CLOSED. The end of a recording or an arming raises notice 9
with the take, the reason, the samples and the pages, both 0 for an arming (R156). -/
def Obligations.RecorderRequestsAct : Prop :=
  ∀ (s s' : State) (tag : Byte),
    (∀ (t : Fin 32) (mask : FlagSet 10), Takes s ⟨tag, 0x0A#8, u8 t.val :: axisSetBytes mask⟩ s' →
        let start (k : Fin 10) : Option Int :=
          match s.gate.last[k] with
          | some v => some v
          | none => if s.pose.entries[k].present then some s.pose.entries[k].position else none
        let refused : Prop :=
          s.stop.state ≠ .run ∨ s.recorder.state ≠ .idle ∨ s.store.takes[t].state ≠ .empty
            ∨ s.player.take = some t
        let noCurve : Prop := ∃ i : Fin 3, mask[lensAxis i] = true ∧ s.lens.curves[i].valid = false
        let noStart : Prop := ∃ k : Fin 10, mask[k] = true ∧ start k = none
        ((∀ k : Fin 10, mask[k] = false) → Replies .armRecord s tag .invalid [] s')
          ∧ ((∃ k : Fin 10, mask[k] = true) →
            (refused → Replies .armRecord s tag .refused [] s')
              ∧ (¬refused → noCurve → Replies .armRecord s tag .mismatch [] s')
              ∧ (¬refused → ¬noCurve → noStart → Replies .armRecord s tag .refused [] s')
              ∧ (¬refused → ¬noCurve → ¬noStart →
                ∃ r : Recorder, Replies .armRecord s tag .ok [] (refreshLamps { s' with recorder := r })
                  ∧ r.state = .armed ∧ r.take = some t ∧ r.mask = mask
                  ∧ (∀ k : Fin 10, mask[k] = true → start k = some r.buffer[k])
                  ∧ ∀ i : Fin 3,
                    r.prints[i] =
                      if mask[lensAxis i] then some s.lens.curves[i].fingerprint else none)))
      ∧ (Takes s ⟨tag, 0x0B#8, []⟩ s' →
        (s.recorder.state = .idle → Replies .stopRecord s tag .refused [] s')
          ∧ (∀ t : Fin 32, s.recorder.take = some t → s.recorder.state = .armed →
            ∃ t1 : State, Replies .stopRecord s tag .ok [] t1 ∧ t1.recorder = Recorder.initial ∧ t1.store = s.store
              ∧ Occurrences 9 [[u8 t.val, 0x00#8] ++ List.replicate 5 0x00#8] s t1
              ∧ t1.player = s.player ∧ t1.gate = s.gate ∧ t1.pose = s.pose)
          ∧ ∀ t : Fin 32, s.recorder.take = some t → s.recorder.state = .recording →
            ∃ t1 : State, Replies .stopRecord s tag .ok [] t1 ∧ t1.recorder = Recorder.initial
              ∧ t1.store.takes[t].state = .closed
              ∧ (∀ st : Store, s.store.writeSample t s.recorder.sample = some st →
                t1.store =
                  { st with
                    takes :=
                      st.takes.set t.val { st.takes[t] with state := .closed, endReason := some .normal } }
                  ∧ Occurrences 9
                    [[u8 t.val, 0x00#8] ++ natBE 3 st.takes[t].samples ++ natBE 2 st.takes[t].chain.length] s t1)
              ∧ (s.store.writeSample t s.recorder.sample = none →
                t1.store =
                  { s.store with
                    takes :=
                      s.store.takes.set t.val
                        { s.store.takes[t] with state := .closed, endReason := some .storeFull } }
                  ∧ Occurrences 9
                    [[u8 t.val, 0x02#8] ++ natBE 3 s.store.takes[t].samples
                      ++ natBE 2 s.store.takes[t].chain.length]
                    s t1)
              ∧ t1.player = s.player ∧ t1.gate = s.gate ∧ t1.pose = s.pose)

/-- One sample written (R142, R143, R146, R158): at the first place of a page the head of the free page list is
allocated and cleared; the sample's values stand in the words of its position, in order; the sample count rises by
one; with no page free nothing is written. -/
def Obligations.SamplesAreWritten : Prop :=
  ∀ (st : Store) (t : Fin 32) (values : List Int),
    Memory.wf st.words = true → values.length = st.takes[t].mask.size → 1 ≤ st.takes[t].mask.size →
    let r := st.takes[t]
    let first : Prop := r.samples % r.perPage = 0
    (first → st.free = [] → st.writeSample t values = none)
      ∧ (first → r.samples = r.chain.length * r.perPage → ∀ page rest, st.free = page :: rest →
        ∃ st' : Store, st.writeSample t values = some st' ∧ st'.free = rest
          ∧ st'.takes = st.takes.set t.val { r with chain := r.chain ++ [page], samples := r.samples + 1 }
          ∧ ∀ a : Nat,
            readWord st'.words a =
              if wordAddress page 0 ≤ a ∧ a < wordAddress page 0 + 64 then values.getD (a - wordAddress page 0) 0
              else readWord st.words a)
      ∧ (¬first →
        let base := wordAddress (r.chain.getD (r.samples / r.perPage) 0) ((r.samples % r.perPage) * r.mask.size)
        ∃ st' : Store, st.writeSample t values = some st' ∧ st'.free = st.free
          ∧ st'.takes = st.takes.set t.val { r with samples := r.samples + 1 }
          ∧ ∀ a : Nat,
            readWord st'.words a =
              if base ≤ a ∧ a < base + values.length then values.getD (a - base) 0 else readWord st.words a)

/-- The requests of the take store (R146 to R151): their tests in order, and what each leaves. That ERASE_PAGE_RETURN
changes nothing with no ERASE under way is the model's choice, and the words of a READ_PAGE without a count byte its
reading (assumption logs 4 and 7). -/
def Obligations.TakeRequestsAct : Prop :=
  ∀ (s s' : State) (tag : Byte) (t : Fin 32),
    let r := s.store.takes[t]
    let put (x : Take) (s1 : State) : State :=
      { s1 with store := { s1.store with takes := s1.store.takes.set t.val x } }
    (Takes s ⟨tag, 0x0C#8, [u8 t.val]⟩ s' →
        let refused : Prop :=
          r.locked = true ∨ r.state ≠ .closed ∨ s.recorder.take = some t ∨ s.player.take = some t
        (refused → exec .erase s = .next (appendReply tag .refused [] false s'))
          ∧ (¬refused → r.chain = [] →
            exec .erase s = .next (appendReply tag .ok [] false (put Take.initial s')))
          ∧ (¬refused → r.chain ≠ [] →
            exec .erase s =
              .next (put { r with state := .erasing } { s' with mgmt := { s'.mgmt with erasing := some ⟨tag, t⟩ } })))
      ∧ (s.mgmt.erasing = none → exec .erasePageReturn s = .next s)
      ∧ (∀ page rest, s.mgmt.erasing = some ⟨tag, t⟩ → r.chain = page :: rest →
        (rest ≠ [] →
            exec .erasePageReturn s =
              .next
                { s with
                  store :=
                    { s.store with
                      free := s.store.free ++ [page], takes := s.store.takes.set t.val { r with chain := rest } } })
          ∧ (rest = [] →
            exec .erasePageReturn s =
              .next
                (appendReply tag .ok [] false
                  { s with
                    store :=
                      { s.store with
                        free := s.store.free ++ [page], takes := s.store.takes.set t.val Take.initial }
                    mgmt := { s.mgmt with erasing := none } })))
      ∧ (Takes s ⟨tag, 0x0D#8, [u8 t.val]⟩ s' →
        (r.state = .recording ∨ r.state = .closed →
            Replies .lockTake s tag .ok [] (put { r with locked := true } s'))
          ∧ (r.state ≠ .recording → r.state ≠ .closed → Replies .lockTake s tag .refused [] s'))
      ∧ (Takes s ⟨tag, 0x0E#8, [u8 t.val]⟩ s' →
        Replies .unlockTake s tag .ok [] (put { r with locked := false } s'))
      ∧ (∀ (body : List Byte) (x : LoadBody), readLoadBegin body = some x → x.take = t →
        Takes s ⟨tag, 0x0F#8, body⟩ s' →
        (r.state ≠ .empty ∨ s.recorder.take = some t → Replies .loadBegin s tag .refused [] s')
          ∧ (r.state = .empty → s.recorder.take ≠ some t →
            Replies .loadBegin s tag .ok []
              (put
                { r with
                  state := .loading, mask := x.mask, samples := 0, start := x.start, prints := x.prints
                  endReason := none, isOpen := true }
                s')))
      ∧ (∀ (body : List Byte) (x : PageBody), readLoadPage body = some x → x.take = t →
        Takes s ⟨tag, 0x10#8, body⟩ s' → Memory.wf s.store.words = true →
        let bad : Prop :=
          r.isOpen = false ∨ x.samples = 0 ∨ r.perPage < x.samples ∨ x.words.length ≠ x.samples * r.mask.size
        (r.state ≠ .loading → Replies .loadPage s tag .refused [] s')
          ∧ (r.state = .loading → bad → Replies .loadPage s tag .invalid [] s')
          ∧ (r.state = .loading → ¬bad → s.store.free = [] → Replies .loadPage s tag .noSpace [] s')
          ∧ (r.state = .loading → ¬bad → ∀ page rest, s.store.free = page :: rest →
            ∃ words : List WordCell,
              Replies .loadPage s tag .ok (natBE 2 page ++ natBE 3 (r.samples + x.samples))
                  { s' with
                    store :=
                      { words := words, free := rest
                        takes :=
                          s.store.takes.set t.val
                            { r with
                              chain := r.chain ++ [page], samples := r.samples + x.samples
                              isOpen := decide (x.samples = r.perPage) } } }
                ∧ ∀ a : Nat, x.words.length ≤ 64 →
                  readWord words a =
                    if wordAddress page 0 ≤ a ∧ a < wordAddress page 0 + 64 then
                      x.words.getD (a - wordAddress page 0) 0
                    else readWord s.store.words a))
      ∧ (Takes s ⟨tag, 0x11#8, [u8 t.val]⟩ s' →
        (r.state ≠ .loading → Replies .loadEnd s tag .refused [] s')
          ∧ (r.state = .loading →
            Replies .loadEnd s tag .ok []
              (put { r with state := .closed, endReason := some .loaded, isOpen := false } s')))
      ∧ ∀ ordinal : Nat, ordinal < 65536 → Takes s ⟨tag, 0x12#8, u8 t.val :: natBE 2 ordinal⟩ s' →
        (r.state ≠ .closed → Replies .readPage s tag .refused [] s')
          ∧ (r.state = .closed → r.chain.length ≤ ordinal → Replies .readPage s tag .invalid [] s')
          ∧ (r.state = .closed → ∀ page, r.chain[ordinal]? = some page →
            Replies .readPage s tag .ok
              (u8 t.val
                :: (natBE 2 ordinal ++ natBE 2 page ++ [u8 (min r.perPage (r.samples - ordinal * r.perPage))]
                  ++ (List.range 64).flatMap fun i => intBE 4 (readWord s.store.words (page * 64 + i))))
              s')

/-- The requests of the player (R163, R164, R167, R170, R171, R172): CUE with its tests in order; GO in READY; RESUME
of a SUSPENDED player in RUN, from the last sample played where it was suspended from PLAYING; RELEASE in READY,
SUSPENDED or HOLDING. Every change of the player state raises notice 5 with the previous state, the new one, the take
and the index (R162). -/
def Obligations.PlayerRequestsAct : Prop :=
  ([PlayerState.idle, .cueing, .ready, .playing, .suspended, .holding].map PlayerState.code
      = [0x00#8, 0x01#8, 0x02#8, 0x03#8, 0x04#8, 0x05#8])
    ∧ (∀ (new : PlayerState) (s : State),
      let t := enterPlayer new s
      t.player = { s.player with state := new }
        ∧ Occurrences 5
          [[s.player.state.code, new.code]
            ++ (match s.player.take with | some q => [0x01#8, u8 q.val] | none => [0x00#8, 0x00#8])
            ++ natBE 3 s.player.index]
          s t)
    ∧ ∀ (s s' : State) (tag : Byte),
    (∀ t : Fin 32, Takes s ⟨tag, 0x13#8, [u8 t.val]⟩ s' →
        let r := s.store.takes[t]
        let refused : Prop :=
          s.player.state ≠ .idle ∨ s.stop.state ≠ .run ∨ r.state ≠ .closed ∨ r.samples = 0
            ∨ (r.mask[7] = true ∧ s.lens.follow.on = true)
        let mismatch : Prop :=
          ∃ i : Fin 3, r.mask[lensAxis i] = true
            ∧ (s.lens.curves[i].valid = false ∨ r.prints[i] ≠ some s.lens.curves[i].fingerprint)
        (refused → Replies .cue s tag .refused [] s')
          ∧ (¬refused → mismatch → Replies .cue s tag .mismatch [] s')
          ∧ (¬refused → ¬mismatch →
            ∃ t1 : State, Replies .cue s tag .ok [] t1
              ∧ t1.player = { Player.initial with state := .cueing, take := some t, mask := r.mask }
              ∧ Occurrences 5 [[0x00#8, 0x01#8, 0x01#8, u8 t.val, 0x00#8, 0x00#8, 0x00#8]] s t1
              ∧ t1.gate = s.gate ∧ t1.store = s.store ∧ t1.pose = s.pose ∧ t1.recorder = s.recorder))
      ∧ (Takes s ⟨tag, 0x14#8, []⟩ s' →
        (s.player.state = .ready →
            Replies .go s tag .ok [] { s' with player := { s.player with goPending := true } })
          ∧ (s.player.state ≠ .ready → Replies .go s tag .refused [] s'))
      ∧ (Takes s ⟨tag, 0x15#8, []⟩ s' →
        (s.player.state ≠ .suspended ∨ s.stop.state ≠ .run → Replies .resume s tag .refused [] s')
          ∧ (s.player.state = .suspended → s.stop.state = .run →
            ∃ t1 : State, Replies .resume s tag .ok [] t1
              ∧ t1.player =
                { s.player with
                  state := .cueing, suspendedFrom := none, rings := Vector.replicate 10 []
                  index := if s.player.suspendedFrom = some .playing then s.player.index - 1 else s.player.index }
              ∧ (∀ q : Fin 32, s.player.take = some q →
                Occurrences 5 [[0x04#8, 0x01#8, 0x01#8, u8 q.val] ++ natBE 3 t1.player.index] s t1)
              ∧ t1.gate = s.gate ∧ t1.store = s.store ∧ t1.pose = s.pose ∧ t1.recorder = s.recorder))
      ∧ (Takes s ⟨tag, 0x16#8, []⟩ s' →
        (s.player.state = .idle ∨ s.player.state = .cueing ∨ s.player.state = .playing →
            Replies .release s tag .refused [] s')
          ∧ (s.player.state = .ready ∨ s.player.state = .suspended ∨ s.player.state = .holding →
            ∃ t1 : State, Replies .release s tag .ok [] t1 ∧ t1.player = Player.initial
              ∧ Occurrences 5 [s.player.state.code :: List.replicate 6 0x00#8] s t1
              ∧ t1.gate = s.gate ∧ t1.store = s.store ∧ t1.pose = s.pose ∧ t1.recorder = s.recorder))

/-- The requests of the lenses (R126, R127, R138, R139): CURVE_LOAD with its tests in order, the curve stored with its
fingerprint, its points 2 to 24, within the user range of the axis, in order (R125); FOLLOW_ON with a preset, refused
without a focus curve or with axis 7 masked; FOLLOW_OFF. -/
def Obligations.LensRequestsAct : Prop :=
  (∀ (i : Fin 3) (points : List CurvePoint),
      let least : Nat := match i with | 0 => 1 | 1 => 50 | 2 => 10
      let most : Nat := match i with | 0 => 16777215 | 1 => 9999 | 2 => 30000
      let ordered (rises : CurvePoint → CurvePoint → Prop) : Prop :=
        ∀ (j : Nat) (p q : CurvePoint), points[j]? = some p → points[j + 1]? = some q → rises p q
      curvePointsOk i points = true
        ↔ 2 ≤ points.length ∧ points.length ≤ 24 ∧ (∀ p ∈ points, least ≤ p.user ∧ p.user ≤ most)
          ∧ ordered (fun p q => p.user < q.user)
          ∧ (ordered (fun p q => p.count < q.count) ∨ ordered fun p q => q.count < p.count))
    ∧ ∀ (s s' : State) (tag : Byte),
    (∀ (body : List Byte) (i : Fin 3) (identity : Vector Byte 4) (points : List CurvePoint),
        readCurveLoad body = some (i, identity, points) → Takes s ⟨tag, 0x17#8, body⟩ s' →
        let held : Prop :=
          s.player.mask[lensAxis i] = true ∨ (s.recorder.state ≠ .idle ∧ s.recorder.mask[lensAxis i] = true)
        let fit : Prop := curvePointsOk i points = true ∧ ∀ b ∈ identity.toList, b.toNat ≤ 127
        (held → Replies .curveLoad s tag .refused [] s')
          ∧ (¬held → ¬fit → Replies .curveLoad s tag .invalid [] s')
          ∧ (¬held → fit →
            let print := crc16 (identity.toList ++ points.flatMap fun p => natBE 4 p.user ++ intBE 4 p.count)
            Replies .curveLoad s tag .ok (natBE 2 print.toNat)
              { s' with
                lens := { s.lens with curves := s.lens.curves.set i.val ⟨true, points, identity, print⟩ } }))
      ∧ (∀ k : Fin 4, Takes s ⟨tag, 0x18#8, [u8 k.val]⟩ s' →
        (s.lens.curves[0].valid = false ∨ s.player.mask[7] = true → Replies .followOn s tag .refused [] s')
          ∧ (s.lens.curves[0].valid = true → s.player.mask[7] = false →
            Replies .followOn s tag .ok []
              { s' with
                lens :=
                  { s.lens with
                    follow :=
                      ⟨true, some k, s.lens.subjects[k].point, 0, s.lens.subjects[k].trimLimit, none⟩ } }))
      ∧ (∀ b : Byte, 4 ≤ b.toNat → Takes s ⟨tag, 0x18#8, [b]⟩ s' → Replies .followOn s tag .invalid [] s')
      ∧ (Takes s ⟨tag, 0x19#8, []⟩ s' →
        (s.lens.follow.on = true →
            Replies .followOff s tag .ok []
              { s' with
                lens :=
                  { s.lens with follow := { s.lens.follow with on := false, preset := none, trim := 0 } } })
          ∧ (s.lens.follow.on = false → Replies .followOff s tag .ok [] s'))

/-! ## Arithmetic of the head position, the lenses and the envelope -/

/-- m(v, c) is the floor division of R58, which rounds halves up and is exact at 16,384, 0 and −16,384. -/
def Obligations.ScaledProductRounds : Prop :=
  ∀ v c : Int,
    16384 * scaled v c ≤ v * c + 8192 ∧ v * c + 8192 < 16384 * (scaled v c + 1) ∧ scaled v 16384 = v
      ∧ scaled v 0 = 0 ∧ scaled v (-16384) = -v

/-- The entries of the table, which are the sines at whole multiples of 64 angle units, are 16,384 times the sine of
their angle, rounded to the nearest integer; those that the manual prints are as printed, and they rise strictly up to
entry 255 (R56); entry 255 is 16,384 by that formula, although R56 says that the table rises to the last (assumption
log 10). Between two entries the sine is the first one plus the proportional part of 64, the quotient floored with
halves up (R57). The sine lies in −16,384..16,384, repeats with a whole turn, is odd, and mirrors about a quarter
turn; within a quarter turn either side of horizontal the cosine is not negative, and neither is the horizontal reach,
which the arm length bounds (R57, R59). A unit value is the product of counts and multiplier, divided with its shift
by exact floor division with halves up and clamped to the signed 32-bit range (R54); the head position is the sum of
R59 over the reduced unit values of R55, each coordinate clamped to that range. -/
def Obligations.SinesAndReachAreBounded : Prop :=
  (∀ a : Int,
      (-16384 ≤ sine a ∧ sine a ≤ 16384) ∧ sine (a + 65536) = sine a ∧ sine (-a) = -sine a
        ∧ sine (32768 - a) = sine a)
    ∧ sine 16384 = 16384 ∧ sine 32768 = 0 ∧ sine 49152 = -16384
    ∧ (∀ k : Nat, k ≤ 256 → |(sine (64 * (k : Int)) : ℝ) - 16384 * Real.sin (k * Real.pi / 512)| < 1 / 2)
    ∧ [0, 32, 64, 96, 128, 160, 192, 224, 256].map (fun k : Int => sine (64 * k)) =
      [0, 3196, 6270, 9102, 11585, 13623, 15137, 16069, 16384]
    ∧ (∀ k : Nat, k < 255 → sine (64 * (k : Int)) < sine (64 * (k + 1 : Int))) ∧ sine (64 * 255) = 16384
    ∧ (∀ k f : Nat, k < 256 → f < 64 →
      let rise := sine (64 * (k + 1 : Int)) - sine (64 * (k : Int))
      let part := sine (64 * (k : Int) + f) - sine (64 * (k : Int))
      64 * part ≤ rise * f + 32 ∧ rise * f + 32 < 64 * (part + 1))
    ∧ (∀ a v : Int, -16384 ≤ a → a ≤ 16384 → 0 ≤ v →
      0 ≤ cosine a ∧ 0 ≤ scaled v (cosine a) ∧ scaled v (cosine a) ≤ v)
    ∧ (∀ (r : AxisRecord) (n : Int),
      let product := n * r.unitMultiplier
      (r.unitShift = 0 → unitValue r n = clampInt (-2147483648) 2147483647 product)
        ∧ (1 ≤ r.unitShift →
          ∃ q : Int, 2 ^ r.unitShift * q ≤ product + 2 ^ (r.unitShift - 1)
            ∧ product + 2 ^ (r.unitShift - 1) < 2 ^ r.unitShift * (q + 1)
            ∧ unitValue r n = clampInt (-2147483648) 2147483647 q))
    ∧ ∀ (p : Pose) (counts : Fin 4 → Int) (swing : Int), 0 ≤ swing → swing < 65536 →
      (65536 : Int) ∣ unitValue p.axes[1] (counts 1) - swing →
      let track := unitValue p.axes[0] (counts 0)
      let lift := clampInt (-16384) 16384 (unitValue p.axes[2] (counts 2))
      let arm := clampInt 0 30000 (unitValue p.axes[3] (counts 3))
      let reach := scaled arm (cosine lift)
      let i32 := clampInt (-2147483648) 2147483647
      headPoint p counts =
        { x := i32 (track + p.geometry.pivot.x + scaled reach (cosine swing))
          y := i32 (p.geometry.pivot.y + scaled reach (sine swing))
          z := i32 (p.geometry.pivot.z + scaled arm (sine lift) - p.geometry.headDrop) }

/-- The floor square root is the largest integer whose square is at or below its argument, and a follow submission
takes the root of the sum of the squares of the three differences, each clamped to −16,777,215..16,777,215, which is
at most 844,424,829,468,675 (R140). A follow submission, made while follow is on: distance plus trim, clamped to the
user range, is translated through the focus curve, the end-reached flag set where the curve ends first; the cycle, the
distance and the user value become the latest follow, and the count goes to the gate as a FOLLOW setpoint for axis 7
with the cycle of the pose. -/
def Obligations.FollowDistanceIsExact : Prop :=
  (∀ n : Nat, n < 2 ^ 52 → floorSqrt n * floorSqrt n ≤ n ∧ n < (floorSqrt n + 1) * (floorSqrt n + 1))
    ∧ (∀ p q : Point,
      let clamped := clampInt (-16777215) 16777215
      ∃ n : Nat, (n : Int) = clamped (p.x - q.x) ^ 2 + clamped (p.y - q.y) ^ 2 + clamped (p.z - q.z) ^ 2
        ∧ n ≤ 844424829468675 ∧ followDistance p q = floorSqrt n)
    ∧ ∀ (p : Point) (cycle : CycleNo) (s : State),
      (s.lens.follow.on = false → followSubmission p cycle s = s)
        ∧ (s.lens.follow.on = true →
          let curve := s.lens.curves[0]
          let distance := followDistance p s.lens.follow.subject
          let user := clampInt 1 16777215 (distance + s.lens.follow.trim)
          let beyond : Prop := user < (curve.at 0).user ∨ ((curve.at (curve.points.length - 1)).user : Int) < user
          ∃ s1 : State,
            s1 = { s with
                    lens :=
                      { s.lens with
                        endReached := s1.lens.endReached
                        follow := { s.lens.follow with latest := some ⟨cycle, distance, user.toNat⟩ } } }
              ∧ (beyond → s1.lens.endReached = s.lens.endReached.set 0 true)
              ∧ (¬beyond → s1.lens.endReached = s.lens.endReached)
              ∧ followSubmission p cycle s = submit .follow 7 (curve.forward user) cycle s1)

/-- Translation through a curve whose points are in order, rising or falling (R125, R129, R131): the count lies
between the first and the last, the user value within the user values of the curve, a value beyond an end of the curve
gives the value of that end, and at every point of the curve each translation gives the other value of the point.
Between two points the translation is the first one's value plus the proportional part, the quotient rounded to the
nearest integer with halves away from zero. -/
def Obligations.TranslationsKeepToTheCurve : Prop :=
  ∀ (i : Fin 3) (c : Curve), curvePointsOk i c.points = true →
    let first := c.at 0
    let final := c.at (c.points.length - 1)
    (∀ u : Int,
        min first.count final.count ≤ c.forward u ∧ c.forward u ≤ max first.count final.count
          ∧ (u ≤ first.user → c.forward u = first.count) ∧ ((final.user : Int) ≤ u → c.forward u = final.count))
      ∧ (∀ n : Int,
        (first.user : Int) ≤ c.inverse n ∧ c.inverse n ≤ final.user
          ∧ (first.count < final.count →
            (n ≤ first.count → c.inverse n = first.user) ∧ (final.count ≤ n → c.inverse n = final.user))
          ∧ (final.count < first.count →
            (first.count ≤ n → c.inverse n = first.user) ∧ (n ≤ final.count → c.inverse n = final.user)))
      ∧ (let nearest (a b q : Int) : Prop :=
          2 * b.natAbs * q.natAbs ≤ 2 * a.natAbs + b.natAbs ∧ 2 * a.natAbs + b.natAbs < 2 * b.natAbs * (q.natAbs + 1)
            ∧ 0 ≤ a * b * q
        ∀ j : Nat, j + 1 < c.points.length →
          let p := c.at j
          let q := c.at (j + 1)
          (∀ u : Int, (p.user : Int) ≤ u → u ≤ q.user →
              ∃ part : Int, nearest ((u - p.user) * (q.count - p.count)) ((q.user : Int) - p.user) part
                ∧ c.forward u = p.count + part)
            ∧ ∀ n : Int, min p.count q.count ≤ n → n ≤ max p.count q.count →
              ∃ part : Int, nearest ((n - p.count) * ((q.user : Int) - p.user)) (q.count - p.count) part
                ∧ c.inverse n = p.user + part)
      ∧ ∀ p ∈ c.points, c.forward p.user = p.count ∧ c.inverse p.count = p.user

/-- The stop projection and the swept box (R65, R67): the stop distance is the quotient rounded up; the projected
counts lie that far on in the direction of the velocity, clamped to the soft limits; the swept box spans both head
points, expanded by the head radius on every side and no further, so that it reaches the radius around both. -/
def Obligations.ProjectionAndSweptBox : Prop :=
  (∀ (v : Int) (a : Nat), 0 < a →
      v * v ≤ 2 * a * stopDistance v a ∧ (0 < stopDistance v a → 2 * a * (stopDistance v a - 1 : Int) < v * v))
    ∧ stopDistance 125 8 = 977
    ∧ (∀ (r : AxisRecord) (m : Motion), r.softMin ≤ r.softMax →
      r.softMin ≤ projected r m ∧ projected r m ≤ r.softMax
        ∧ (m.velocity = 0 → r.softMin ≤ m.position → m.position ≤ r.softMax → projected r m = m.position))
    ∧ (∀ (r : AxisRecord) (m : Motion),
      let d : Int := stopDistance m.velocity r.deceleration
      (0 < m.velocity → projected r m = clampInt r.softMin r.softMax (m.position + d))
        ∧ (m.velocity < 0 → projected r m = clampInt r.softMin r.softMax (m.position - d))
        ∧ (m.velocity = 0 → projected r m = clampInt r.softMin r.softMax m.position))
    ∧ (∀ (p q : Point) (radius : Nat),
      sweptBox p q radius =
        { lo := ⟨min p.x q.x - radius, min p.y q.y - radius, min p.z q.z - radius⟩
          hi := ⟨max p.x q.x + radius, max p.y q.y + radius, max p.z q.z + radius⟩ })
    ∧ ∀ (p q : Point) (radius : Nat) (x : Point),
      (∃ o : Point, (o = p ∨ o = q) ∧ (x.x - o.x).natAbs ≤ radius ∧ (x.y - o.y).natAbs ≤ radius
        ∧ (x.z - o.z).natAbs ≤ radius) →
      (sweptBox p q radius).holds x

/-- An evaluation (R67 to R71, R74, R75): a zone is INTRUDE where the swept box and the zone box have a point in
common, APPROACH where only the approach box does, and otherwise CLEAR; the zone factor is the smallest approach
factor of the zones not CLEAR, or 16; the zone component takes it, the effective scale agrees, and ZONE is present
exactly where an OBSTACLE or CREW zone is INTRUDE. The zones, the trim, the pose, the gate's counts and the lenses
stand. No command but those that carry a frame on D and the resets makes ZONE enter or leave the present set. Each
zone whose state changes raises notice 2 with its number, its kind, the old and the new state, and the cycle, in
ascending zone number (R72). -/
def Obligations.EvaluationsAct : Prop :=
  (∀ (cycle : CycleNo) (motions : Vector Motion 4) (p : Point) (s : State),
    let t := evaluate cycle motions p s
    let e := t.env.evaluation
    let q := headPoint s.pose (fun k => projected s.pose.axes[k.val] motions[k])
    let b := sweptBox p q s.pose.geometry.headRadius
    let common (x y : Box) : Prop := ∃ o : Point, x.holds o ∧ y.holds o
    let active (z : Zone) : Prop :=
      z.enabled = true ∧ (z.kind = .crew → ∃ i : Fin 8, z.presence = some i ∧ s.pins.presence[i] = true)
    e.evaluated = true ∧ e.cycle = some cycle ∧ e.p = some p ∧ e.q = some q ∧ e.swept = some b
      ∧ e.sample = s.pins.presence ∧ e.skipped = s.env.evaluation.skipped
      ∧ (∀ z : Fin 24,
        let r := s.env.zones[z]
        (∃ o : Point, r.box.holds o) →
          (active r → common b r.box → e.zones[z] = .intrude)
            ∧ (active r → ¬common b r.box → common (b.expand r.band) r.box → e.zones[z] = .approach)
            ∧ (¬active r ∨ ¬common (b.expand r.band) r.box → e.zones[z] = .clear))
      ∧ e.factor ≤ 16 ∧ (∀ z : Fin 24, e.zones[z] ≠ .clear → e.factor ≤ s.env.zones[z].factor)
      ∧ (e.factor = 16 ∨ ∃ z : Fin 24, e.zones[z] ≠ .clear ∧ e.factor = s.env.zones[z].factor)
      ∧ t.env.scale.zone = e.factor ∧ t.env.scale.trim = s.env.scale.trim ∧ t.env.scale.link = s.env.scale.link
      ∧ ScaleAgrees t
      ∧ (t.stop.present[Cause.zone.code] = true
        ↔ ∃ z : Fin 24, e.zones[z] = .intrude ∧ s.env.zones[z].kind ≠ .soft)
      ∧ (let kindCode (z : Fin 24) : Byte :=
          match s.env.zones[z].kind with | .obstacle => 0x00#8 | .crew => 0x01#8 | .soft => 0x02#8
        let stateCode (x : ZoneState) : Byte :=
          match x with | .clear => 0x00#8 | .approach => 0x01#8 | .intrude => 0x02#8
        let changed := (List.finRange 24).filter fun z => decide (s.env.evaluation.zones[z] ≠ e.zones[z])
        Occurrences 2
          (changed.map fun z =>
            [u8 z.val, kindCode z, stateCode s.env.evaluation.zones[z], stateCode e.zones[z]] ++ natBE 2 cycle.toNat)
          s t)
      ∧ t.env.zones = s.env.zones ∧ t.pose = s.pose ∧ t.lens = s.lens ∧ t.gate.clamps = s.gate.clamps
      ∧ t.gate.withheld = s.gate.withheld ∧ t.gate.overridden = s.gate.overridden)
    ∧ ∀ (i : Instr) (s t : State), exec i s = .next t → (∀ order bytes, i ≠ .fbkReceived order bytes) →
      (∀ bytes, i ≠ .rpyReceived bytes) → (∀ bytes cut, i ≠ .badFrame .d bytes cut) → i ≠ .coldReset →
      i ≠ .warmReset → t.stop.present[Cause.zone.code] = s.stop.present[Cause.zone.code]

/-! ## Cue matching and playing -/

/-- Matching (R177, R179): each cue byte of an arrival is taken by slot 0 first and slot 7 last, each slot from the
state that the slots before it left, their firings included. An enabled slot whose next pattern byte matches, a
wildcard or an equal byte, counts on, or with its last byte fires its action and returns to progress 0; one that does
not match restarts at progress 1 where its first byte matches, and otherwise at 0; a disabled slot takes no part, and
a firing changes no slot. So from progress 0 a run of bytes that match the pattern of the one enabled slot fires its
action once. A firing (R180, R181) has the effect and the result of the matching request, MARK always OK, and raises
notice 10 where the result is OK and notice 11 where it is any other, with the slot, the action, its arguments and the
result; the layout of that detail (assumption log 7), and that the notice comes after those of the action itself
(assumption log 9), are the model's reading. -/
def Obligations.CuePatternsFire : Prop :=
  (∀ (s : State) (b : Byte) (rest : List Byte), cueArrival (b :: rest) s = cueArrival rest (cueArrival [b] s))
    ∧ (∀ s : State, cueArrival [] s = s)
    ∧ (∀ (s : State) (b : Byte), ∃ at_ : Nat → State, at_ 0 = s ∧ at_ 8 = cueArrival [b] s ∧ ∀ n : Fin 8,
      let s0 := at_ n.val
      let c := s0.cues[n]
      let progress (p : Nat) : State := { s0 with cues := s0.cues.set n.val { c with progress := p } }
      (c.pattern = [] → at_ (n.val + 1) = s0)
        ∧ ∀ (x y : Byte) (a : CueAction), c.pattern[c.progress]? = some x → c.pattern.head? = some y →
          c.action = some a →
          let matched : Prop := x = 0x00#8 ∨ x = b
          (matched → c.progress + 1 = c.pattern.length → at_ (n.val + 1) = fire n a (progress 0))
            ∧ (matched → c.progress + 1 < c.pattern.length → at_ (n.val + 1) = progress (c.progress + 1))
            ∧ (¬matched → y = 0x00#8 ∨ y = b → at_ (n.val + 1) = progress 1)
            ∧ (¬matched → ¬(y = 0x00#8 ∨ y = b) → at_ (n.val + 1) = progress 0))
    ∧ (∀ (s : State) (n : Fin 8) (a : CueAction),
      s.cues[n].pattern ≠ [] → s.cues[n].action = some a → (∀ j : Fin 8, j ≠ n → s.cues[j].pattern = []) →
      s.cues[n].progress = 0 → ∀ bytes : List Byte,
        List.Forall₂ (fun x b => x = 0x00#8 ∨ x = b) s.cues[n].pattern bytes → cueArrival bytes s = fire n a s)
    ∧ (∀ (s : State) (n : Fin 8) (a : CueAction),
      let r := fireAction a s
      fire n a s =
          Machine.raise (if r.1 = .ok then 10 else 11) ([u8 n.val, a.code] ++ a.arguments ++ [r.1.code]) r.2
        ∧ (fire n a s).cues = s.cues ∧ (fire n a s).mgmt.requests = s.mgmt.requests ∧ fireAction .mark s = (.ok, s))
    ∧ ∀ (s s' : State) (tag : Byte),
      let acts (row : Instr) (a : CueAction) : Prop :=
        Replies row s tag (fireAction a s').1 [] (fireAction a s').2
      (∀ (t : Fin 32) (mask : FlagSet 10), Takes s ⟨tag, 0x0A#8, u8 t.val :: axisSetBytes mask⟩ s' →
          acts .armRecord (.recStart t mask))
        ∧ (Takes s ⟨tag, 0x0B#8, []⟩ s' → acts .stopRecord .recStop)
        ∧ (∀ t : Fin 32, Takes s ⟨tag, 0x13#8, [u8 t.val]⟩ s' → acts .cue (.cue t))
        ∧ (Takes s ⟨tag, 0x14#8, []⟩ s' → acts .go .go)
        ∧ (Takes s ⟨tag, 0x16#8, []⟩ s' → acts .release .release)
        ∧ ∀ k : Fin 4, Takes s ⟨tag, 0x18#8, [u8 k.val]⟩ s' → acts .followOn (.subject k)

/-- A CYC arrival at the Take Player (R165, R167 to R169). A pacing arrival of step g at a player that is PLAYING
plays the sample at index + g − 1, or the last: it submits the values of that sample, as they stand, as PLAYER
setpoints for the masked axes in ascending order with the cycle number of the arrival, the index then stands one past
it, and the last sample takes the player to HOLDING with notice 6. Likewise a pacing arrival at a READY player with GO
pending starts play with the sample at the index. Any other arrival at a READY player, and every arrival at a CUEING
one, submits the sample at the index as CUEING setpoints. An arrival with step 0, a step above 4 or no step plays
nothing, and a player in IDLE, SUSPENDED or HOLDING takes none. Playing leaves the take, its mask, and with the
recorder IDLE the store, as they stand. The notices of the start and the end of play follow the order of the text
(assumption log 9). The layout of the detail of notice 6, the take, the clamped flag and the peaks of the masked axes
in three bytes each without a count byte, is the model's reading (assumption log 7). -/
def Obligations.PlayingIsPaced : Prop :=
  (∀ m : FlagSet 10,
      (FlagSet.members m).Pairwise (fun j k => j.val < k.val) ∧ ∀ k : Fin 10, k ∈ FlagSet.members m ↔ m[k] = true)
    ∧ ∀ (s : State) (t : Fin 32) (cycle : CycleNo), s.player.take = some t →
      let final := s.store.takes[t].samples - 1
      let sent (src : Source) (n : Nat) (from_ : State) : State :=
        (FlagSet.members s.player.mask).foldl (fun u k => submit src k (u.store.sampleValue t k n) cycle u) from_
      let played (n : Nat) (from_ : State) : State :=
        let u := sent .player n from_
        let u1 : State := { u with player := { u.player with index := n + 1 } }
        if n = final then
          Machine.raise 6
            ([u8 t.val, flagByte u1.player.clamped]
              ++ (FlagSet.members s.player.mask).flatMap fun k => natBE 3 u1.player.peaks[k])
            (enterPlayer .holding u1)
        else u1
      (s.player.state = .playing → ∀ g : Nat, 1 ≤ g → g ≤ 4 →
          playerArrival cycle (some g) s = played (min (s.player.index + g - 1) final) s)
        ∧ (s.player.state = .playing → ∀ g : Nat, 1 ≤ g → g ≤ 4 → s.recorder.state = .idle →
          let n := min (s.player.index + g - 1) final
          let s1 := playerArrival cycle (some g) s
          s1.player.index = n + 1 ∧ s1.player.state = (if n = final then .holding else .playing)
            ∧ s1.player.take = some t ∧ s1.player.mask = s.player.mask ∧ s1.store = s.store
            ∧ s1.pose = s.pose ∧ s1.env = s.env)
        ∧ (s.player.state = .ready → s.player.goPending = true → ∀ g : Nat, 1 ≤ g → g ≤ 4 →
          playerArrival cycle (some g) s =
            played (min s.player.index final)
              (enterPlayer .playing { s with player := { s.player with goPending := false } }))
        ∧ (∀ step : Option Nat,
          s.player.state = .cueing
              ∨ (s.player.state = .ready
                ∧ (s.player.goPending = false ∨ ∀ g : Nat, step = some g → g = 0 ∨ 5 ≤ g)) →
          playerArrival cycle step s = sent .cueing s.player.index s)
        ∧ (s.player.state = .playing → ∀ g : Nat, g = 0 ∨ 5 ≤ g → playerArrival cycle (some g) s = s)
        ∧ (s.player.state = .playing → playerArrival cycle none s = s)
        ∧ (s.player.state = .idle ∨ s.player.state = .suspended ∨ s.player.state = .holding →
          ∀ step : Option Nat, playerArrival cycle step s = s)

/-! ## Invariants that every step keeps -/

/-- While a CUT-category cause is in the present set, the stop state is CUT, after every step (R105). -/
def Obligations.CutStandsAfterEveryStep : Prop := KeptByStep CutStands

/-- After every step the present set holds fifteen condition causes (CREW_STOP0 to 3, LINE_FAULT0 to 3, DRIVE_FAULT,
FEEDBACK_LOST, LINK_D, UNCONFIGURED, GRIP, CONSOLE_STOP and SYNC_LOST) exactly while their conditions hold, ZONE only
while the latest evaluation finds a zone INTRUDE, and no event cause (R97 to R102, R115, R117). Of the two other
condition causes, ZONE follows each evaluation in EvaluationsAct and MGMT_CUT the requests in StopRequestsAct; no
condition of another record says at every moment whether they are present. -/
def Obligations.PresentSetAgreesAfterEveryStep : Prop := KeptByStep PresentSetAgrees

/-- The drive enable output, the trip set, the timers and the lamps agree with the stop state after every step (R104,
R106, R108 to R110, R115, R120, R121). The lamp condition is that of the stop state outside RUN, and in RUN the first
that holds of ZONE_APPROACH, PLAYING, RECORDING, RUN_MOVING and RUN_IDLE (R120). -/
def Obligations.StopRecordAgreesAfterEveryStep : Prop :=
  (KeptByStep DriveEnableAgrees ∧ KeptByStep TripSetAgrees ∧ KeptByStep TimersAgree ∧ KeptByStep LampsAgree)
    ∧ ∀ s : State,
      let approach : Prop := ∃ z : Fin 24, s.env.evaluation.zones[z] ≠ .clear
      let moving : Prop :=
        ∃ k : Fin 10, k.val ≤ 6 ∧ s.pose.entries[k].present = true
          ∧ s.pose.axes[k].standstill < s.pose.entries[k].velocity.natAbs
      (s.stop.state = .cut → s.lampCondition = .cut) ∧ (s.stop.state = .ramp → s.lampCondition = .ramp)
        ∧ (s.stop.state = .held → s.lampCondition = .held) ∧ (s.stop.state = .parked → s.lampCondition = .parked)
        ∧ (s.stop.state = .run →
          (approach → s.lampCondition = .zoneApproach)
            ∧ (¬approach → s.player.state = .playing → s.lampCondition = .playing)
            ∧ (¬approach → s.player.state ≠ .playing → s.recorder.state = .recording → s.lampCondition = .recording)
            ∧ (¬approach → s.player.state ≠ .playing → s.recorder.state ≠ .recording →
              (moving → s.lampCondition = .runMoving) ∧ (¬moving → s.lampCondition = .runIdle)))

/-- After every step each valid last-forwarded value lies within the soft limits of its axis, and in CUT every entry
is invalid (R82, R83, R86, R90). -/
def Obligations.GateKeepsItsLimitsAfterEveryStep : Prop := KeptByStep LimitsHeld ∧ KeptByStep CutForgets

/-- No page is lost or doubled: after every step every page index stands exactly once, in the free page list or in one
page chain (R143, R145). -/
def Obligations.PagesAreConservedByEveryStep : Prop := KeptByStep PagesConserved

/-- The takes agree with the recorder, the player and an erasure under way after every step (R144, R145, R147, R148,
R153, R161); and with that, the chain of every take that is RECORDING, LOADING or CLOSED has as many pages as its
samples fill, samples over samples per page rounded up, and every page but the last of it is full (R146, R150, R158).
-/
def Obligations.TakesAgreeAfterEveryStep : Prop :=
  KeptByStep TakesAgree ∧ KeptByStep (fun s => TakesAgree s ∧ ChainsAgree s)

/-- Both port records keep to their states after every step (R24 to R30). The queues, the ages, the effective scale,
the history rings and the cue slots keep within their ranges after every step (R14, R16, R46, R48, R75, R173, R177,
R184), and a lens axis is stale exactly while its record is valid, its entry present and its age above the age limit
(R50). The page memory keeps its canonical form, a strictly rising list of words with none of value 0: that form is
the model's choice (assumption log 15). -/
def Obligations.PortsAndRangesAgreeAfterEveryStep : Prop :=
  (KeptByStep PortsAgree)
    ∧ (KeptByStep MemoryCanonical ∧ KeptByStep QueuesBounded ∧ KeptByStep AgesBounded ∧ KeptByStep ScaleAgrees
      ∧ KeptByStep RingsBounded ∧ KeptByStep SlotsAgree)
    ∧ KeptByStep StaleAgrees

/-- While the configuration lock is set, every command but COLD_RESET and UNLOCK_CONFIG leaves the lock set, and every
command but COLD_RESET leaves the records of AXIS, GEOMETRY, ZONE, STOP_CONFIG, GESTURE and LAMP_MAP as they stand
(R188). -/
def Obligations.LockedConfigurationStands : Prop :=
  ∀ (i : Instr) (s t : State), s.mgmt.locked = true → exec i s = .next t → i ≠ .coldReset →
    t.pose.axes = s.pose.axes ∧ t.pose.geometry = s.pose.geometry ∧ t.env.zones = s.env.zones
      ∧ t.stop.config = s.stop.config ∧ t.stop.gesture = s.stop.gesture ∧ t.stop.lampMap = s.stop.lampMap
      ∧ (i ≠ .unlockConfig → t.mgmt.locked = true)
end

