-- ==== Sys2Proof/Laws/State.lean ====
section
/-! SUPPORT. What each update of one record does to each record of the state, true by rfl. -/

namespace Sys2Proof.Machine

variable (s : State)

@[simp] theorem State.withPending_pending (x : List Instr) : (s.withPending x).pending = x := rfl
@[simp] theorem State.withPending_timebase (x : List Instr) : (s.withPending x).timebase = s.timebase := rfl
@[simp] theorem State.withPending_pins (x : List Instr) : (s.withPending x).pins = s.pins := rfl
@[simp] theorem State.withPending_spine (x : List Instr) : (s.withPending x).spine = s.spine := rfl
@[simp] theorem State.withPending_cycle (x : List Instr) : (s.withPending x).cycle = s.cycle := rfl
@[simp] theorem State.withPending_link (x : List Instr) : (s.withPending x).link = s.link := rfl
@[simp] theorem State.withPending_pose (x : List Instr) : (s.withPending x).pose = s.pose := rfl
@[simp] theorem State.withPending_env (x : List Instr) : (s.withPending x).env = s.env := rfl
@[simp] theorem State.withPending_gate (x : List Instr) : (s.withPending x).gate = s.gate := rfl
@[simp] theorem State.withPending_stop (x : List Instr) : (s.withPending x).stop = s.stop := rfl
@[simp] theorem State.withPending_lens (x : List Instr) : (s.withPending x).lens = s.lens := rfl
@[simp] theorem State.withPending_store (x : List Instr) : (s.withPending x).store = s.store := rfl
@[simp] theorem State.withPending_recorder (x : List Instr) : (s.withPending x).recorder = s.recorder := rfl
@[simp] theorem State.withPending_player (x : List Instr) : (s.withPending x).player = s.player := rfl
@[simp] theorem State.withPending_cues (x : List Instr) : (s.withPending x).cues = s.cues := rfl
@[simp] theorem State.withPending_mgmt (x : List Instr) : (s.withPending x).mgmt = s.mgmt := rfl
@[simp] theorem State.withPending_notices (x : List Instr) : (s.withPending x).notices = s.notices := rfl

@[simp] theorem State.withTimebase_pending (x : Nat) : (s.withTimebase x).pending = s.pending := rfl
@[simp] theorem State.withTimebase_timebase (x : Nat) : (s.withTimebase x).timebase = x := rfl
@[simp] theorem State.withTimebase_pins (x : Nat) : (s.withTimebase x).pins = s.pins := rfl
@[simp] theorem State.withTimebase_spine (x : Nat) : (s.withTimebase x).spine = s.spine := rfl
@[simp] theorem State.withTimebase_cycle (x : Nat) : (s.withTimebase x).cycle = s.cycle := rfl
@[simp] theorem State.withTimebase_link (x : Nat) : (s.withTimebase x).link = s.link := rfl
@[simp] theorem State.withTimebase_pose (x : Nat) : (s.withTimebase x).pose = s.pose := rfl
@[simp] theorem State.withTimebase_env (x : Nat) : (s.withTimebase x).env = s.env := rfl
@[simp] theorem State.withTimebase_gate (x : Nat) : (s.withTimebase x).gate = s.gate := rfl
@[simp] theorem State.withTimebase_stop (x : Nat) : (s.withTimebase x).stop = s.stop := rfl
@[simp] theorem State.withTimebase_lens (x : Nat) : (s.withTimebase x).lens = s.lens := rfl
@[simp] theorem State.withTimebase_store (x : Nat) : (s.withTimebase x).store = s.store := rfl
@[simp] theorem State.withTimebase_recorder (x : Nat) : (s.withTimebase x).recorder = s.recorder := rfl
@[simp] theorem State.withTimebase_player (x : Nat) : (s.withTimebase x).player = s.player := rfl
@[simp] theorem State.withTimebase_cues (x : Nat) : (s.withTimebase x).cues = s.cues := rfl
@[simp] theorem State.withTimebase_mgmt (x : Nat) : (s.withTimebase x).mgmt = s.mgmt := rfl
@[simp] theorem State.withTimebase_notices (x : Nat) : (s.withTimebase x).notices = s.notices := rfl

@[simp] theorem State.withPins_pending (x : Pins) : (s.withPins x).pending = s.pending := rfl
@[simp] theorem State.withPins_timebase (x : Pins) : (s.withPins x).timebase = s.timebase := rfl
@[simp] theorem State.withPins_pins (x : Pins) : (s.withPins x).pins = x := rfl
@[simp] theorem State.withPins_spine (x : Pins) : (s.withPins x).spine = s.spine := rfl
@[simp] theorem State.withPins_cycle (x : Pins) : (s.withPins x).cycle = s.cycle := rfl
@[simp] theorem State.withPins_link (x : Pins) : (s.withPins x).link = s.link := rfl
@[simp] theorem State.withPins_pose (x : Pins) : (s.withPins x).pose = s.pose := rfl
@[simp] theorem State.withPins_env (x : Pins) : (s.withPins x).env = s.env := rfl
@[simp] theorem State.withPins_gate (x : Pins) : (s.withPins x).gate = s.gate := rfl
@[simp] theorem State.withPins_stop (x : Pins) : (s.withPins x).stop = s.stop := rfl
@[simp] theorem State.withPins_lens (x : Pins) : (s.withPins x).lens = s.lens := rfl
@[simp] theorem State.withPins_store (x : Pins) : (s.withPins x).store = s.store := rfl
@[simp] theorem State.withPins_recorder (x : Pins) : (s.withPins x).recorder = s.recorder := rfl
@[simp] theorem State.withPins_player (x : Pins) : (s.withPins x).player = s.player := rfl
@[simp] theorem State.withPins_cues (x : Pins) : (s.withPins x).cues = s.cues := rfl
@[simp] theorem State.withPins_mgmt (x : Pins) : (s.withPins x).mgmt = s.mgmt := rfl
@[simp] theorem State.withPins_notices (x : Pins) : (s.withPins x).notices = s.notices := rfl

@[simp] theorem State.withSpine_pending (x : Spine) : (s.withSpine x).pending = s.pending := rfl
@[simp] theorem State.withSpine_timebase (x : Spine) : (s.withSpine x).timebase = s.timebase := rfl
@[simp] theorem State.withSpine_pins (x : Spine) : (s.withSpine x).pins = s.pins := rfl
@[simp] theorem State.withSpine_spine (x : Spine) : (s.withSpine x).spine = x := rfl
@[simp] theorem State.withSpine_cycle (x : Spine) : (s.withSpine x).cycle = s.cycle := rfl
@[simp] theorem State.withSpine_link (x : Spine) : (s.withSpine x).link = s.link := rfl
@[simp] theorem State.withSpine_pose (x : Spine) : (s.withSpine x).pose = s.pose := rfl
@[simp] theorem State.withSpine_env (x : Spine) : (s.withSpine x).env = s.env := rfl
@[simp] theorem State.withSpine_gate (x : Spine) : (s.withSpine x).gate = s.gate := rfl
@[simp] theorem State.withSpine_stop (x : Spine) : (s.withSpine x).stop = s.stop := rfl
@[simp] theorem State.withSpine_lens (x : Spine) : (s.withSpine x).lens = s.lens := rfl
@[simp] theorem State.withSpine_store (x : Spine) : (s.withSpine x).store = s.store := rfl
@[simp] theorem State.withSpine_recorder (x : Spine) : (s.withSpine x).recorder = s.recorder := rfl
@[simp] theorem State.withSpine_player (x : Spine) : (s.withSpine x).player = s.player := rfl
@[simp] theorem State.withSpine_cues (x : Spine) : (s.withSpine x).cues = s.cues := rfl
@[simp] theorem State.withSpine_mgmt (x : Spine) : (s.withSpine x).mgmt = s.mgmt := rfl
@[simp] theorem State.withSpine_notices (x : Spine) : (s.withSpine x).notices = s.notices := rfl

@[simp] theorem State.withCycle_pending (x : CycleRecord) : (s.withCycle x).pending = s.pending := rfl
@[simp] theorem State.withCycle_timebase (x : CycleRecord) : (s.withCycle x).timebase = s.timebase := rfl
@[simp] theorem State.withCycle_pins (x : CycleRecord) : (s.withCycle x).pins = s.pins := rfl
@[simp] theorem State.withCycle_spine (x : CycleRecord) : (s.withCycle x).spine = s.spine := rfl
@[simp] theorem State.withCycle_cycle (x : CycleRecord) : (s.withCycle x).cycle = x := rfl
@[simp] theorem State.withCycle_link (x : CycleRecord) : (s.withCycle x).link = s.link := rfl
@[simp] theorem State.withCycle_pose (x : CycleRecord) : (s.withCycle x).pose = s.pose := rfl
@[simp] theorem State.withCycle_env (x : CycleRecord) : (s.withCycle x).env = s.env := rfl
@[simp] theorem State.withCycle_gate (x : CycleRecord) : (s.withCycle x).gate = s.gate := rfl
@[simp] theorem State.withCycle_stop (x : CycleRecord) : (s.withCycle x).stop = s.stop := rfl
@[simp] theorem State.withCycle_lens (x : CycleRecord) : (s.withCycle x).lens = s.lens := rfl
@[simp] theorem State.withCycle_store (x : CycleRecord) : (s.withCycle x).store = s.store := rfl
@[simp] theorem State.withCycle_recorder (x : CycleRecord) : (s.withCycle x).recorder = s.recorder := rfl
@[simp] theorem State.withCycle_player (x : CycleRecord) : (s.withCycle x).player = s.player := rfl
@[simp] theorem State.withCycle_cues (x : CycleRecord) : (s.withCycle x).cues = s.cues := rfl
@[simp] theorem State.withCycle_mgmt (x : CycleRecord) : (s.withCycle x).mgmt = s.mgmt := rfl
@[simp] theorem State.withCycle_notices (x : CycleRecord) : (s.withCycle x).notices = s.notices := rfl

@[simp] theorem State.withLink_pending (x : Link) : (s.withLink x).pending = s.pending := rfl
@[simp] theorem State.withLink_timebase (x : Link) : (s.withLink x).timebase = s.timebase := rfl
@[simp] theorem State.withLink_pins (x : Link) : (s.withLink x).pins = s.pins := rfl
@[simp] theorem State.withLink_spine (x : Link) : (s.withLink x).spine = s.spine := rfl
@[simp] theorem State.withLink_cycle (x : Link) : (s.withLink x).cycle = s.cycle := rfl
@[simp] theorem State.withLink_link (x : Link) : (s.withLink x).link = x := rfl
@[simp] theorem State.withLink_pose (x : Link) : (s.withLink x).pose = s.pose := rfl
@[simp] theorem State.withLink_env (x : Link) : (s.withLink x).env = s.env := rfl
@[simp] theorem State.withLink_gate (x : Link) : (s.withLink x).gate = s.gate := rfl
@[simp] theorem State.withLink_stop (x : Link) : (s.withLink x).stop = s.stop := rfl
@[simp] theorem State.withLink_lens (x : Link) : (s.withLink x).lens = s.lens := rfl
@[simp] theorem State.withLink_store (x : Link) : (s.withLink x).store = s.store := rfl
@[simp] theorem State.withLink_recorder (x : Link) : (s.withLink x).recorder = s.recorder := rfl
@[simp] theorem State.withLink_player (x : Link) : (s.withLink x).player = s.player := rfl
@[simp] theorem State.withLink_cues (x : Link) : (s.withLink x).cues = s.cues := rfl
@[simp] theorem State.withLink_mgmt (x : Link) : (s.withLink x).mgmt = s.mgmt := rfl
@[simp] theorem State.withLink_notices (x : Link) : (s.withLink x).notices = s.notices := rfl

@[simp] theorem State.withPose_pending (x : Pose) : (s.withPose x).pending = s.pending := rfl
@[simp] theorem State.withPose_timebase (x : Pose) : (s.withPose x).timebase = s.timebase := rfl
@[simp] theorem State.withPose_pins (x : Pose) : (s.withPose x).pins = s.pins := rfl
@[simp] theorem State.withPose_spine (x : Pose) : (s.withPose x).spine = s.spine := rfl
@[simp] theorem State.withPose_cycle (x : Pose) : (s.withPose x).cycle = s.cycle := rfl
@[simp] theorem State.withPose_link (x : Pose) : (s.withPose x).link = s.link := rfl
@[simp] theorem State.withPose_pose (x : Pose) : (s.withPose x).pose = x := rfl
@[simp] theorem State.withPose_env (x : Pose) : (s.withPose x).env = s.env := rfl
@[simp] theorem State.withPose_gate (x : Pose) : (s.withPose x).gate = s.gate := rfl
@[simp] theorem State.withPose_stop (x : Pose) : (s.withPose x).stop = s.stop := rfl
@[simp] theorem State.withPose_lens (x : Pose) : (s.withPose x).lens = s.lens := rfl
@[simp] theorem State.withPose_store (x : Pose) : (s.withPose x).store = s.store := rfl
@[simp] theorem State.withPose_recorder (x : Pose) : (s.withPose x).recorder = s.recorder := rfl
@[simp] theorem State.withPose_player (x : Pose) : (s.withPose x).player = s.player := rfl
@[simp] theorem State.withPose_cues (x : Pose) : (s.withPose x).cues = s.cues := rfl
@[simp] theorem State.withPose_mgmt (x : Pose) : (s.withPose x).mgmt = s.mgmt := rfl
@[simp] theorem State.withPose_notices (x : Pose) : (s.withPose x).notices = s.notices := rfl

@[simp] theorem State.withEnv_pending (x : Envelope) : (s.withEnv x).pending = s.pending := rfl
@[simp] theorem State.withEnv_timebase (x : Envelope) : (s.withEnv x).timebase = s.timebase := rfl
@[simp] theorem State.withEnv_pins (x : Envelope) : (s.withEnv x).pins = s.pins := rfl
@[simp] theorem State.withEnv_spine (x : Envelope) : (s.withEnv x).spine = s.spine := rfl
@[simp] theorem State.withEnv_cycle (x : Envelope) : (s.withEnv x).cycle = s.cycle := rfl
@[simp] theorem State.withEnv_link (x : Envelope) : (s.withEnv x).link = s.link := rfl
@[simp] theorem State.withEnv_pose (x : Envelope) : (s.withEnv x).pose = s.pose := rfl
@[simp] theorem State.withEnv_env (x : Envelope) : (s.withEnv x).env = x := rfl
@[simp] theorem State.withEnv_gate (x : Envelope) : (s.withEnv x).gate = s.gate := rfl
@[simp] theorem State.withEnv_stop (x : Envelope) : (s.withEnv x).stop = s.stop := rfl
@[simp] theorem State.withEnv_lens (x : Envelope) : (s.withEnv x).lens = s.lens := rfl
@[simp] theorem State.withEnv_store (x : Envelope) : (s.withEnv x).store = s.store := rfl
@[simp] theorem State.withEnv_recorder (x : Envelope) : (s.withEnv x).recorder = s.recorder := rfl
@[simp] theorem State.withEnv_player (x : Envelope) : (s.withEnv x).player = s.player := rfl
@[simp] theorem State.withEnv_cues (x : Envelope) : (s.withEnv x).cues = s.cues := rfl
@[simp] theorem State.withEnv_mgmt (x : Envelope) : (s.withEnv x).mgmt = s.mgmt := rfl
@[simp] theorem State.withEnv_notices (x : Envelope) : (s.withEnv x).notices = s.notices := rfl

@[simp] theorem State.withGate_pending (x : Gate) : (s.withGate x).pending = s.pending := rfl
@[simp] theorem State.withGate_timebase (x : Gate) : (s.withGate x).timebase = s.timebase := rfl
@[simp] theorem State.withGate_pins (x : Gate) : (s.withGate x).pins = s.pins := rfl
@[simp] theorem State.withGate_spine (x : Gate) : (s.withGate x).spine = s.spine := rfl
@[simp] theorem State.withGate_cycle (x : Gate) : (s.withGate x).cycle = s.cycle := rfl
@[simp] theorem State.withGate_link (x : Gate) : (s.withGate x).link = s.link := rfl
@[simp] theorem State.withGate_pose (x : Gate) : (s.withGate x).pose = s.pose := rfl
@[simp] theorem State.withGate_env (x : Gate) : (s.withGate x).env = s.env := rfl
@[simp] theorem State.withGate_gate (x : Gate) : (s.withGate x).gate = x := rfl
@[simp] theorem State.withGate_stop (x : Gate) : (s.withGate x).stop = s.stop := rfl
@[simp] theorem State.withGate_lens (x : Gate) : (s.withGate x).lens = s.lens := rfl
@[simp] theorem State.withGate_store (x : Gate) : (s.withGate x).store = s.store := rfl
@[simp] theorem State.withGate_recorder (x : Gate) : (s.withGate x).recorder = s.recorder := rfl
@[simp] theorem State.withGate_player (x : Gate) : (s.withGate x).player = s.player := rfl
@[simp] theorem State.withGate_cues (x : Gate) : (s.withGate x).cues = s.cues := rfl
@[simp] theorem State.withGate_mgmt (x : Gate) : (s.withGate x).mgmt = s.mgmt := rfl
@[simp] theorem State.withGate_notices (x : Gate) : (s.withGate x).notices = s.notices := rfl

@[simp] theorem State.withStop_pending (x : Stop) : (s.withStop x).pending = s.pending := rfl
@[simp] theorem State.withStop_timebase (x : Stop) : (s.withStop x).timebase = s.timebase := rfl
@[simp] theorem State.withStop_pins (x : Stop) : (s.withStop x).pins = s.pins := rfl
@[simp] theorem State.withStop_spine (x : Stop) : (s.withStop x).spine = s.spine := rfl
@[simp] theorem State.withStop_cycle (x : Stop) : (s.withStop x).cycle = s.cycle := rfl
@[simp] theorem State.withStop_link (x : Stop) : (s.withStop x).link = s.link := rfl
@[simp] theorem State.withStop_pose (x : Stop) : (s.withStop x).pose = s.pose := rfl
@[simp] theorem State.withStop_env (x : Stop) : (s.withStop x).env = s.env := rfl
@[simp] theorem State.withStop_gate (x : Stop) : (s.withStop x).gate = s.gate := rfl
@[simp] theorem State.withStop_stop (x : Stop) : (s.withStop x).stop = x := rfl
@[simp] theorem State.withStop_lens (x : Stop) : (s.withStop x).lens = s.lens := rfl
@[simp] theorem State.withStop_store (x : Stop) : (s.withStop x).store = s.store := rfl
@[simp] theorem State.withStop_recorder (x : Stop) : (s.withStop x).recorder = s.recorder := rfl
@[simp] theorem State.withStop_player (x : Stop) : (s.withStop x).player = s.player := rfl
@[simp] theorem State.withStop_cues (x : Stop) : (s.withStop x).cues = s.cues := rfl
@[simp] theorem State.withStop_mgmt (x : Stop) : (s.withStop x).mgmt = s.mgmt := rfl
@[simp] theorem State.withStop_notices (x : Stop) : (s.withStop x).notices = s.notices := rfl

@[simp] theorem State.withLens_pending (x : Lens) : (s.withLens x).pending = s.pending := rfl
@[simp] theorem State.withLens_timebase (x : Lens) : (s.withLens x).timebase = s.timebase := rfl
@[simp] theorem State.withLens_pins (x : Lens) : (s.withLens x).pins = s.pins := rfl
@[simp] theorem State.withLens_spine (x : Lens) : (s.withLens x).spine = s.spine := rfl
@[simp] theorem State.withLens_cycle (x : Lens) : (s.withLens x).cycle = s.cycle := rfl
@[simp] theorem State.withLens_link (x : Lens) : (s.withLens x).link = s.link := rfl
@[simp] theorem State.withLens_pose (x : Lens) : (s.withLens x).pose = s.pose := rfl
@[simp] theorem State.withLens_env (x : Lens) : (s.withLens x).env = s.env := rfl
@[simp] theorem State.withLens_gate (x : Lens) : (s.withLens x).gate = s.gate := rfl
@[simp] theorem State.withLens_stop (x : Lens) : (s.withLens x).stop = s.stop := rfl
@[simp] theorem State.withLens_lens (x : Lens) : (s.withLens x).lens = x := rfl
@[simp] theorem State.withLens_store (x : Lens) : (s.withLens x).store = s.store := rfl
@[simp] theorem State.withLens_recorder (x : Lens) : (s.withLens x).recorder = s.recorder := rfl
@[simp] theorem State.withLens_player (x : Lens) : (s.withLens x).player = s.player := rfl
@[simp] theorem State.withLens_cues (x : Lens) : (s.withLens x).cues = s.cues := rfl
@[simp] theorem State.withLens_mgmt (x : Lens) : (s.withLens x).mgmt = s.mgmt := rfl
@[simp] theorem State.withLens_notices (x : Lens) : (s.withLens x).notices = s.notices := rfl

@[simp] theorem State.withStore_pending (x : Store) : (s.withStore x).pending = s.pending := rfl
@[simp] theorem State.withStore_timebase (x : Store) : (s.withStore x).timebase = s.timebase := rfl
@[simp] theorem State.withStore_pins (x : Store) : (s.withStore x).pins = s.pins := rfl
@[simp] theorem State.withStore_spine (x : Store) : (s.withStore x).spine = s.spine := rfl
@[simp] theorem State.withStore_cycle (x : Store) : (s.withStore x).cycle = s.cycle := rfl
@[simp] theorem State.withStore_link (x : Store) : (s.withStore x).link = s.link := rfl
@[simp] theorem State.withStore_pose (x : Store) : (s.withStore x).pose = s.pose := rfl
@[simp] theorem State.withStore_env (x : Store) : (s.withStore x).env = s.env := rfl
@[simp] theorem State.withStore_gate (x : Store) : (s.withStore x).gate = s.gate := rfl
@[simp] theorem State.withStore_stop (x : Store) : (s.withStore x).stop = s.stop := rfl
@[simp] theorem State.withStore_lens (x : Store) : (s.withStore x).lens = s.lens := rfl
@[simp] theorem State.withStore_store (x : Store) : (s.withStore x).store = x := rfl
@[simp] theorem State.withStore_recorder (x : Store) : (s.withStore x).recorder = s.recorder := rfl
@[simp] theorem State.withStore_player (x : Store) : (s.withStore x).player = s.player := rfl
@[simp] theorem State.withStore_cues (x : Store) : (s.withStore x).cues = s.cues := rfl
@[simp] theorem State.withStore_mgmt (x : Store) : (s.withStore x).mgmt = s.mgmt := rfl
@[simp] theorem State.withStore_notices (x : Store) : (s.withStore x).notices = s.notices := rfl

@[simp] theorem State.withRecorder_pending (x : Recorder) : (s.withRecorder x).pending = s.pending := rfl
@[simp] theorem State.withRecorder_timebase (x : Recorder) : (s.withRecorder x).timebase = s.timebase := rfl
@[simp] theorem State.withRecorder_pins (x : Recorder) : (s.withRecorder x).pins = s.pins := rfl
@[simp] theorem State.withRecorder_spine (x : Recorder) : (s.withRecorder x).spine = s.spine := rfl
@[simp] theorem State.withRecorder_cycle (x : Recorder) : (s.withRecorder x).cycle = s.cycle := rfl
@[simp] theorem State.withRecorder_link (x : Recorder) : (s.withRecorder x).link = s.link := rfl
@[simp] theorem State.withRecorder_pose (x : Recorder) : (s.withRecorder x).pose = s.pose := rfl
@[simp] theorem State.withRecorder_env (x : Recorder) : (s.withRecorder x).env = s.env := rfl
@[simp] theorem State.withRecorder_gate (x : Recorder) : (s.withRecorder x).gate = s.gate := rfl
@[simp] theorem State.withRecorder_stop (x : Recorder) : (s.withRecorder x).stop = s.stop := rfl
@[simp] theorem State.withRecorder_lens (x : Recorder) : (s.withRecorder x).lens = s.lens := rfl
@[simp] theorem State.withRecorder_store (x : Recorder) : (s.withRecorder x).store = s.store := rfl
@[simp] theorem State.withRecorder_recorder (x : Recorder) : (s.withRecorder x).recorder = x := rfl
@[simp] theorem State.withRecorder_player (x : Recorder) : (s.withRecorder x).player = s.player := rfl
@[simp] theorem State.withRecorder_cues (x : Recorder) : (s.withRecorder x).cues = s.cues := rfl
@[simp] theorem State.withRecorder_mgmt (x : Recorder) : (s.withRecorder x).mgmt = s.mgmt := rfl
@[simp] theorem State.withRecorder_notices (x : Recorder) : (s.withRecorder x).notices = s.notices := rfl

@[simp] theorem State.withPlayer_pending (x : Player) : (s.withPlayer x).pending = s.pending := rfl
@[simp] theorem State.withPlayer_timebase (x : Player) : (s.withPlayer x).timebase = s.timebase := rfl
@[simp] theorem State.withPlayer_pins (x : Player) : (s.withPlayer x).pins = s.pins := rfl
@[simp] theorem State.withPlayer_spine (x : Player) : (s.withPlayer x).spine = s.spine := rfl
@[simp] theorem State.withPlayer_cycle (x : Player) : (s.withPlayer x).cycle = s.cycle := rfl
@[simp] theorem State.withPlayer_link (x : Player) : (s.withPlayer x).link = s.link := rfl
@[simp] theorem State.withPlayer_pose (x : Player) : (s.withPlayer x).pose = s.pose := rfl
@[simp] theorem State.withPlayer_env (x : Player) : (s.withPlayer x).env = s.env := rfl
@[simp] theorem State.withPlayer_gate (x : Player) : (s.withPlayer x).gate = s.gate := rfl
@[simp] theorem State.withPlayer_stop (x : Player) : (s.withPlayer x).stop = s.stop := rfl
@[simp] theorem State.withPlayer_lens (x : Player) : (s.withPlayer x).lens = s.lens := rfl
@[simp] theorem State.withPlayer_store (x : Player) : (s.withPlayer x).store = s.store := rfl
@[simp] theorem State.withPlayer_recorder (x : Player) : (s.withPlayer x).recorder = s.recorder := rfl
@[simp] theorem State.withPlayer_player (x : Player) : (s.withPlayer x).player = x := rfl
@[simp] theorem State.withPlayer_cues (x : Player) : (s.withPlayer x).cues = s.cues := rfl
@[simp] theorem State.withPlayer_mgmt (x : Player) : (s.withPlayer x).mgmt = s.mgmt := rfl
@[simp] theorem State.withPlayer_notices (x : Player) : (s.withPlayer x).notices = s.notices := rfl

@[simp] theorem State.withCues_pending (x : Vector CueSlot 8) : (s.withCues x).pending = s.pending := rfl
@[simp] theorem State.withCues_timebase (x : Vector CueSlot 8) : (s.withCues x).timebase = s.timebase := rfl
@[simp] theorem State.withCues_pins (x : Vector CueSlot 8) : (s.withCues x).pins = s.pins := rfl
@[simp] theorem State.withCues_spine (x : Vector CueSlot 8) : (s.withCues x).spine = s.spine := rfl
@[simp] theorem State.withCues_cycle (x : Vector CueSlot 8) : (s.withCues x).cycle = s.cycle := rfl
@[simp] theorem State.withCues_link (x : Vector CueSlot 8) : (s.withCues x).link = s.link := rfl
@[simp] theorem State.withCues_pose (x : Vector CueSlot 8) : (s.withCues x).pose = s.pose := rfl
@[simp] theorem State.withCues_env (x : Vector CueSlot 8) : (s.withCues x).env = s.env := rfl
@[simp] theorem State.withCues_gate (x : Vector CueSlot 8) : (s.withCues x).gate = s.gate := rfl
@[simp] theorem State.withCues_stop (x : Vector CueSlot 8) : (s.withCues x).stop = s.stop := rfl
@[simp] theorem State.withCues_lens (x : Vector CueSlot 8) : (s.withCues x).lens = s.lens := rfl
@[simp] theorem State.withCues_store (x : Vector CueSlot 8) : (s.withCues x).store = s.store := rfl
@[simp] theorem State.withCues_recorder (x : Vector CueSlot 8) : (s.withCues x).recorder = s.recorder := rfl
@[simp] theorem State.withCues_player (x : Vector CueSlot 8) : (s.withCues x).player = s.player := rfl
@[simp] theorem State.withCues_cues (x : Vector CueSlot 8) : (s.withCues x).cues = x := rfl
@[simp] theorem State.withCues_mgmt (x : Vector CueSlot 8) : (s.withCues x).mgmt = s.mgmt := rfl
@[simp] theorem State.withCues_notices (x : Vector CueSlot 8) : (s.withCues x).notices = s.notices := rfl

@[simp] theorem State.withMgmt_pending (x : Mgmt) : (s.withMgmt x).pending = s.pending := rfl
@[simp] theorem State.withMgmt_timebase (x : Mgmt) : (s.withMgmt x).timebase = s.timebase := rfl
@[simp] theorem State.withMgmt_pins (x : Mgmt) : (s.withMgmt x).pins = s.pins := rfl
@[simp] theorem State.withMgmt_spine (x : Mgmt) : (s.withMgmt x).spine = s.spine := rfl
@[simp] theorem State.withMgmt_cycle (x : Mgmt) : (s.withMgmt x).cycle = s.cycle := rfl
@[simp] theorem State.withMgmt_link (x : Mgmt) : (s.withMgmt x).link = s.link := rfl
@[simp] theorem State.withMgmt_pose (x : Mgmt) : (s.withMgmt x).pose = s.pose := rfl
@[simp] theorem State.withMgmt_env (x : Mgmt) : (s.withMgmt x).env = s.env := rfl
@[simp] theorem State.withMgmt_gate (x : Mgmt) : (s.withMgmt x).gate = s.gate := rfl
@[simp] theorem State.withMgmt_stop (x : Mgmt) : (s.withMgmt x).stop = s.stop := rfl
@[simp] theorem State.withMgmt_lens (x : Mgmt) : (s.withMgmt x).lens = s.lens := rfl
@[simp] theorem State.withMgmt_store (x : Mgmt) : (s.withMgmt x).store = s.store := rfl
@[simp] theorem State.withMgmt_recorder (x : Mgmt) : (s.withMgmt x).recorder = s.recorder := rfl
@[simp] theorem State.withMgmt_player (x : Mgmt) : (s.withMgmt x).player = s.player := rfl
@[simp] theorem State.withMgmt_cues (x : Mgmt) : (s.withMgmt x).cues = s.cues := rfl
@[simp] theorem State.withMgmt_mgmt (x : Mgmt) : (s.withMgmt x).mgmt = x := rfl
@[simp] theorem State.withMgmt_notices (x : Mgmt) : (s.withMgmt x).notices = s.notices := rfl

@[simp] theorem State.withNotices_pending (x : Notices) : (s.withNotices x).pending = s.pending := rfl
@[simp] theorem State.withNotices_timebase (x : Notices) : (s.withNotices x).timebase = s.timebase := rfl
@[simp] theorem State.withNotices_pins (x : Notices) : (s.withNotices x).pins = s.pins := rfl
@[simp] theorem State.withNotices_spine (x : Notices) : (s.withNotices x).spine = s.spine := rfl
@[simp] theorem State.withNotices_cycle (x : Notices) : (s.withNotices x).cycle = s.cycle := rfl
@[simp] theorem State.withNotices_link (x : Notices) : (s.withNotices x).link = s.link := rfl
@[simp] theorem State.withNotices_pose (x : Notices) : (s.withNotices x).pose = s.pose := rfl
@[simp] theorem State.withNotices_env (x : Notices) : (s.withNotices x).env = s.env := rfl
@[simp] theorem State.withNotices_gate (x : Notices) : (s.withNotices x).gate = s.gate := rfl
@[simp] theorem State.withNotices_stop (x : Notices) : (s.withNotices x).stop = s.stop := rfl
@[simp] theorem State.withNotices_lens (x : Notices) : (s.withNotices x).lens = s.lens := rfl
@[simp] theorem State.withNotices_store (x : Notices) : (s.withNotices x).store = s.store := rfl
@[simp] theorem State.withNotices_recorder (x : Notices) : (s.withNotices x).recorder = s.recorder := rfl
@[simp] theorem State.withNotices_player (x : Notices) : (s.withNotices x).player = s.player := rfl
@[simp] theorem State.withNotices_cues (x : Notices) : (s.withNotices x).cues = s.cues := rfl
@[simp] theorem State.withNotices_mgmt (x : Notices) : (s.withNotices x).mgmt = s.mgmt := rfl
@[simp] theorem State.withNotices_notices (x : Notices) : (s.withNotices x).notices = x := rfl

end Sys2Proof.Machine
end

