-- ==== Sys2Proof/Laws/Frames.lean ====
section
/-! SUPPORT. The frame of each shared operation: the records and fields that it leaves as they stand. -/

namespace Sys2Proof.Machine

/-- `State.setEntry` leaves these records and fields as they stand. -/
@[simp] theorem State.setEntry_frame (s k e) :
    (State.setEntry s k e).pending = s.pending ∧ (State.setEntry s k e).timebase = s.timebase ∧
    (State.setEntry s k e).pins = s.pins ∧ (State.setEntry s k e).spine = s.spine ∧
    (State.setEntry s k e).cycle = s.cycle ∧ (State.setEntry s k e).link = s.link ∧
    (State.setEntry s k e).pose = s.pose ∧ (State.setEntry s k e).env = s.env ∧ (State.setEntry s k e).gate = s.gate ∧
    (State.setEntry s k e).stop = s.stop ∧ (State.setEntry s k e).lens = s.lens ∧
    (State.setEntry s k e).store = s.store ∧ (State.setEntry s k e).recorder = s.recorder ∧
    (State.setEntry s k e).player = s.player ∧ (State.setEntry s k e).cues = s.cues ∧
    (State.setEntry s k e).mgmt = s.mgmt ∧ (State.setEntry s k e).notices.config = s.notices.config := by
  unfold State.setEntry
  simp

/-- `sendNotice` leaves these records and fields as they stand. -/
@[simp] theorem sendNotice_frame (k s) :
    (sendNotice k s).pending = s.pending ∧ (sendNotice k s).timebase = s.timebase ∧ (sendNotice k s).pins = s.pins ∧
    (sendNotice k s).spine.receivingU = s.spine.receivingU ∧ (sendNotice k s).spine.receivingD = s.spine.receivingD ∧
    (sendNotice k s).cycle = s.cycle ∧ (sendNotice k s).link = s.link ∧ (sendNotice k s).pose = s.pose ∧
    (sendNotice k s).env = s.env ∧ (sendNotice k s).gate = s.gate ∧ (sendNotice k s).stop = s.stop ∧
    (sendNotice k s).lens = s.lens ∧ (sendNotice k s).store = s.store ∧ (sendNotice k s).recorder = s.recorder ∧
    (sendNotice k s).player = s.player ∧ (sendNotice k s).cues = s.cues ∧ (sendNotice k s).mgmt = s.mgmt ∧
    (sendNotice k s).notices.config = s.notices.config := by
  unfold sendNotice
  simp

/-- `takeU` leaves these records and fields as they stand. -/
@[simp] theorem takeU_frame (s) :
    (takeU s).pending = s.pending ∧ (takeU s).timebase = s.timebase ∧ (takeU s).pins = s.pins ∧
    (takeU s).spine.receivingU = s.spine.receivingU ∧ (takeU s).spine.receivingD = s.spine.receivingD ∧
    (takeU s).cycle = s.cycle ∧ (takeU s).link = s.link ∧ (takeU s).pose = s.pose ∧ (takeU s).env = s.env ∧
    (takeU s).gate = s.gate ∧ (takeU s).stop = s.stop ∧ (takeU s).lens = s.lens ∧ (takeU s).store = s.store ∧
    (takeU s).recorder = s.recorder ∧ (takeU s).player = s.player ∧ (takeU s).cues = s.cues ∧
    (takeU s).mgmt.requests = s.mgmt.requests ∧ (takeU s).mgmt.erasing = s.mgmt.erasing ∧
    (takeU s).mgmt.reset = s.mgmt.reset ∧ (takeU s).mgmt.drops = s.mgmt.drops ∧
    (takeU s).mgmt.locked = s.mgmt.locked ∧ (takeU s).notices.config = s.notices.config := by
  unfold takeU
  repeat' split
  all_goals simp

/-- `opportunityU` leaves these records and fields as they stand. -/
@[simp] theorem opportunityU_frame (s) :
    (opportunityU s).pending = s.pending ∧ (opportunityU s).timebase = s.timebase ∧ (opportunityU s).pins = s.pins ∧
    (opportunityU s).spine.receivingU = s.spine.receivingU ∧ (opportunityU s).spine.receivingD = s.spine.receivingD ∧
    (opportunityU s).cycle = s.cycle ∧ (opportunityU s).link = s.link ∧ (opportunityU s).pose = s.pose ∧
    (opportunityU s).env = s.env ∧ (opportunityU s).gate = s.gate ∧ (opportunityU s).stop = s.stop ∧
    (opportunityU s).lens = s.lens ∧ (opportunityU s).store = s.store ∧ (opportunityU s).recorder = s.recorder ∧
    (opportunityU s).player = s.player ∧ (opportunityU s).cues = s.cues ∧
    (opportunityU s).mgmt.requests = s.mgmt.requests ∧ (opportunityU s).mgmt.erasing = s.mgmt.erasing ∧
    (opportunityU s).mgmt.reset = s.mgmt.reset ∧ (opportunityU s).mgmt.drops = s.mgmt.drops ∧
    (opportunityU s).mgmt.locked = s.mgmt.locked ∧ (opportunityU s).notices.config = s.notices.config := by
  unfold opportunityU
  split <;> simp

/-- `noteOccurrence` leaves these records and fields as they stand. -/
@[simp] theorem noteOccurrence_frame (k d s) :
    (noteOccurrence k d s).pending = s.pending ∧ (noteOccurrence k d s).timebase = s.timebase ∧
    (noteOccurrence k d s).pins = s.pins ∧ (noteOccurrence k d s).spine.receivingU = s.spine.receivingU ∧
    (noteOccurrence k d s).spine.receivingD = s.spine.receivingD ∧ (noteOccurrence k d s).cycle = s.cycle ∧
    (noteOccurrence k d s).link = s.link ∧ (noteOccurrence k d s).pose = s.pose ∧ (noteOccurrence k d s).env = s.env ∧
    (noteOccurrence k d s).gate = s.gate ∧ (noteOccurrence k d s).stop = s.stop ∧
    (noteOccurrence k d s).lens = s.lens ∧ (noteOccurrence k d s).store = s.store ∧
    (noteOccurrence k d s).recorder = s.recorder ∧ (noteOccurrence k d s).player = s.player ∧
    (noteOccurrence k d s).cues = s.cues ∧ (noteOccurrence k d s).mgmt.requests = s.mgmt.requests ∧
    (noteOccurrence k d s).mgmt.erasing = s.mgmt.erasing ∧ (noteOccurrence k d s).mgmt.reset = s.mgmt.reset ∧
    (noteOccurrence k d s).mgmt.drops = s.mgmt.drops ∧ (noteOccurrence k d s).mgmt.locked = s.mgmt.locked ∧
    (noteOccurrence k d s).notices.config = s.notices.config := by
  unfold noteOccurrence
  simp

/-- `appendReply` leaves these records and fields as they stand. -/
@[simp] theorem appendReply_frame (tag r b o s) :
    (appendReply tag r b o s).pending = s.pending ∧ (appendReply tag r b o s).timebase = s.timebase ∧
    (appendReply tag r b o s).pins = s.pins ∧ (appendReply tag r b o s).spine.receivingU = s.spine.receivingU ∧
    (appendReply tag r b o s).spine.receivingD = s.spine.receivingD ∧ (appendReply tag r b o s).cycle = s.cycle ∧
    (appendReply tag r b o s).link = s.link ∧ (appendReply tag r b o s).pose = s.pose ∧
    (appendReply tag r b o s).env = s.env ∧ (appendReply tag r b o s).gate = s.gate ∧
    (appendReply tag r b o s).stop = s.stop ∧ (appendReply tag r b o s).lens = s.lens ∧
    (appendReply tag r b o s).store = s.store ∧ (appendReply tag r b o s).recorder = s.recorder ∧
    (appendReply tag r b o s).player = s.player ∧ (appendReply tag r b o s).cues = s.cues ∧
    (appendReply tag r b o s).mgmt.requests = s.mgmt.requests ∧
    (appendReply tag r b o s).mgmt.erasing = s.mgmt.erasing ∧ (appendReply tag r b o s).mgmt.reset = s.mgmt.reset ∧
    (appendReply tag r b o s).mgmt.drops = s.mgmt.drops ∧ (appendReply tag r b o s).mgmt.locked = s.mgmt.locked ∧
    (appendReply tag r b o s).notices.config = s.notices.config := by
  unfold appendReply
  simp

/-- `takeD` leaves these records and fields as they stand. -/
@[simp] theorem takeD_frame (s) :
    (takeD s).pending = s.pending ∧ (takeD s).timebase = s.timebase ∧ (takeD s).pins = s.pins ∧
    (takeD s).spine.receivingU = s.spine.receivingU ∧ (takeD s).spine.receivingD = s.spine.receivingD ∧
    (takeD s).cycle = s.cycle ∧ (takeD s).link = s.link ∧ (takeD s).pose = s.pose ∧ (takeD s).env = s.env ∧
    (takeD s).gate = s.gate ∧ (takeD s).stop = s.stop ∧ (takeD s).lens = s.lens ∧ (takeD s).store = s.store ∧
    (takeD s).recorder = s.recorder ∧ (takeD s).player = s.player ∧ (takeD s).cues = s.cues ∧
    (takeD s).mgmt = s.mgmt ∧ (takeD s).notices = s.notices := by
  unfold takeD
  repeat' split
  all_goals simp

/-- `opportunityD` leaves these records and fields as they stand. -/
@[simp] theorem opportunityD_frame (s) :
    (opportunityD s).pending = s.pending ∧ (opportunityD s).timebase = s.timebase ∧ (opportunityD s).pins = s.pins ∧
    (opportunityD s).spine.receivingU = s.spine.receivingU ∧ (opportunityD s).spine.receivingD = s.spine.receivingD ∧
    (opportunityD s).cycle = s.cycle ∧ (opportunityD s).link = s.link ∧ (opportunityD s).pose = s.pose ∧
    (opportunityD s).env = s.env ∧ (opportunityD s).gate = s.gate ∧ (opportunityD s).stop = s.stop ∧
    (opportunityD s).lens = s.lens ∧ (opportunityD s).store = s.store ∧ (opportunityD s).recorder = s.recorder ∧
    (opportunityD s).player = s.player ∧ (opportunityD s).cues = s.cues ∧ (opportunityD s).mgmt = s.mgmt ∧
    (opportunityD s).notices = s.notices := by
  unfold opportunityD
  split <;> simp

/-- `offerBrake` leaves these records and fields as they stand. -/
@[simp] theorem offerBrake_frame (a s) :
    (offerBrake a s).pending = s.pending ∧ (offerBrake a s).timebase = s.timebase ∧ (offerBrake a s).pins = s.pins ∧
    (offerBrake a s).spine.receivingU = s.spine.receivingU ∧ (offerBrake a s).spine.receivingD = s.spine.receivingD ∧
    (offerBrake a s).cycle = s.cycle ∧ (offerBrake a s).link = s.link ∧ (offerBrake a s).pose = s.pose ∧
    (offerBrake a s).env = s.env ∧ (offerBrake a s).gate = s.gate ∧ (offerBrake a s).stop = s.stop ∧
    (offerBrake a s).lens = s.lens ∧ (offerBrake a s).store = s.store ∧ (offerBrake a s).recorder = s.recorder ∧
    (offerBrake a s).player = s.player ∧ (offerBrake a s).cues = s.cues ∧ (offerBrake a s).mgmt = s.mgmt ∧
    (offerBrake a s).notices = s.notices := by
  unfold offerBrake
  split <;> simp

/-- `offerDecel` leaves these records and fields as they stand. -/
@[simp] theorem offerDecel_frame (k d s) :
    (offerDecel k d s).pending = s.pending ∧ (offerDecel k d s).timebase = s.timebase ∧
    (offerDecel k d s).pins = s.pins ∧ (offerDecel k d s).spine.receivingU = s.spine.receivingU ∧
    (offerDecel k d s).spine.receivingD = s.spine.receivingD ∧ (offerDecel k d s).cycle = s.cycle ∧
    (offerDecel k d s).link = s.link ∧ (offerDecel k d s).pose = s.pose ∧ (offerDecel k d s).env = s.env ∧
    (offerDecel k d s).gate = s.gate ∧ (offerDecel k d s).stop = s.stop ∧ (offerDecel k d s).lens = s.lens ∧
    (offerDecel k d s).store = s.store ∧ (offerDecel k d s).recorder = s.recorder ∧
    (offerDecel k d s).player = s.player ∧ (offerDecel k d s).cues = s.cues ∧ (offerDecel k d s).mgmt = s.mgmt ∧
    (offerDecel k d s).notices = s.notices := by
  unfold offerDecel
  split <;> simp

/-- `refreshLamps` leaves these records and fields as they stand. -/
@[simp] theorem refreshLamps_frame (s) :
    (refreshLamps s).pending = s.pending ∧ (refreshLamps s).timebase = s.timebase ∧ (refreshLamps s).pins = s.pins ∧
    (refreshLamps s).spine = s.spine ∧ (refreshLamps s).cycle = s.cycle ∧ (refreshLamps s).link = s.link ∧
    (refreshLamps s).pose = s.pose ∧ (refreshLamps s).env = s.env ∧ (refreshLamps s).gate = s.gate ∧
    (refreshLamps s).stop.lines = s.stop.lines ∧ (refreshLamps s).stop.present = s.stop.present ∧
    (refreshLamps s).stop.trip = s.stop.trip ∧ (refreshLamps s).stop.config = s.stop.config ∧
    (refreshLamps s).stop.gesture = s.stop.gesture ∧ (refreshLamps s).stop.lampMap = s.stop.lampMap ∧
    (refreshLamps s).stop.entryCycle = s.stop.entryCycle ∧ (refreshLamps s).stop.syncTimer = s.stop.syncTimer ∧
    (refreshLamps s).stop.substituteTimer = s.stop.substituteTimer ∧
    (refreshLamps s).stop.gripHeld = s.stop.gripHeld ∧ (refreshLamps s).stop.consoleStop = s.stop.consoleStop ∧
    (refreshLamps s).lens = s.lens ∧ (refreshLamps s).store = s.store ∧ (refreshLamps s).recorder = s.recorder ∧
    (refreshLamps s).player = s.player ∧ (refreshLamps s).cues = s.cues ∧ (refreshLamps s).mgmt = s.mgmt ∧
    (refreshLamps s).notices = s.notices := by
  unfold refreshLamps
  simp

/-- `State.setScale` leaves these records and fields as they stand. -/
@[simp] theorem State.setScale_frame (s c) :
    (State.setScale s c).pending = s.pending ∧ (State.setScale s c).timebase = s.timebase ∧
    (State.setScale s c).pins = s.pins ∧ (State.setScale s c).spine = s.spine ∧ (State.setScale s c).cycle = s.cycle ∧
    (State.setScale s c).link = s.link ∧ (State.setScale s c).pose = s.pose ∧
    (State.setScale s c).env.zones = s.env.zones ∧ (State.setScale s c).gate = s.gate ∧
    (State.setScale s c).stop = s.stop ∧ (State.setScale s c).lens = s.lens ∧ (State.setScale s c).store = s.store ∧
    (State.setScale s c).recorder = s.recorder ∧ (State.setScale s c).player = s.player ∧
    (State.setScale s c).cues = s.cues ∧ (State.setScale s c).mgmt = s.mgmt ∧ (State.setScale s c).notices = s.notices := by
  unfold State.setScale
  simp

/-- `changeState` leaves these records and fields as they stand. -/
@[simp] theorem changeState_frame (st r s) :
    (changeState st r s).pending = s.pending ∧ (changeState st r s).timebase = s.timebase ∧
    (changeState st r s).pins = s.pins ∧ (changeState st r s).spine.receivingU = s.spine.receivingU ∧
    (changeState st r s).spine.receivingD = s.spine.receivingD ∧ (changeState st r s).cycle = s.cycle ∧
    (changeState st r s).link = s.link ∧ (changeState st r s).pose = s.pose ∧ (changeState st r s).env = s.env ∧
    (changeState st r s).gate = s.gate ∧ (changeState st r s).stop.lines = s.stop.lines ∧
    (changeState st r s).stop.present = s.stop.present ∧ (changeState st r s).stop.trip = s.stop.trip ∧
    (changeState st r s).stop.config = s.stop.config ∧ (changeState st r s).stop.gesture = s.stop.gesture ∧
    (changeState st r s).stop.lampMap = s.stop.lampMap ∧ (changeState st r s).stop.entryCycle = s.stop.entryCycle ∧
    (changeState st r s).stop.syncTimer = s.stop.syncTimer ∧
    (changeState st r s).stop.substituteTimer = s.stop.substituteTimer ∧
    (changeState st r s).stop.gripHeld = s.stop.gripHeld ∧
    (changeState st r s).stop.consoleStop = s.stop.consoleStop ∧ (changeState st r s).lens = s.lens ∧
    (changeState st r s).store = s.store ∧ (changeState st r s).recorder = s.recorder ∧
    (changeState st r s).player = s.player ∧ (changeState st r s).cues = s.cues ∧
    (changeState st r s).mgmt.requests = s.mgmt.requests ∧ (changeState st r s).mgmt.erasing = s.mgmt.erasing ∧
    (changeState st r s).mgmt.reset = s.mgmt.reset ∧ (changeState st r s).mgmt.drops = s.mgmt.drops ∧
    (changeState st r s).mgmt.locked = s.mgmt.locked ∧ (changeState st r s).notices.config = s.notices.config := by
  unfold changeState
  simp

/-- `enterHeld` leaves these records and fields as they stand. -/
@[simp] theorem enterHeld_frame (r s) :
    (enterHeld r s).pending = s.pending ∧ (enterHeld r s).timebase = s.timebase ∧ (enterHeld r s).pins = s.pins ∧
    (enterHeld r s).spine.receivingU = s.spine.receivingU ∧ (enterHeld r s).spine.receivingD = s.spine.receivingD ∧
    (enterHeld r s).cycle = s.cycle ∧ (enterHeld r s).link = s.link ∧ (enterHeld r s).pose = s.pose ∧
    (enterHeld r s).env = s.env ∧ (enterHeld r s).gate = s.gate ∧ (enterHeld r s).stop.lines = s.stop.lines ∧
    (enterHeld r s).stop.present = s.stop.present ∧ (enterHeld r s).stop.trip = s.stop.trip ∧
    (enterHeld r s).stop.config = s.stop.config ∧ (enterHeld r s).stop.gesture = s.stop.gesture ∧
    (enterHeld r s).stop.lampMap = s.stop.lampMap ∧ (enterHeld r s).stop.entryCycle = s.stop.entryCycle ∧
    (enterHeld r s).stop.syncTimer = s.stop.syncTimer ∧
    (enterHeld r s).stop.substituteTimer = s.stop.substituteTimer ∧ (enterHeld r s).stop.gripHeld = s.stop.gripHeld ∧
    (enterHeld r s).stop.consoleStop = s.stop.consoleStop ∧ (enterHeld r s).lens = s.lens ∧
    (enterHeld r s).store = s.store ∧ (enterHeld r s).recorder = s.recorder ∧ (enterHeld r s).player = s.player ∧
    (enterHeld r s).cues = s.cues ∧ (enterHeld r s).mgmt.requests = s.mgmt.requests ∧
    (enterHeld r s).mgmt.erasing = s.mgmt.erasing ∧ (enterHeld r s).mgmt.reset = s.mgmt.reset ∧
    (enterHeld r s).mgmt.drops = s.mgmt.drops ∧ (enterHeld r s).mgmt.locked = s.mgmt.locked ∧
    (enterHeld r s).notices.config = s.notices.config := by
  unfold enterHeld
  simp

/-- `wake` leaves these records and fields as they stand. -/
@[simp] theorem wake_frame (w s) :
    (wake w s).pending = s.pending ∧ (wake w s).timebase = s.timebase ∧ (wake w s).pins = s.pins ∧
    (wake w s).spine.receivingU = s.spine.receivingU ∧ (wake w s).spine.receivingD = s.spine.receivingD ∧
    (wake w s).cycle = s.cycle ∧ (wake w s).link = s.link ∧ (wake w s).pose = s.pose ∧ (wake w s).env = s.env ∧
    (wake w s).gate = s.gate ∧ (wake w s).stop.lines = s.stop.lines ∧ (wake w s).stop.present = s.stop.present ∧
    (wake w s).stop.trip = s.stop.trip ∧ (wake w s).stop.config = s.stop.config ∧
    (wake w s).stop.gesture = s.stop.gesture ∧ (wake w s).stop.lampMap = s.stop.lampMap ∧
    (wake w s).stop.entryCycle = s.stop.entryCycle ∧ (wake w s).stop.syncTimer = s.stop.syncTimer ∧
    (wake w s).stop.substituteTimer = s.stop.substituteTimer ∧ (wake w s).stop.gripHeld = s.stop.gripHeld ∧
    (wake w s).stop.consoleStop = s.stop.consoleStop ∧ (wake w s).lens = s.lens ∧ (wake w s).store = s.store ∧
    (wake w s).recorder = s.recorder ∧ (wake w s).player = s.player ∧ (wake w s).cues = s.cues ∧
    (wake w s).mgmt.requests = s.mgmt.requests ∧ (wake w s).mgmt.erasing = s.mgmt.erasing ∧
    (wake w s).mgmt.reset = s.mgmt.reset ∧ (wake w s).mgmt.drops = s.mgmt.drops ∧
    (wake w s).mgmt.locked = s.mgmt.locked ∧ (wake w s).notices.config = s.notices.config := by
  unfold wake
  simp

/-- `raise` leaves these records and fields as they stand. -/
@[simp] theorem raise_frame (k d s) :
    (raise k d s).pending = s.pending ∧ (raise k d s).timebase = s.timebase ∧ (raise k d s).pins = s.pins ∧
    (raise k d s).spine.receivingU = s.spine.receivingU ∧ (raise k d s).spine.receivingD = s.spine.receivingD ∧
    (raise k d s).cycle = s.cycle ∧ (raise k d s).link = s.link ∧ (raise k d s).pose = s.pose ∧
    (raise k d s).env = s.env ∧ (raise k d s).gate = s.gate ∧ (raise k d s).stop.lines = s.stop.lines ∧
    (raise k d s).stop.present = s.stop.present ∧ (raise k d s).stop.trip = s.stop.trip ∧
    (raise k d s).stop.config = s.stop.config ∧ (raise k d s).stop.gesture = s.stop.gesture ∧
    (raise k d s).stop.lampMap = s.stop.lampMap ∧ (raise k d s).stop.entryCycle = s.stop.entryCycle ∧
    (raise k d s).stop.syncTimer = s.stop.syncTimer ∧ (raise k d s).stop.substituteTimer = s.stop.substituteTimer ∧
    (raise k d s).stop.gripHeld = s.stop.gripHeld ∧ (raise k d s).stop.consoleStop = s.stop.consoleStop ∧
    (raise k d s).lens = s.lens ∧ (raise k d s).store = s.store ∧ (raise k d s).recorder = s.recorder ∧
    (raise k d s).player = s.player ∧ (raise k d s).cues = s.cues ∧ (raise k d s).mgmt.requests = s.mgmt.requests ∧
    (raise k d s).mgmt.erasing = s.mgmt.erasing ∧ (raise k d s).mgmt.reset = s.mgmt.reset ∧
    (raise k d s).mgmt.drops = s.mgmt.drops ∧ (raise k d s).mgmt.locked = s.mgmt.locked ∧
    (raise k d s).notices.config = s.notices.config := by
  unfold raise
  split <;> simp

/-- `closeRecorder` leaves these records and fields as they stand. -/
@[simp] theorem closeRecorder_frame (e s) :
    (closeRecorder e s).pending = s.pending ∧ (closeRecorder e s).timebase = s.timebase ∧
    (closeRecorder e s).pins = s.pins ∧ (closeRecorder e s).spine = s.spine ∧ (closeRecorder e s).cycle = s.cycle ∧
    (closeRecorder e s).link = s.link ∧ (closeRecorder e s).pose = s.pose ∧ (closeRecorder e s).env = s.env ∧
    (closeRecorder e s).gate = s.gate ∧ (closeRecorder e s).stop = s.stop ∧ (closeRecorder e s).lens = s.lens ∧
    (closeRecorder e s).player = s.player ∧ (closeRecorder e s).cues = s.cues ∧ (closeRecorder e s).mgmt = s.mgmt ∧
    (closeRecorder e s).notices = s.notices := by
  unfold closeRecorder
  split <;> simp

/-- `endRecording` leaves these records and fields as they stand. -/
@[simp] theorem endRecording_frame (e s) :
    (endRecording e s).pending = s.pending ∧ (endRecording e s).timebase = s.timebase ∧
    (endRecording e s).pins = s.pins ∧ (endRecording e s).spine.receivingU = s.spine.receivingU ∧
    (endRecording e s).spine.receivingD = s.spine.receivingD ∧ (endRecording e s).cycle = s.cycle ∧
    (endRecording e s).link = s.link ∧ (endRecording e s).pose = s.pose ∧ (endRecording e s).env = s.env ∧
    (endRecording e s).gate = s.gate ∧ (endRecording e s).stop.lines = s.stop.lines ∧
    (endRecording e s).stop.present = s.stop.present ∧ (endRecording e s).stop.trip = s.stop.trip ∧
    (endRecording e s).stop.config = s.stop.config ∧ (endRecording e s).stop.gesture = s.stop.gesture ∧
    (endRecording e s).stop.lampMap = s.stop.lampMap ∧ (endRecording e s).stop.entryCycle = s.stop.entryCycle ∧
    (endRecording e s).stop.syncTimer = s.stop.syncTimer ∧
    (endRecording e s).stop.substituteTimer = s.stop.substituteTimer ∧
    (endRecording e s).stop.gripHeld = s.stop.gripHeld ∧ (endRecording e s).stop.consoleStop = s.stop.consoleStop ∧
    (endRecording e s).lens = s.lens ∧ (endRecording e s).player = s.player ∧ (endRecording e s).cues = s.cues ∧
    (endRecording e s).mgmt.requests = s.mgmt.requests ∧ (endRecording e s).mgmt.erasing = s.mgmt.erasing ∧
    (endRecording e s).mgmt.reset = s.mgmt.reset ∧ (endRecording e s).mgmt.drops = s.mgmt.drops ∧
    (endRecording e s).mgmt.locked = s.mgmt.locked ∧ (endRecording e s).notices.config = s.notices.config := by
  unfold endRecording
  split <;> simp

/-- `writeSamples` leaves these records and fields as they stand. -/
@[simp] theorem writeSamples_frame (t s n b) :
    (writeSamples t s n b).1.pending = s.pending ∧ (writeSamples t s n b).1.timebase = s.timebase ∧
    (writeSamples t s n b).1.pins = s.pins ∧ (writeSamples t s n b).1.spine = s.spine ∧
    (writeSamples t s n b).1.cycle = s.cycle ∧ (writeSamples t s n b).1.link = s.link ∧
    (writeSamples t s n b).1.pose = s.pose ∧ (writeSamples t s n b).1.env = s.env ∧
    (writeSamples t s n b).1.gate = s.gate ∧ (writeSamples t s n b).1.stop = s.stop ∧
    (writeSamples t s n b).1.lens = s.lens ∧ (writeSamples t s n b).1.player = s.player ∧
    (writeSamples t s n b).1.cues = s.cues ∧ (writeSamples t s n b).1.mgmt = s.mgmt ∧
    (writeSamples t s n b).1.notices = s.notices := by
  induction n generalizing s b with
  | zero => simp [writeSamples]
  | succ n ih =>
    unfold writeSamples
    cases h : s.store.writeSample t s.recorder.sample with
    | none => simp
    | some st => cases b <;> simp [ih]

/-- `closeSamples` leaves these records and fields as they stand. -/
@[simp] theorem closeSamples_frame (t d c s) :
    (closeSamples t d c s).pending = s.pending ∧ (closeSamples t d c s).timebase = s.timebase ∧
    (closeSamples t d c s).pins = s.pins ∧ (closeSamples t d c s).spine.receivingU = s.spine.receivingU ∧
    (closeSamples t d c s).spine.receivingD = s.spine.receivingD ∧ (closeSamples t d c s).cycle = s.cycle ∧
    (closeSamples t d c s).link = s.link ∧ (closeSamples t d c s).pose = s.pose ∧ (closeSamples t d c s).env = s.env ∧
    (closeSamples t d c s).gate = s.gate ∧ (closeSamples t d c s).stop.lines = s.stop.lines ∧
    (closeSamples t d c s).stop.present = s.stop.present ∧ (closeSamples t d c s).stop.trip = s.stop.trip ∧
    (closeSamples t d c s).stop.config = s.stop.config ∧ (closeSamples t d c s).stop.gesture = s.stop.gesture ∧
    (closeSamples t d c s).stop.lampMap = s.stop.lampMap ∧
    (closeSamples t d c s).stop.entryCycle = s.stop.entryCycle ∧
    (closeSamples t d c s).stop.syncTimer = s.stop.syncTimer ∧
    (closeSamples t d c s).stop.substituteTimer = s.stop.substituteTimer ∧
    (closeSamples t d c s).stop.gripHeld = s.stop.gripHeld ∧
    (closeSamples t d c s).stop.consoleStop = s.stop.consoleStop ∧ (closeSamples t d c s).lens = s.lens ∧
    (closeSamples t d c s).player = s.player ∧ (closeSamples t d c s).cues = s.cues ∧
    (closeSamples t d c s).mgmt.requests = s.mgmt.requests ∧ (closeSamples t d c s).mgmt.erasing = s.mgmt.erasing ∧
    (closeSamples t d c s).mgmt.reset = s.mgmt.reset ∧ (closeSamples t d c s).mgmt.drops = s.mgmt.drops ∧
    (closeSamples t d c s).mgmt.locked = s.mgmt.locked ∧ (closeSamples t d c s).notices.config = s.notices.config := by
  unfold closeSamples
  have h := writeSamples_frame t s (1 + min (d - 1) 3) false
  split <;> rename_i heq <;> rw [heq] at h <;> simp at h ⊢ <;> simp [h]

/-- `recorderCycle` leaves these records and fields as they stand. -/
@[simp] theorem recorderCycle_frame (c s) :
    (recorderCycle c s).pending = s.pending ∧ (recorderCycle c s).timebase = s.timebase ∧
    (recorderCycle c s).pins = s.pins ∧ (recorderCycle c s).spine.receivingU = s.spine.receivingU ∧
    (recorderCycle c s).spine.receivingD = s.spine.receivingD ∧ (recorderCycle c s).cycle = s.cycle ∧
    (recorderCycle c s).link = s.link ∧ (recorderCycle c s).pose = s.pose ∧ (recorderCycle c s).env = s.env ∧
    (recorderCycle c s).gate = s.gate ∧ (recorderCycle c s).stop.lines = s.stop.lines ∧
    (recorderCycle c s).stop.present = s.stop.present ∧ (recorderCycle c s).stop.trip = s.stop.trip ∧
    (recorderCycle c s).stop.config = s.stop.config ∧ (recorderCycle c s).stop.gesture = s.stop.gesture ∧
    (recorderCycle c s).stop.lampMap = s.stop.lampMap ∧ (recorderCycle c s).stop.entryCycle = s.stop.entryCycle ∧
    (recorderCycle c s).stop.syncTimer = s.stop.syncTimer ∧
    (recorderCycle c s).stop.substituteTimer = s.stop.substituteTimer ∧
    (recorderCycle c s).stop.gripHeld = s.stop.gripHeld ∧ (recorderCycle c s).stop.consoleStop = s.stop.consoleStop ∧
    (recorderCycle c s).lens = s.lens ∧ (recorderCycle c s).player = s.player ∧ (recorderCycle c s).cues = s.cues ∧
    (recorderCycle c s).mgmt.requests = s.mgmt.requests ∧ (recorderCycle c s).mgmt.erasing = s.mgmt.erasing ∧
    (recorderCycle c s).mgmt.reset = s.mgmt.reset ∧ (recorderCycle c s).mgmt.drops = s.mgmt.drops ∧
    (recorderCycle c s).mgmt.locked = s.mgmt.locked ∧ (recorderCycle c s).notices.config = s.notices.config := by
  unfold recorderCycle
  dsimp only
  repeat' split
  all_goals simp

/-- `bufferValue` leaves these records and fields as they stand. -/
@[simp] theorem bufferValue_frame (k v s) :
    (bufferValue k v s).pending = s.pending ∧ (bufferValue k v s).timebase = s.timebase ∧
    (bufferValue k v s).pins = s.pins ∧ (bufferValue k v s).spine = s.spine ∧ (bufferValue k v s).cycle = s.cycle ∧
    (bufferValue k v s).link = s.link ∧ (bufferValue k v s).pose = s.pose ∧ (bufferValue k v s).env = s.env ∧
    (bufferValue k v s).gate = s.gate ∧ (bufferValue k v s).stop = s.stop ∧ (bufferValue k v s).lens = s.lens ∧
    (bufferValue k v s).store = s.store ∧ (bufferValue k v s).player = s.player ∧ (bufferValue k v s).cues = s.cues ∧
    (bufferValue k v s).mgmt = s.mgmt ∧ (bufferValue k v s).notices = s.notices := by
  unfold bufferValue
  split <;> simp

/-- `recorderObserve` leaves these records and fields as they stand. -/
@[simp] theorem recorderObserve_frame (k v c s) :
    (recorderObserve k v c s).pending = s.pending ∧ (recorderObserve k v c s).timebase = s.timebase ∧
    (recorderObserve k v c s).pins = s.pins ∧ (recorderObserve k v c s).spine.receivingU = s.spine.receivingU ∧
    (recorderObserve k v c s).spine.receivingD = s.spine.receivingD ∧ (recorderObserve k v c s).cycle = s.cycle ∧
    (recorderObserve k v c s).link = s.link ∧ (recorderObserve k v c s).pose = s.pose ∧
    (recorderObserve k v c s).env = s.env ∧ (recorderObserve k v c s).gate = s.gate ∧
    (recorderObserve k v c s).stop.lines = s.stop.lines ∧ (recorderObserve k v c s).stop.present = s.stop.present ∧
    (recorderObserve k v c s).stop.trip = s.stop.trip ∧ (recorderObserve k v c s).stop.config = s.stop.config ∧
    (recorderObserve k v c s).stop.gesture = s.stop.gesture ∧
    (recorderObserve k v c s).stop.lampMap = s.stop.lampMap ∧
    (recorderObserve k v c s).stop.entryCycle = s.stop.entryCycle ∧
    (recorderObserve k v c s).stop.syncTimer = s.stop.syncTimer ∧
    (recorderObserve k v c s).stop.substituteTimer = s.stop.substituteTimer ∧
    (recorderObserve k v c s).stop.gripHeld = s.stop.gripHeld ∧
    (recorderObserve k v c s).stop.consoleStop = s.stop.consoleStop ∧ (recorderObserve k v c s).lens = s.lens ∧
    (recorderObserve k v c s).player = s.player ∧ (recorderObserve k v c s).cues = s.cues ∧
    (recorderObserve k v c s).mgmt.requests = s.mgmt.requests ∧
    (recorderObserve k v c s).mgmt.erasing = s.mgmt.erasing ∧ (recorderObserve k v c s).mgmt.reset = s.mgmt.reset ∧
    (recorderObserve k v c s).mgmt.drops = s.mgmt.drops ∧ (recorderObserve k v c s).mgmt.locked = s.mgmt.locked ∧
    (recorderObserve k v c s).notices.config = s.notices.config := by
  unfold recorderObserve
  dsimp only
  repeat' split
  all_goals simp

/-- `startRecording` leaves these records and fields as they stand. -/
@[simp] theorem startRecording_frame (t c tc s) :
    (startRecording t c tc s).pending = s.pending ∧ (startRecording t c tc s).timebase = s.timebase ∧
    (startRecording t c tc s).pins = s.pins ∧ (startRecording t c tc s).spine = s.spine ∧
    (startRecording t c tc s).cycle = s.cycle ∧ (startRecording t c tc s).link = s.link ∧
    (startRecording t c tc s).pose = s.pose ∧ (startRecording t c tc s).env = s.env ∧
    (startRecording t c tc s).gate = s.gate ∧ (startRecording t c tc s).stop.lines = s.stop.lines ∧
    (startRecording t c tc s).stop.present = s.stop.present ∧ (startRecording t c tc s).stop.trip = s.stop.trip ∧
    (startRecording t c tc s).stop.config = s.stop.config ∧ (startRecording t c tc s).stop.gesture = s.stop.gesture ∧
    (startRecording t c tc s).stop.lampMap = s.stop.lampMap ∧
    (startRecording t c tc s).stop.entryCycle = s.stop.entryCycle ∧
    (startRecording t c tc s).stop.syncTimer = s.stop.syncTimer ∧
    (startRecording t c tc s).stop.substituteTimer = s.stop.substituteTimer ∧
    (startRecording t c tc s).stop.gripHeld = s.stop.gripHeld ∧
    (startRecording t c tc s).stop.consoleStop = s.stop.consoleStop ∧ (startRecording t c tc s).lens = s.lens ∧
    (startRecording t c tc s).player = s.player ∧ (startRecording t c tc s).cues = s.cues ∧
    (startRecording t c tc s).mgmt = s.mgmt ∧ (startRecording t c tc s).notices = s.notices := by
  unfold startRecording
  simp

/-- `recorderArrival` leaves these records and fields as they stand. -/
@[simp] theorem recorderArrival_frame (c tc s) :
    (recorderArrival c tc s).pending = s.pending ∧ (recorderArrival c tc s).timebase = s.timebase ∧
    (recorderArrival c tc s).pins = s.pins ∧ (recorderArrival c tc s).spine.receivingU = s.spine.receivingU ∧
    (recorderArrival c tc s).spine.receivingD = s.spine.receivingD ∧ (recorderArrival c tc s).cycle = s.cycle ∧
    (recorderArrival c tc s).link = s.link ∧ (recorderArrival c tc s).pose = s.pose ∧
    (recorderArrival c tc s).env = s.env ∧ (recorderArrival c tc s).gate = s.gate ∧
    (recorderArrival c tc s).stop.lines = s.stop.lines ∧ (recorderArrival c tc s).stop.present = s.stop.present ∧
    (recorderArrival c tc s).stop.trip = s.stop.trip ∧ (recorderArrival c tc s).stop.config = s.stop.config ∧
    (recorderArrival c tc s).stop.gesture = s.stop.gesture ∧ (recorderArrival c tc s).stop.lampMap = s.stop.lampMap ∧
    (recorderArrival c tc s).stop.entryCycle = s.stop.entryCycle ∧
    (recorderArrival c tc s).stop.syncTimer = s.stop.syncTimer ∧
    (recorderArrival c tc s).stop.substituteTimer = s.stop.substituteTimer ∧
    (recorderArrival c tc s).stop.gripHeld = s.stop.gripHeld ∧
    (recorderArrival c tc s).stop.consoleStop = s.stop.consoleStop ∧ (recorderArrival c tc s).lens = s.lens ∧
    (recorderArrival c tc s).player = s.player ∧ (recorderArrival c tc s).cues = s.cues ∧
    (recorderArrival c tc s).mgmt.requests = s.mgmt.requests ∧
    (recorderArrival c tc s).mgmt.erasing = s.mgmt.erasing ∧ (recorderArrival c tc s).mgmt.reset = s.mgmt.reset ∧
    (recorderArrival c tc s).mgmt.drops = s.mgmt.drops ∧ (recorderArrival c tc s).mgmt.locked = s.mgmt.locked ∧
    (recorderArrival c tc s).notices.config = s.notices.config := by
  unfold recorderArrival
  split <;> simp

/-- `stopRecording` leaves these records and fields as they stand. -/
@[simp] theorem stopRecording_frame (s) :
    (stopRecording s).pending = s.pending ∧ (stopRecording s).timebase = s.timebase ∧
    (stopRecording s).pins = s.pins ∧ (stopRecording s).spine.receivingU = s.spine.receivingU ∧
    (stopRecording s).spine.receivingD = s.spine.receivingD ∧ (stopRecording s).cycle = s.cycle ∧
    (stopRecording s).link = s.link ∧ (stopRecording s).pose = s.pose ∧ (stopRecording s).env = s.env ∧
    (stopRecording s).gate = s.gate ∧ (stopRecording s).stop.lines = s.stop.lines ∧
    (stopRecording s).stop.present = s.stop.present ∧ (stopRecording s).stop.trip = s.stop.trip ∧
    (stopRecording s).stop.config = s.stop.config ∧ (stopRecording s).stop.gesture = s.stop.gesture ∧
    (stopRecording s).stop.lampMap = s.stop.lampMap ∧ (stopRecording s).stop.entryCycle = s.stop.entryCycle ∧
    (stopRecording s).stop.syncTimer = s.stop.syncTimer ∧
    (stopRecording s).stop.substituteTimer = s.stop.substituteTimer ∧
    (stopRecording s).stop.gripHeld = s.stop.gripHeld ∧ (stopRecording s).stop.consoleStop = s.stop.consoleStop ∧
    (stopRecording s).lens = s.lens ∧ (stopRecording s).player = s.player ∧ (stopRecording s).cues = s.cues ∧
    (stopRecording s).mgmt.requests = s.mgmt.requests ∧ (stopRecording s).mgmt.erasing = s.mgmt.erasing ∧
    (stopRecording s).mgmt.reset = s.mgmt.reset ∧ (stopRecording s).mgmt.drops = s.mgmt.drops ∧
    (stopRecording s).mgmt.locked = s.mgmt.locked ∧ (stopRecording s).notices.config = s.notices.config := by
  unfold stopRecording
  split
  · rename_i t _ _
    have h := writeSamples_frame t s 1 false
    split <;> rename_i heq <;> rw [heq] at h <;> simp at h ⊢ <;> simp [h]
  · simp
  · simp

/-- `enterPlayer` leaves these records and fields as they stand. -/
@[simp] theorem enterPlayer_frame (p s) :
    (enterPlayer p s).pending = s.pending ∧ (enterPlayer p s).timebase = s.timebase ∧
    (enterPlayer p s).pins = s.pins ∧ (enterPlayer p s).spine.receivingU = s.spine.receivingU ∧
    (enterPlayer p s).spine.receivingD = s.spine.receivingD ∧ (enterPlayer p s).cycle = s.cycle ∧
    (enterPlayer p s).link = s.link ∧ (enterPlayer p s).pose = s.pose ∧ (enterPlayer p s).env = s.env ∧
    (enterPlayer p s).gate = s.gate ∧ (enterPlayer p s).stop.lines = s.stop.lines ∧
    (enterPlayer p s).stop.present = s.stop.present ∧ (enterPlayer p s).stop.trip = s.stop.trip ∧
    (enterPlayer p s).stop.config = s.stop.config ∧ (enterPlayer p s).stop.gesture = s.stop.gesture ∧
    (enterPlayer p s).stop.lampMap = s.stop.lampMap ∧ (enterPlayer p s).stop.entryCycle = s.stop.entryCycle ∧
    (enterPlayer p s).stop.syncTimer = s.stop.syncTimer ∧
    (enterPlayer p s).stop.substituteTimer = s.stop.substituteTimer ∧
    (enterPlayer p s).stop.gripHeld = s.stop.gripHeld ∧ (enterPlayer p s).stop.consoleStop = s.stop.consoleStop ∧
    (enterPlayer p s).lens = s.lens ∧ (enterPlayer p s).store = s.store ∧ (enterPlayer p s).recorder = s.recorder ∧
    (enterPlayer p s).cues = s.cues ∧ (enterPlayer p s).mgmt.requests = s.mgmt.requests ∧
    (enterPlayer p s).mgmt.erasing = s.mgmt.erasing ∧ (enterPlayer p s).mgmt.reset = s.mgmt.reset ∧
    (enterPlayer p s).mgmt.drops = s.mgmt.drops ∧ (enterPlayer p s).mgmt.locked = s.mgmt.locked ∧
    (enterPlayer p s).notices.config = s.notices.config := by
  unfold enterPlayer
  simp

/-- `suspendPlayer` leaves these records and fields as they stand. -/
@[simp] theorem suspendPlayer_frame (s) :
    (suspendPlayer s).pending = s.pending ∧ (suspendPlayer s).timebase = s.timebase ∧
    (suspendPlayer s).pins = s.pins ∧ (suspendPlayer s).spine.receivingU = s.spine.receivingU ∧
    (suspendPlayer s).spine.receivingD = s.spine.receivingD ∧ (suspendPlayer s).cycle = s.cycle ∧
    (suspendPlayer s).link = s.link ∧ (suspendPlayer s).pose = s.pose ∧ (suspendPlayer s).env = s.env ∧
    (suspendPlayer s).gate = s.gate ∧ (suspendPlayer s).stop.lines = s.stop.lines ∧
    (suspendPlayer s).stop.present = s.stop.present ∧ (suspendPlayer s).stop.trip = s.stop.trip ∧
    (suspendPlayer s).stop.config = s.stop.config ∧ (suspendPlayer s).stop.gesture = s.stop.gesture ∧
    (suspendPlayer s).stop.lampMap = s.stop.lampMap ∧ (suspendPlayer s).stop.entryCycle = s.stop.entryCycle ∧
    (suspendPlayer s).stop.syncTimer = s.stop.syncTimer ∧
    (suspendPlayer s).stop.substituteTimer = s.stop.substituteTimer ∧
    (suspendPlayer s).stop.gripHeld = s.stop.gripHeld ∧ (suspendPlayer s).stop.consoleStop = s.stop.consoleStop ∧
    (suspendPlayer s).lens = s.lens ∧ (suspendPlayer s).store = s.store ∧ (suspendPlayer s).recorder = s.recorder ∧
    (suspendPlayer s).cues = s.cues ∧ (suspendPlayer s).mgmt.requests = s.mgmt.requests ∧
    (suspendPlayer s).mgmt.erasing = s.mgmt.erasing ∧ (suspendPlayer s).mgmt.reset = s.mgmt.reset ∧
    (suspendPlayer s).mgmt.drops = s.mgmt.drops ∧ (suspendPlayer s).mgmt.locked = s.mgmt.locked ∧
    (suspendPlayer s).notices.config = s.notices.config := by
  unfold suspendPlayer
  split <;> simp

/-- `interruptRecorder` leaves these records and fields as they stand. -/
@[simp] theorem interruptRecorder_frame (s) :
    (interruptRecorder s).pending = s.pending ∧ (interruptRecorder s).timebase = s.timebase ∧
    (interruptRecorder s).pins = s.pins ∧ (interruptRecorder s).spine.receivingU = s.spine.receivingU ∧
    (interruptRecorder s).spine.receivingD = s.spine.receivingD ∧ (interruptRecorder s).cycle = s.cycle ∧
    (interruptRecorder s).link = s.link ∧ (interruptRecorder s).pose = s.pose ∧ (interruptRecorder s).env = s.env ∧
    (interruptRecorder s).gate = s.gate ∧ (interruptRecorder s).stop.lines = s.stop.lines ∧
    (interruptRecorder s).stop.present = s.stop.present ∧ (interruptRecorder s).stop.trip = s.stop.trip ∧
    (interruptRecorder s).stop.config = s.stop.config ∧ (interruptRecorder s).stop.gesture = s.stop.gesture ∧
    (interruptRecorder s).stop.lampMap = s.stop.lampMap ∧ (interruptRecorder s).stop.entryCycle = s.stop.entryCycle ∧
    (interruptRecorder s).stop.syncTimer = s.stop.syncTimer ∧
    (interruptRecorder s).stop.substituteTimer = s.stop.substituteTimer ∧
    (interruptRecorder s).stop.gripHeld = s.stop.gripHeld ∧
    (interruptRecorder s).stop.consoleStop = s.stop.consoleStop ∧ (interruptRecorder s).lens = s.lens ∧
    (interruptRecorder s).player = s.player ∧ (interruptRecorder s).cues = s.cues ∧
    (interruptRecorder s).mgmt.requests = s.mgmt.requests ∧ (interruptRecorder s).mgmt.erasing = s.mgmt.erasing ∧
    (interruptRecorder s).mgmt.reset = s.mgmt.reset ∧ (interruptRecorder s).mgmt.drops = s.mgmt.drops ∧
    (interruptRecorder s).mgmt.locked = s.mgmt.locked ∧ (interruptRecorder s).notices.config = s.notices.config := by
  unfold interruptRecorder
  split <;> simp

/-- `leaveRun` leaves these records and fields as they stand. -/
@[simp] theorem leaveRun_frame (s) :
    (leaveRun s).pending = s.pending ∧ (leaveRun s).timebase = s.timebase ∧ (leaveRun s).pins = s.pins ∧
    (leaveRun s).spine.receivingU = s.spine.receivingU ∧ (leaveRun s).spine.receivingD = s.spine.receivingD ∧
    (leaveRun s).cycle = s.cycle ∧ (leaveRun s).link = s.link ∧ (leaveRun s).pose = s.pose ∧
    (leaveRun s).env = s.env ∧ (leaveRun s).gate = s.gate ∧ (leaveRun s).stop.lines = s.stop.lines ∧
    (leaveRun s).stop.present = s.stop.present ∧ (leaveRun s).stop.trip = s.stop.trip ∧
    (leaveRun s).stop.config = s.stop.config ∧ (leaveRun s).stop.gesture = s.stop.gesture ∧
    (leaveRun s).stop.lampMap = s.stop.lampMap ∧ (leaveRun s).stop.entryCycle = s.stop.entryCycle ∧
    (leaveRun s).stop.syncTimer = s.stop.syncTimer ∧ (leaveRun s).stop.substituteTimer = s.stop.substituteTimer ∧
    (leaveRun s).stop.gripHeld = s.stop.gripHeld ∧ (leaveRun s).stop.consoleStop = s.stop.consoleStop ∧
    (leaveRun s).lens = s.lens ∧ (leaveRun s).cues = s.cues ∧ (leaveRun s).mgmt.requests = s.mgmt.requests ∧
    (leaveRun s).mgmt.erasing = s.mgmt.erasing ∧ (leaveRun s).mgmt.reset = s.mgmt.reset ∧
    (leaveRun s).mgmt.drops = s.mgmt.drops ∧ (leaveRun s).mgmt.locked = s.mgmt.locked ∧
    (leaveRun s).notices.config = s.notices.config := by
  unfold leaveRun
  simp

/-- `invalidateLast` leaves these records and fields as they stand. -/
@[simp] theorem invalidateLast_frame (s) :
    (invalidateLast s).pending = s.pending ∧ (invalidateLast s).timebase = s.timebase ∧
    (invalidateLast s).pins = s.pins ∧ (invalidateLast s).spine = s.spine ∧ (invalidateLast s).cycle = s.cycle ∧
    (invalidateLast s).link = s.link ∧ (invalidateLast s).pose = s.pose ∧ (invalidateLast s).env = s.env ∧
    (invalidateLast s).stop = s.stop ∧ (invalidateLast s).lens = s.lens ∧ (invalidateLast s).store = s.store ∧
    (invalidateLast s).recorder = s.recorder ∧ (invalidateLast s).player = s.player ∧
    (invalidateLast s).cues = s.cues ∧ (invalidateLast s).mgmt = s.mgmt ∧ (invalidateLast s).notices = s.notices := by
  unfold invalidateLast
  simp

/-- `enterCut` leaves these records and fields as they stand. -/
@[simp] theorem enterCut_frame (r s) :
    (enterCut r s).pending = s.pending ∧ (enterCut r s).timebase = s.timebase ∧ (enterCut r s).pins = s.pins ∧
    (enterCut r s).spine.receivingU = s.spine.receivingU ∧ (enterCut r s).spine.receivingD = s.spine.receivingD ∧
    (enterCut r s).cycle = s.cycle ∧ (enterCut r s).link = s.link ∧ (enterCut r s).pose = s.pose ∧
    (enterCut r s).env = s.env ∧ (enterCut r s).stop.lines = s.stop.lines ∧
    (enterCut r s).stop.present = s.stop.present ∧ (enterCut r s).stop.trip = s.stop.trip ∧
    (enterCut r s).stop.config = s.stop.config ∧ (enterCut r s).stop.gesture = s.stop.gesture ∧
    (enterCut r s).stop.lampMap = s.stop.lampMap ∧ (enterCut r s).stop.entryCycle = s.stop.entryCycle ∧
    (enterCut r s).stop.syncTimer = s.stop.syncTimer ∧ (enterCut r s).stop.substituteTimer = s.stop.substituteTimer ∧
    (enterCut r s).stop.gripHeld = s.stop.gripHeld ∧ (enterCut r s).stop.consoleStop = s.stop.consoleStop ∧
    (enterCut r s).lens = s.lens ∧ (enterCut r s).cues = s.cues ∧ (enterCut r s).mgmt.requests = s.mgmt.requests ∧
    (enterCut r s).mgmt.erasing = s.mgmt.erasing ∧ (enterCut r s).mgmt.reset = s.mgmt.reset ∧
    (enterCut r s).mgmt.drops = s.mgmt.drops ∧ (enterCut r s).mgmt.locked = s.mgmt.locked ∧
    (enterCut r s).notices.config = s.notices.config := by
  unfold enterCut
  dsimp only
  repeat' split
  all_goals simp

/-- The fold of `offerDecels` leaves these records and fields as they stand. -/
@[simp] theorem offerDecels_fold (s) (l : List (Fin 7)) :
    (List.foldl (fun s k => offerDecel k s.pose.axes[k.val].deceleration s) s l).pending = s.pending ∧
    (List.foldl (fun s k => offerDecel k s.pose.axes[k.val].deceleration s) s l).timebase = s.timebase ∧
    (List.foldl (fun s k => offerDecel k s.pose.axes[k.val].deceleration s) s l).pins = s.pins ∧
    (List.foldl (fun s k => offerDecel k s.pose.axes[k.val].deceleration s) s l).spine.receivingU = s.spine.receivingU ∧
    (List.foldl (fun s k => offerDecel k s.pose.axes[k.val].deceleration s) s l).spine.receivingD = s.spine.receivingD ∧
    (List.foldl (fun s k => offerDecel k s.pose.axes[k.val].deceleration s) s l).cycle = s.cycle ∧
    (List.foldl (fun s k => offerDecel k s.pose.axes[k.val].deceleration s) s l).link = s.link ∧
    (List.foldl (fun s k => offerDecel k s.pose.axes[k.val].deceleration s) s l).pose = s.pose ∧
    (List.foldl (fun s k => offerDecel k s.pose.axes[k.val].deceleration s) s l).env = s.env ∧
    (List.foldl (fun s k => offerDecel k s.pose.axes[k.val].deceleration s) s l).gate = s.gate ∧
    (List.foldl (fun s k => offerDecel k s.pose.axes[k.val].deceleration s) s l).stop = s.stop ∧
    (List.foldl (fun s k => offerDecel k s.pose.axes[k.val].deceleration s) s l).lens = s.lens ∧
    (List.foldl (fun s k => offerDecel k s.pose.axes[k.val].deceleration s) s l).store = s.store ∧
    (List.foldl (fun s k => offerDecel k s.pose.axes[k.val].deceleration s) s l).recorder = s.recorder ∧
    (List.foldl (fun s k => offerDecel k s.pose.axes[k.val].deceleration s) s l).player = s.player ∧
    (List.foldl (fun s k => offerDecel k s.pose.axes[k.val].deceleration s) s l).cues = s.cues ∧
    (List.foldl (fun s k => offerDecel k s.pose.axes[k.val].deceleration s) s l).mgmt = s.mgmt ∧
    (List.foldl (fun s k => offerDecel k s.pose.axes[k.val].deceleration s) s l).notices = s.notices := by
  induction l generalizing s with
  | nil => simp
  | cons head tail ih =>
    rw [List.foldl_cons]
    simp [ih]

/-- `offerDecels` leaves these records and fields as they stand. -/
@[simp] theorem offerDecels_frame (s) :
    (offerDecels s).pending = s.pending ∧ (offerDecels s).timebase = s.timebase ∧ (offerDecels s).pins = s.pins ∧
    (offerDecels s).spine.receivingU = s.spine.receivingU ∧ (offerDecels s).spine.receivingD = s.spine.receivingD ∧
    (offerDecels s).cycle = s.cycle ∧ (offerDecels s).link = s.link ∧ (offerDecels s).pose = s.pose ∧
    (offerDecels s).env = s.env ∧ (offerDecels s).gate = s.gate ∧ (offerDecels s).stop = s.stop ∧
    (offerDecels s).lens = s.lens ∧ (offerDecels s).store = s.store ∧ (offerDecels s).recorder = s.recorder ∧
    (offerDecels s).player = s.player ∧ (offerDecels s).cues = s.cues ∧ (offerDecels s).mgmt = s.mgmt ∧
    (offerDecels s).notices = s.notices := by
  unfold offerDecels
  simp

/-- `enterRamp` leaves these records and fields as they stand. -/
@[simp] theorem enterRamp_frame (r s) :
    (enterRamp r s).pending = s.pending ∧ (enterRamp r s).timebase = s.timebase ∧ (enterRamp r s).pins = s.pins ∧
    (enterRamp r s).spine.receivingU = s.spine.receivingU ∧ (enterRamp r s).spine.receivingD = s.spine.receivingD ∧
    (enterRamp r s).cycle = s.cycle ∧ (enterRamp r s).link = s.link ∧ (enterRamp r s).pose = s.pose ∧
    (enterRamp r s).env = s.env ∧ (enterRamp r s).gate = s.gate ∧ (enterRamp r s).stop.lines = s.stop.lines ∧
    (enterRamp r s).stop.present = s.stop.present ∧ (enterRamp r s).stop.trip = s.stop.trip ∧
    (enterRamp r s).stop.config = s.stop.config ∧ (enterRamp r s).stop.gesture = s.stop.gesture ∧
    (enterRamp r s).stop.lampMap = s.stop.lampMap ∧ (enterRamp r s).stop.syncTimer = s.stop.syncTimer ∧
    (enterRamp r s).stop.substituteTimer = s.stop.substituteTimer ∧ (enterRamp r s).stop.gripHeld = s.stop.gripHeld ∧
    (enterRamp r s).stop.consoleStop = s.stop.consoleStop ∧ (enterRamp r s).lens = s.lens ∧
    (enterRamp r s).cues = s.cues ∧ (enterRamp r s).mgmt.requests = s.mgmt.requests ∧
    (enterRamp r s).mgmt.erasing = s.mgmt.erasing ∧ (enterRamp r s).mgmt.reset = s.mgmt.reset ∧
    (enterRamp r s).mgmt.drops = s.mgmt.drops ∧ (enterRamp r s).mgmt.locked = s.mgmt.locked ∧
    (enterRamp r s).notices.config = s.notices.config := by
  unfold enterRamp
  simp

/-- `reloadLast` leaves these records and fields as they stand. -/
@[simp] theorem reloadLast_frame (s) :
    (reloadLast s).pending = s.pending ∧ (reloadLast s).timebase = s.timebase ∧ (reloadLast s).pins = s.pins ∧
    (reloadLast s).spine = s.spine ∧ (reloadLast s).cycle = s.cycle ∧ (reloadLast s).link = s.link ∧
    (reloadLast s).pose = s.pose ∧ (reloadLast s).env = s.env ∧ (reloadLast s).stop = s.stop ∧
    (reloadLast s).lens = s.lens ∧ (reloadLast s).store = s.store ∧ (reloadLast s).recorder = s.recorder ∧
    (reloadLast s).player = s.player ∧ (reloadLast s).cues = s.cues ∧ (reloadLast s).mgmt = s.mgmt ∧
    (reloadLast s).notices = s.notices := by
  unfold reloadLast
  simp

/-- `rearm` leaves these records and fields as they stand. -/
@[simp] theorem rearm_frame (s) :
    (rearm s).pending = s.pending ∧ (rearm s).timebase = s.timebase ∧ (rearm s).pins = s.pins ∧
    (rearm s).spine.receivingU = s.spine.receivingU ∧ (rearm s).spine.receivingD = s.spine.receivingD ∧
    (rearm s).cycle = s.cycle ∧ (rearm s).link = s.link ∧ (rearm s).pose = s.pose ∧ (rearm s).env = s.env ∧
    (rearm s).stop.lines = s.stop.lines ∧ (rearm s).stop.present = s.stop.present ∧
    (rearm s).stop.config = s.stop.config ∧ (rearm s).stop.gesture = s.stop.gesture ∧
    (rearm s).stop.lampMap = s.stop.lampMap ∧ (rearm s).stop.entryCycle = s.stop.entryCycle ∧
    (rearm s).stop.syncTimer = s.stop.syncTimer ∧ (rearm s).stop.substituteTimer = s.stop.substituteTimer ∧
    (rearm s).stop.gripHeld = s.stop.gripHeld ∧ (rearm s).stop.consoleStop = s.stop.consoleStop ∧
    (rearm s).lens = s.lens ∧ (rearm s).store = s.store ∧ (rearm s).recorder = s.recorder ∧
    (rearm s).player = s.player ∧ (rearm s).cues = s.cues ∧ (rearm s).mgmt.requests = s.mgmt.requests ∧
    (rearm s).mgmt.erasing = s.mgmt.erasing ∧ (rearm s).mgmt.reset = s.mgmt.reset ∧
    (rearm s).mgmt.drops = s.mgmt.drops ∧ (rearm s).mgmt.locked = s.mgmt.locked ∧
    (rearm s).notices.config = s.notices.config := by
  unfold rearm
  simp

/-- `park` leaves these records and fields as they stand. -/
@[simp] theorem park_frame (s) :
    (Sys2Proof.Machine.park s).pending = s.pending ∧ (Sys2Proof.Machine.park s).timebase = s.timebase ∧
    (Sys2Proof.Machine.park s).pins = s.pins ∧ (Sys2Proof.Machine.park s).spine.receivingU = s.spine.receivingU ∧
    (Sys2Proof.Machine.park s).spine.receivingD = s.spine.receivingD ∧ (Sys2Proof.Machine.park s).cycle = s.cycle ∧
    (Sys2Proof.Machine.park s).link = s.link ∧ (Sys2Proof.Machine.park s).pose = s.pose ∧
    (Sys2Proof.Machine.park s).env = s.env ∧ (Sys2Proof.Machine.park s).gate = s.gate ∧
    (Sys2Proof.Machine.park s).stop.lines = s.stop.lines ∧ (Sys2Proof.Machine.park s).stop.present = s.stop.present ∧
    (Sys2Proof.Machine.park s).stop.trip = s.stop.trip ∧ (Sys2Proof.Machine.park s).stop.config = s.stop.config ∧
    (Sys2Proof.Machine.park s).stop.gesture = s.stop.gesture ∧
    (Sys2Proof.Machine.park s).stop.lampMap = s.stop.lampMap ∧
    (Sys2Proof.Machine.park s).stop.entryCycle = s.stop.entryCycle ∧
    (Sys2Proof.Machine.park s).stop.syncTimer = s.stop.syncTimer ∧
    (Sys2Proof.Machine.park s).stop.substituteTimer = s.stop.substituteTimer ∧
    (Sys2Proof.Machine.park s).stop.gripHeld = s.stop.gripHeld ∧
    (Sys2Proof.Machine.park s).stop.consoleStop = s.stop.consoleStop ∧ (Sys2Proof.Machine.park s).lens = s.lens ∧
    (Sys2Proof.Machine.park s).store = s.store ∧ (Sys2Proof.Machine.park s).recorder = s.recorder ∧
    (Sys2Proof.Machine.park s).player = s.player ∧ (Sys2Proof.Machine.park s).cues = s.cues ∧
    (Sys2Proof.Machine.park s).mgmt.requests = s.mgmt.requests ∧
    (Sys2Proof.Machine.park s).mgmt.erasing = s.mgmt.erasing ∧ (Sys2Proof.Machine.park s).mgmt.reset = s.mgmt.reset ∧
    (Sys2Proof.Machine.park s).mgmt.drops = s.mgmt.drops ∧ (Sys2Proof.Machine.park s).mgmt.locked = s.mgmt.locked ∧
    (Sys2Proof.Machine.park s).notices.config = s.notices.config := by
  unfold Sys2Proof.Machine.park
  simp

/-- `joinTrip` leaves these records and fields as they stand. -/
@[simp] theorem joinTrip_frame (c s) :
    (joinTrip c s).pending = s.pending ∧ (joinTrip c s).timebase = s.timebase ∧ (joinTrip c s).pins = s.pins ∧
    (joinTrip c s).spine.receivingU = s.spine.receivingU ∧ (joinTrip c s).spine.receivingD = s.spine.receivingD ∧
    (joinTrip c s).cycle = s.cycle ∧ (joinTrip c s).link = s.link ∧ (joinTrip c s).pose = s.pose ∧
    (joinTrip c s).env = s.env ∧ (joinTrip c s).gate = s.gate ∧ (joinTrip c s).stop.lines = s.stop.lines ∧
    (joinTrip c s).stop.present = s.stop.present ∧ (joinTrip c s).stop.config = s.stop.config ∧
    (joinTrip c s).stop.gesture = s.stop.gesture ∧ (joinTrip c s).stop.lampMap = s.stop.lampMap ∧
    (joinTrip c s).stop.entryCycle = s.stop.entryCycle ∧ (joinTrip c s).stop.syncTimer = s.stop.syncTimer ∧
    (joinTrip c s).stop.substituteTimer = s.stop.substituteTimer ∧ (joinTrip c s).stop.gripHeld = s.stop.gripHeld ∧
    (joinTrip c s).stop.consoleStop = s.stop.consoleStop ∧ (joinTrip c s).lens = s.lens ∧
    (joinTrip c s).store = s.store ∧ (joinTrip c s).recorder = s.recorder ∧ (joinTrip c s).player = s.player ∧
    (joinTrip c s).cues = s.cues ∧ (joinTrip c s).mgmt.requests = s.mgmt.requests ∧
    (joinTrip c s).mgmt.erasing = s.mgmt.erasing ∧ (joinTrip c s).mgmt.reset = s.mgmt.reset ∧
    (joinTrip c s).mgmt.drops = s.mgmt.drops ∧ (joinTrip c s).mgmt.locked = s.mgmt.locked ∧
    (joinTrip c s).notices.config = s.notices.config := by
  unfold joinTrip
  split <;> simp

/-- The fold of `joinPresent` leaves these records and fields as they stand. -/
@[simp] theorem joinPresent_fold (s) (l : List (Fin 21)) :
    (List.foldl (fun s c => joinTrip c s) s l).pending = s.pending ∧
    (List.foldl (fun s c => joinTrip c s) s l).timebase = s.timebase ∧
    (List.foldl (fun s c => joinTrip c s) s l).pins = s.pins ∧
    (List.foldl (fun s c => joinTrip c s) s l).spine.receivingU = s.spine.receivingU ∧
    (List.foldl (fun s c => joinTrip c s) s l).spine.receivingD = s.spine.receivingD ∧
    (List.foldl (fun s c => joinTrip c s) s l).cycle = s.cycle ∧
    (List.foldl (fun s c => joinTrip c s) s l).link = s.link ∧
    (List.foldl (fun s c => joinTrip c s) s l).pose = s.pose ∧
    (List.foldl (fun s c => joinTrip c s) s l).env = s.env ∧
    (List.foldl (fun s c => joinTrip c s) s l).gate = s.gate ∧
    (List.foldl (fun s c => joinTrip c s) s l).stop.lines = s.stop.lines ∧
    (List.foldl (fun s c => joinTrip c s) s l).stop.present = s.stop.present ∧
    (List.foldl (fun s c => joinTrip c s) s l).stop.config = s.stop.config ∧
    (List.foldl (fun s c => joinTrip c s) s l).stop.gesture = s.stop.gesture ∧
    (List.foldl (fun s c => joinTrip c s) s l).stop.lampMap = s.stop.lampMap ∧
    (List.foldl (fun s c => joinTrip c s) s l).stop.entryCycle = s.stop.entryCycle ∧
    (List.foldl (fun s c => joinTrip c s) s l).stop.syncTimer = s.stop.syncTimer ∧
    (List.foldl (fun s c => joinTrip c s) s l).stop.substituteTimer = s.stop.substituteTimer ∧
    (List.foldl (fun s c => joinTrip c s) s l).stop.gripHeld = s.stop.gripHeld ∧
    (List.foldl (fun s c => joinTrip c s) s l).stop.consoleStop = s.stop.consoleStop ∧
    (List.foldl (fun s c => joinTrip c s) s l).lens = s.lens ∧
    (List.foldl (fun s c => joinTrip c s) s l).store = s.store ∧
    (List.foldl (fun s c => joinTrip c s) s l).recorder = s.recorder ∧
    (List.foldl (fun s c => joinTrip c s) s l).player = s.player ∧
    (List.foldl (fun s c => joinTrip c s) s l).cues = s.cues ∧
    (List.foldl (fun s c => joinTrip c s) s l).mgmt.requests = s.mgmt.requests ∧
    (List.foldl (fun s c => joinTrip c s) s l).mgmt.erasing = s.mgmt.erasing ∧
    (List.foldl (fun s c => joinTrip c s) s l).mgmt.reset = s.mgmt.reset ∧
    (List.foldl (fun s c => joinTrip c s) s l).mgmt.drops = s.mgmt.drops ∧
    (List.foldl (fun s c => joinTrip c s) s l).mgmt.locked = s.mgmt.locked ∧
    (List.foldl (fun s c => joinTrip c s) s l).notices.config = s.notices.config := by
  induction l generalizing s with
  | nil => simp
  | cons head tail ih =>
    rw [List.foldl_cons]
    simp [ih]

/-- `joinPresent` leaves these records and fields as they stand. -/
@[simp] theorem joinPresent_frame (s) :
    (joinPresent s).pending = s.pending ∧ (joinPresent s).timebase = s.timebase ∧ (joinPresent s).pins = s.pins ∧
    (joinPresent s).spine.receivingU = s.spine.receivingU ∧ (joinPresent s).spine.receivingD = s.spine.receivingD ∧
    (joinPresent s).cycle = s.cycle ∧ (joinPresent s).link = s.link ∧ (joinPresent s).pose = s.pose ∧
    (joinPresent s).env = s.env ∧ (joinPresent s).gate = s.gate ∧ (joinPresent s).stop.lines = s.stop.lines ∧
    (joinPresent s).stop.present = s.stop.present ∧ (joinPresent s).stop.config = s.stop.config ∧
    (joinPresent s).stop.gesture = s.stop.gesture ∧ (joinPresent s).stop.lampMap = s.stop.lampMap ∧
    (joinPresent s).stop.entryCycle = s.stop.entryCycle ∧ (joinPresent s).stop.syncTimer = s.stop.syncTimer ∧
    (joinPresent s).stop.substituteTimer = s.stop.substituteTimer ∧ (joinPresent s).stop.gripHeld = s.stop.gripHeld ∧
    (joinPresent s).stop.consoleStop = s.stop.consoleStop ∧ (joinPresent s).lens = s.lens ∧
    (joinPresent s).store = s.store ∧ (joinPresent s).recorder = s.recorder ∧ (joinPresent s).player = s.player ∧
    (joinPresent s).cues = s.cues ∧ (joinPresent s).mgmt.requests = s.mgmt.requests ∧
    (joinPresent s).mgmt.erasing = s.mgmt.erasing ∧ (joinPresent s).mgmt.reset = s.mgmt.reset ∧
    (joinPresent s).mgmt.drops = s.mgmt.drops ∧ (joinPresent s).mgmt.locked = s.mgmt.locked ∧
    (joinPresent s).notices.config = s.notices.config := by
  unfold joinPresent
  simp

/-- `judgeCut` leaves these records and fields as they stand. -/
@[simp] theorem judgeCut_frame (s) :
    (judgeCut s).pending = s.pending ∧ (judgeCut s).timebase = s.timebase ∧ (judgeCut s).pins = s.pins ∧
    (judgeCut s).spine.receivingU = s.spine.receivingU ∧ (judgeCut s).spine.receivingD = s.spine.receivingD ∧
    (judgeCut s).cycle = s.cycle ∧ (judgeCut s).link = s.link ∧ (judgeCut s).pose = s.pose ∧
    (judgeCut s).env = s.env ∧ (judgeCut s).gate = s.gate ∧ (judgeCut s).stop.lines = s.stop.lines ∧
    (judgeCut s).stop.present = s.stop.present ∧ (judgeCut s).stop.trip = s.stop.trip ∧
    (judgeCut s).stop.config = s.stop.config ∧ (judgeCut s).stop.gesture = s.stop.gesture ∧
    (judgeCut s).stop.lampMap = s.stop.lampMap ∧ (judgeCut s).stop.entryCycle = s.stop.entryCycle ∧
    (judgeCut s).stop.syncTimer = s.stop.syncTimer ∧ (judgeCut s).stop.substituteTimer = s.stop.substituteTimer ∧
    (judgeCut s).stop.gripHeld = s.stop.gripHeld ∧ (judgeCut s).stop.consoleStop = s.stop.consoleStop ∧
    (judgeCut s).lens = s.lens ∧ (judgeCut s).store = s.store ∧ (judgeCut s).recorder = s.recorder ∧
    (judgeCut s).player = s.player ∧ (judgeCut s).cues = s.cues ∧ (judgeCut s).mgmt.requests = s.mgmt.requests ∧
    (judgeCut s).mgmt.erasing = s.mgmt.erasing ∧ (judgeCut s).mgmt.reset = s.mgmt.reset ∧
    (judgeCut s).mgmt.drops = s.mgmt.drops ∧ (judgeCut s).mgmt.locked = s.mgmt.locked ∧
    (judgeCut s).notices.config = s.notices.config := by
  unfold judgeCut
  split <;> simp

/-- `causeEnters` leaves these records and fields as they stand. -/
@[simp] theorem causeEnters_frame (c s) :
    (causeEnters c s).pending = s.pending ∧ (causeEnters c s).timebase = s.timebase ∧
    (causeEnters c s).pins = s.pins ∧ (causeEnters c s).spine.receivingU = s.spine.receivingU ∧
    (causeEnters c s).spine.receivingD = s.spine.receivingD ∧ (causeEnters c s).cycle = s.cycle ∧
    (causeEnters c s).link = s.link ∧ (causeEnters c s).pose = s.pose ∧ (causeEnters c s).env = s.env ∧
    (causeEnters c s).stop.lines = s.stop.lines ∧ (causeEnters c s).stop.config = s.stop.config ∧
    (causeEnters c s).stop.gesture = s.stop.gesture ∧ (causeEnters c s).stop.lampMap = s.stop.lampMap ∧
    (causeEnters c s).stop.syncTimer = s.stop.syncTimer ∧
    (causeEnters c s).stop.substituteTimer = s.stop.substituteTimer ∧
    (causeEnters c s).stop.gripHeld = s.stop.gripHeld ∧ (causeEnters c s).stop.consoleStop = s.stop.consoleStop ∧
    (causeEnters c s).lens = s.lens ∧ (causeEnters c s).cues = s.cues ∧
    (causeEnters c s).mgmt.requests = s.mgmt.requests ∧ (causeEnters c s).mgmt.erasing = s.mgmt.erasing ∧
    (causeEnters c s).mgmt.reset = s.mgmt.reset ∧ (causeEnters c s).mgmt.drops = s.mgmt.drops ∧
    (causeEnters c s).mgmt.locked = s.mgmt.locked ∧ (causeEnters c s).notices.config = s.notices.config := by
  unfold causeEnters
  dsimp only
  repeat' split
  all_goals simp

/-- `causeLeaves` leaves these records and fields as they stand. -/
@[simp] theorem causeLeaves_frame (c s) :
    (causeLeaves c s).pending = s.pending ∧ (causeLeaves c s).timebase = s.timebase ∧
    (causeLeaves c s).pins = s.pins ∧ (causeLeaves c s).spine.receivingU = s.spine.receivingU ∧
    (causeLeaves c s).spine.receivingD = s.spine.receivingD ∧ (causeLeaves c s).cycle = s.cycle ∧
    (causeLeaves c s).link = s.link ∧ (causeLeaves c s).pose = s.pose ∧ (causeLeaves c s).env = s.env ∧
    (causeLeaves c s).gate = s.gate ∧ (causeLeaves c s).stop.lines = s.stop.lines ∧
    (causeLeaves c s).stop.trip = s.stop.trip ∧ (causeLeaves c s).stop.config = s.stop.config ∧
    (causeLeaves c s).stop.gesture = s.stop.gesture ∧ (causeLeaves c s).stop.lampMap = s.stop.lampMap ∧
    (causeLeaves c s).stop.entryCycle = s.stop.entryCycle ∧ (causeLeaves c s).stop.syncTimer = s.stop.syncTimer ∧
    (causeLeaves c s).stop.substituteTimer = s.stop.substituteTimer ∧
    (causeLeaves c s).stop.gripHeld = s.stop.gripHeld ∧ (causeLeaves c s).stop.consoleStop = s.stop.consoleStop ∧
    (causeLeaves c s).lens = s.lens ∧ (causeLeaves c s).store = s.store ∧ (causeLeaves c s).recorder = s.recorder ∧
    (causeLeaves c s).player = s.player ∧ (causeLeaves c s).cues = s.cues ∧
    (causeLeaves c s).mgmt.requests = s.mgmt.requests ∧ (causeLeaves c s).mgmt.erasing = s.mgmt.erasing ∧
    (causeLeaves c s).mgmt.reset = s.mgmt.reset ∧ (causeLeaves c s).mgmt.drops = s.mgmt.drops ∧
    (causeLeaves c s).mgmt.locked = s.mgmt.locked ∧ (causeLeaves c s).notices.config = s.notices.config := by
  unfold causeLeaves
  split <;> simp

/-- `handOver` leaves these records and fields as they stand. -/
@[simp] theorem handOver_frame (c h s) :
    (handOver c h s).pending = s.pending ∧ (handOver c h s).timebase = s.timebase ∧ (handOver c h s).pins = s.pins ∧
    (handOver c h s).spine.receivingU = s.spine.receivingU ∧ (handOver c h s).spine.receivingD = s.spine.receivingD ∧
    (handOver c h s).cycle = s.cycle ∧ (handOver c h s).link = s.link ∧ (handOver c h s).pose = s.pose ∧
    (handOver c h s).env = s.env ∧ (handOver c h s).stop.lines = s.stop.lines ∧
    (handOver c h s).stop.config = s.stop.config ∧ (handOver c h s).stop.gesture = s.stop.gesture ∧
    (handOver c h s).stop.lampMap = s.stop.lampMap ∧ (handOver c h s).stop.syncTimer = s.stop.syncTimer ∧
    (handOver c h s).stop.substituteTimer = s.stop.substituteTimer ∧
    (handOver c h s).stop.gripHeld = s.stop.gripHeld ∧ (handOver c h s).stop.consoleStop = s.stop.consoleStop ∧
    (handOver c h s).lens = s.lens ∧ (handOver c h s).cues = s.cues ∧
    (handOver c h s).mgmt.requests = s.mgmt.requests ∧ (handOver c h s).mgmt.erasing = s.mgmt.erasing ∧
    (handOver c h s).mgmt.reset = s.mgmt.reset ∧ (handOver c h s).mgmt.drops = s.mgmt.drops ∧
    (handOver c h s).mgmt.locked = s.mgmt.locked ∧ (handOver c h s).notices.config = s.notices.config := by
  unfold handOver
  split <;> simp

/-- `rampEvent` leaves these records and fields as they stand. -/
@[simp] theorem rampEvent_frame (c s) :
    (rampEvent c s).pending = s.pending ∧ (rampEvent c s).timebase = s.timebase ∧ (rampEvent c s).pins = s.pins ∧
    (rampEvent c s).spine.receivingU = s.spine.receivingU ∧ (rampEvent c s).spine.receivingD = s.spine.receivingD ∧
    (rampEvent c s).cycle = s.cycle ∧ (rampEvent c s).link = s.link ∧ (rampEvent c s).pose = s.pose ∧
    (rampEvent c s).env = s.env ∧ (rampEvent c s).gate = s.gate ∧ (rampEvent c s).stop.lines = s.stop.lines ∧
    (rampEvent c s).stop.present = s.stop.present ∧ (rampEvent c s).stop.config = s.stop.config ∧
    (rampEvent c s).stop.gesture = s.stop.gesture ∧ (rampEvent c s).stop.lampMap = s.stop.lampMap ∧
    (rampEvent c s).stop.syncTimer = s.stop.syncTimer ∧
    (rampEvent c s).stop.substituteTimer = s.stop.substituteTimer ∧ (rampEvent c s).stop.gripHeld = s.stop.gripHeld ∧
    (rampEvent c s).stop.consoleStop = s.stop.consoleStop ∧ (rampEvent c s).lens = s.lens ∧
    (rampEvent c s).cues = s.cues ∧ (rampEvent c s).mgmt.requests = s.mgmt.requests ∧
    (rampEvent c s).mgmt.erasing = s.mgmt.erasing ∧ (rampEvent c s).mgmt.reset = s.mgmt.reset ∧
    (rampEvent c s).mgmt.drops = s.mgmt.drops ∧ (rampEvent c s).mgmt.locked = s.mgmt.locked ∧
    (rampEvent c s).notices.config = s.notices.config := by
  unfold rampEvent
  split <;> simp

/-- `rampTimedOut` leaves these records and fields as they stand. -/
@[simp] theorem rampTimedOut_frame (s) :
    (rampTimedOut s).pending = s.pending ∧ (rampTimedOut s).timebase = s.timebase ∧ (rampTimedOut s).pins = s.pins ∧
    (rampTimedOut s).spine.receivingU = s.spine.receivingU ∧ (rampTimedOut s).spine.receivingD = s.spine.receivingD ∧
    (rampTimedOut s).cycle = s.cycle ∧ (rampTimedOut s).link = s.link ∧ (rampTimedOut s).pose = s.pose ∧
    (rampTimedOut s).env = s.env ∧ (rampTimedOut s).stop.lines = s.stop.lines ∧
    (rampTimedOut s).stop.present = s.stop.present ∧ (rampTimedOut s).stop.config = s.stop.config ∧
    (rampTimedOut s).stop.gesture = s.stop.gesture ∧ (rampTimedOut s).stop.lampMap = s.stop.lampMap ∧
    (rampTimedOut s).stop.entryCycle = s.stop.entryCycle ∧ (rampTimedOut s).stop.syncTimer = s.stop.syncTimer ∧
    (rampTimedOut s).stop.substituteTimer = s.stop.substituteTimer ∧
    (rampTimedOut s).stop.gripHeld = s.stop.gripHeld ∧ (rampTimedOut s).stop.consoleStop = s.stop.consoleStop ∧
    (rampTimedOut s).lens = s.lens ∧ (rampTimedOut s).cues = s.cues ∧
    (rampTimedOut s).mgmt.requests = s.mgmt.requests ∧ (rampTimedOut s).mgmt.erasing = s.mgmt.erasing ∧
    (rampTimedOut s).mgmt.reset = s.mgmt.reset ∧ (rampTimedOut s).mgmt.drops = s.mgmt.drops ∧
    (rampTimedOut s).mgmt.locked = s.mgmt.locked ∧ (rampTimedOut s).notices.config = s.notices.config := by
  unfold rampTimedOut
  simp

/-- `State.setCounter` leaves these records and fields as they stand. -/
@[simp] theorem State.setCounter_frame (s p c v) :
    (State.setCounter s p c v).pending = s.pending ∧ (State.setCounter s p c v).timebase = s.timebase ∧
    (State.setCounter s p c v).pins = s.pins ∧ (State.setCounter s p c v).spine = s.spine ∧
    (State.setCounter s p c v).link.thresholds = s.link.thresholds ∧
    (State.setCounter s p c v).link.test = s.link.test ∧
    (State.setCounter s p c v).link.testErrors = s.link.testErrors ∧
    (State.setCounter s p c v).link.u.state = s.link.u.state ∧
    (State.setCounter s p c v).link.d.state = s.link.d.state ∧ (State.setCounter s p c v).pose = s.pose ∧
    (State.setCounter s p c v).env = s.env ∧ (State.setCounter s p c v).gate = s.gate ∧
    (State.setCounter s p c v).stop = s.stop ∧ (State.setCounter s p c v).lens = s.lens ∧
    (State.setCounter s p c v).store = s.store ∧ (State.setCounter s p c v).recorder = s.recorder ∧
    (State.setCounter s p c v).player = s.player ∧ (State.setCounter s p c v).cues = s.cues ∧
    (State.setCounter s p c v).mgmt = s.mgmt ∧ (State.setCounter s p c v).notices = s.notices := by
  unfold State.setCounter
  cases c <;> cases p <;> simp [Link.setPort, Link.port]

/-- `bumpCounter` leaves these records and fields as they stand. -/
@[simp] theorem bumpCounter_frame (p c s) :
    (bumpCounter p c s).pending = s.pending ∧ (bumpCounter p c s).timebase = s.timebase ∧
    (bumpCounter p c s).pins = s.pins ∧ (bumpCounter p c s).spine.receivingU = s.spine.receivingU ∧
    (bumpCounter p c s).spine.receivingD = s.spine.receivingD ∧
    (bumpCounter p c s).link.thresholds = s.link.thresholds ∧ (bumpCounter p c s).link.test = s.link.test ∧
    (bumpCounter p c s).link.testErrors = s.link.testErrors ∧ (bumpCounter p c s).link.u.state = s.link.u.state ∧
    (bumpCounter p c s).link.d.state = s.link.d.state ∧ (bumpCounter p c s).pose = s.pose ∧
    (bumpCounter p c s).env = s.env ∧ (bumpCounter p c s).gate = s.gate ∧
    (bumpCounter p c s).stop.lines = s.stop.lines ∧ (bumpCounter p c s).stop.present = s.stop.present ∧
    (bumpCounter p c s).stop.trip = s.stop.trip ∧ (bumpCounter p c s).stop.config = s.stop.config ∧
    (bumpCounter p c s).stop.gesture = s.stop.gesture ∧ (bumpCounter p c s).stop.lampMap = s.stop.lampMap ∧
    (bumpCounter p c s).stop.entryCycle = s.stop.entryCycle ∧ (bumpCounter p c s).stop.syncTimer = s.stop.syncTimer ∧
    (bumpCounter p c s).stop.substituteTimer = s.stop.substituteTimer ∧
    (bumpCounter p c s).stop.gripHeld = s.stop.gripHeld ∧ (bumpCounter p c s).stop.consoleStop = s.stop.consoleStop ∧
    (bumpCounter p c s).lens = s.lens ∧ (bumpCounter p c s).store = s.store ∧
    (bumpCounter p c s).recorder = s.recorder ∧ (bumpCounter p c s).player = s.player ∧
    (bumpCounter p c s).cues = s.cues ∧ (bumpCounter p c s).mgmt.requests = s.mgmt.requests ∧
    (bumpCounter p c s).mgmt.erasing = s.mgmt.erasing ∧ (bumpCounter p c s).mgmt.reset = s.mgmt.reset ∧
    (bumpCounter p c s).mgmt.drops = s.mgmt.drops ∧ (bumpCounter p c s).mgmt.locked = s.mgmt.locked ∧
    (bumpCounter p c s).notices.config = s.notices.config := by
  unfold bumpCounter
  dsimp only
  repeat' split
  all_goals simp

/-- `offerForward` leaves these records and fields as they stand. -/
@[simp] theorem offerForward_frame (f s) :
    (offerForward f s).pending = s.pending ∧ (offerForward f s).timebase = s.timebase ∧
    (offerForward f s).pins = s.pins ∧ (offerForward f s).spine.receivingU = s.spine.receivingU ∧
    (offerForward f s).spine.receivingD = s.spine.receivingD ∧
    (offerForward f s).link.thresholds = s.link.thresholds ∧ (offerForward f s).link.test = s.link.test ∧
    (offerForward f s).link.testErrors = s.link.testErrors ∧ (offerForward f s).link.u.state = s.link.u.state ∧
    (offerForward f s).link.d.state = s.link.d.state ∧ (offerForward f s).pose = s.pose ∧
    (offerForward f s).env = s.env ∧ (offerForward f s).gate = s.gate ∧ (offerForward f s).stop.lines = s.stop.lines ∧
    (offerForward f s).stop.present = s.stop.present ∧ (offerForward f s).stop.trip = s.stop.trip ∧
    (offerForward f s).stop.config = s.stop.config ∧ (offerForward f s).stop.gesture = s.stop.gesture ∧
    (offerForward f s).stop.lampMap = s.stop.lampMap ∧ (offerForward f s).stop.entryCycle = s.stop.entryCycle ∧
    (offerForward f s).stop.syncTimer = s.stop.syncTimer ∧
    (offerForward f s).stop.substituteTimer = s.stop.substituteTimer ∧
    (offerForward f s).stop.gripHeld = s.stop.gripHeld ∧ (offerForward f s).stop.consoleStop = s.stop.consoleStop ∧
    (offerForward f s).lens = s.lens ∧ (offerForward f s).store = s.store ∧ (offerForward f s).recorder = s.recorder ∧
    (offerForward f s).player = s.player ∧ (offerForward f s).cues = s.cues ∧
    (offerForward f s).mgmt.requests = s.mgmt.requests ∧ (offerForward f s).mgmt.erasing = s.mgmt.erasing ∧
    (offerForward f s).mgmt.reset = s.mgmt.reset ∧ (offerForward f s).mgmt.drops = s.mgmt.drops ∧
    (offerForward f s).mgmt.locked = s.mgmt.locked ∧ (offerForward f s).notices.config = s.notices.config := by
  unfold offerForward
  split <;> simp

/-- `offerQueueD` leaves these records and fields as they stand. -/
@[simp] theorem offerQueueD_frame (f s) :
    (offerQueueD f s).pending = s.pending ∧ (offerQueueD f s).timebase = s.timebase ∧
    (offerQueueD f s).pins = s.pins ∧ (offerQueueD f s).spine.receivingU = s.spine.receivingU ∧
    (offerQueueD f s).spine.receivingD = s.spine.receivingD ∧ (offerQueueD f s).link.thresholds = s.link.thresholds ∧
    (offerQueueD f s).link.test = s.link.test ∧ (offerQueueD f s).link.testErrors = s.link.testErrors ∧
    (offerQueueD f s).link.u.state = s.link.u.state ∧ (offerQueueD f s).link.d.state = s.link.d.state ∧
    (offerQueueD f s).pose = s.pose ∧ (offerQueueD f s).env = s.env ∧ (offerQueueD f s).gate = s.gate ∧
    (offerQueueD f s).stop.lines = s.stop.lines ∧ (offerQueueD f s).stop.present = s.stop.present ∧
    (offerQueueD f s).stop.trip = s.stop.trip ∧ (offerQueueD f s).stop.config = s.stop.config ∧
    (offerQueueD f s).stop.gesture = s.stop.gesture ∧ (offerQueueD f s).stop.lampMap = s.stop.lampMap ∧
    (offerQueueD f s).stop.entryCycle = s.stop.entryCycle ∧ (offerQueueD f s).stop.syncTimer = s.stop.syncTimer ∧
    (offerQueueD f s).stop.substituteTimer = s.stop.substituteTimer ∧
    (offerQueueD f s).stop.gripHeld = s.stop.gripHeld ∧ (offerQueueD f s).stop.consoleStop = s.stop.consoleStop ∧
    (offerQueueD f s).lens = s.lens ∧ (offerQueueD f s).store = s.store ∧ (offerQueueD f s).recorder = s.recorder ∧
    (offerQueueD f s).player = s.player ∧ (offerQueueD f s).cues = s.cues ∧
    (offerQueueD f s).mgmt.requests = s.mgmt.requests ∧ (offerQueueD f s).mgmt.erasing = s.mgmt.erasing ∧
    (offerQueueD f s).mgmt.reset = s.mgmt.reset ∧ (offerQueueD f s).mgmt.drops = s.mgmt.drops ∧
    (offerQueueD f s).mgmt.locked = s.mgmt.locked ∧ (offerQueueD f s).notices.config = s.notices.config := by
  unfold offerQueueD
  repeat' split
  all_goals simp

/-- `gateRefusal` leaves these records and fields as they stand. -/
@[simp] theorem gateRefusal_frame (s) :
    (gateRefusal s).pending = s.pending ∧ (gateRefusal s).timebase = s.timebase ∧ (gateRefusal s).pins = s.pins ∧
    (gateRefusal s).spine = s.spine ∧ (gateRefusal s).cycle = s.cycle ∧ (gateRefusal s).link = s.link ∧
    (gateRefusal s).pose = s.pose ∧ (gateRefusal s).env = s.env ∧ (gateRefusal s).stop = s.stop ∧
    (gateRefusal s).lens = s.lens ∧ (gateRefusal s).store = s.store ∧ (gateRefusal s).recorder = s.recorder ∧
    (gateRefusal s).player = s.player ∧ (gateRefusal s).cues = s.cues ∧ (gateRefusal s).mgmt = s.mgmt ∧
    (gateRefusal s).notices = s.notices := by
  unfold gateRefusal
  simp

/-- `gateWithhold` leaves these records and fields as they stand. -/
@[simp] theorem gateWithhold_frame (k s) :
    (gateWithhold k s).pending = s.pending ∧ (gateWithhold k s).timebase = s.timebase ∧
    (gateWithhold k s).pins = s.pins ∧ (gateWithhold k s).spine = s.spine ∧ (gateWithhold k s).cycle = s.cycle ∧
    (gateWithhold k s).link = s.link ∧ (gateWithhold k s).pose = s.pose ∧ (gateWithhold k s).env = s.env ∧
    (gateWithhold k s).stop = s.stop ∧ (gateWithhold k s).lens = s.lens ∧ (gateWithhold k s).store = s.store ∧
    (gateWithhold k s).recorder = s.recorder ∧ (gateWithhold k s).player = s.player ∧
    (gateWithhold k s).cues = s.cues ∧ (gateWithhold k s).mgmt = s.mgmt ∧ (gateWithhold k s).notices = s.notices := by
  unfold gateWithhold
  simp

/-- `gateOverride` leaves these records and fields as they stand. -/
@[simp] theorem gateOverride_frame (k s) :
    (gateOverride k s).pending = s.pending ∧ (gateOverride k s).timebase = s.timebase ∧
    (gateOverride k s).pins = s.pins ∧ (gateOverride k s).spine = s.spine ∧ (gateOverride k s).cycle = s.cycle ∧
    (gateOverride k s).link = s.link ∧ (gateOverride k s).pose = s.pose ∧ (gateOverride k s).env = s.env ∧
    (gateOverride k s).stop = s.stop ∧ (gateOverride k s).lens = s.lens ∧ (gateOverride k s).store = s.store ∧
    (gateOverride k s).recorder = s.recorder ∧ (gateOverride k s).player = s.player ∧
    (gateOverride k s).cues = s.cues ∧ (gateOverride k s).mgmt = s.mgmt ∧ (gateOverride k s).notices = s.notices := by
  unfold gateOverride
  simp

/-- `ringObserve` leaves these records and fields as they stand. -/
@[simp] theorem ringObserve_frame (src k v c s) :
    (ringObserve src k v c s).pending = s.pending ∧ (ringObserve src k v c s).timebase = s.timebase ∧
    (ringObserve src k v c s).pins = s.pins ∧ (ringObserve src k v c s).spine = s.spine ∧
    (ringObserve src k v c s).cycle = s.cycle ∧ (ringObserve src k v c s).link = s.link ∧
    (ringObserve src k v c s).pose = s.pose ∧ (ringObserve src k v c s).env = s.env ∧
    (ringObserve src k v c s).gate = s.gate ∧ (ringObserve src k v c s).stop = s.stop ∧
    (ringObserve src k v c s).lens = s.lens ∧ (ringObserve src k v c s).store = s.store ∧
    (ringObserve src k v c s).recorder = s.recorder ∧ (ringObserve src k v c s).cues = s.cues ∧
    (ringObserve src k v c s).mgmt = s.mgmt ∧ (ringObserve src k v c s).notices = s.notices := by
  unfold ringObserve
  split <;> simp

/-- `clampReport` leaves these records and fields as they stand. -/
@[simp] theorem clampReport_frame (src k c s) :
    (clampReport src k c s).pending = s.pending ∧ (clampReport src k c s).timebase = s.timebase ∧
    (clampReport src k c s).pins = s.pins ∧ (clampReport src k c s).spine.receivingU = s.spine.receivingU ∧
    (clampReport src k c s).spine.receivingD = s.spine.receivingD ∧ (clampReport src k c s).cycle = s.cycle ∧
    (clampReport src k c s).link = s.link ∧ (clampReport src k c s).pose = s.pose ∧
    (clampReport src k c s).env = s.env ∧ (clampReport src k c s).gate = s.gate ∧
    (clampReport src k c s).stop.lines = s.stop.lines ∧ (clampReport src k c s).stop.present = s.stop.present ∧
    (clampReport src k c s).stop.trip = s.stop.trip ∧ (clampReport src k c s).stop.config = s.stop.config ∧
    (clampReport src k c s).stop.gesture = s.stop.gesture ∧ (clampReport src k c s).stop.lampMap = s.stop.lampMap ∧
    (clampReport src k c s).stop.entryCycle = s.stop.entryCycle ∧
    (clampReport src k c s).stop.syncTimer = s.stop.syncTimer ∧
    (clampReport src k c s).stop.substituteTimer = s.stop.substituteTimer ∧
    (clampReport src k c s).stop.gripHeld = s.stop.gripHeld ∧
    (clampReport src k c s).stop.consoleStop = s.stop.consoleStop ∧ (clampReport src k c s).lens = s.lens ∧
    (clampReport src k c s).store = s.store ∧ (clampReport src k c s).recorder = s.recorder ∧
    (clampReport src k c s).cues = s.cues ∧ (clampReport src k c s).mgmt.requests = s.mgmt.requests ∧
    (clampReport src k c s).mgmt.erasing = s.mgmt.erasing ∧ (clampReport src k c s).mgmt.reset = s.mgmt.reset ∧
    (clampReport src k c s).mgmt.drops = s.mgmt.drops ∧ (clampReport src k c s).mgmt.locked = s.mgmt.locked ∧
    (clampReport src k c s).notices.config = s.notices.config := by
  unfold clampReport
  split <;> simp

/-- `composeSet` leaves these records and fields as they stand. -/
@[simp] theorem composeSet_frame (src k v c s) :
    (composeSet src k v c s).pending = s.pending ∧ (composeSet src k v c s).timebase = s.timebase ∧
    (composeSet src k v c s).pins = s.pins ∧ (composeSet src k v c s).spine.receivingU = s.spine.receivingU ∧
    (composeSet src k v c s).spine.receivingD = s.spine.receivingD ∧
    (composeSet src k v c s).link.thresholds = s.link.thresholds ∧ (composeSet src k v c s).link.test = s.link.test ∧
    (composeSet src k v c s).link.testErrors = s.link.testErrors ∧
    (composeSet src k v c s).link.u.state = s.link.u.state ∧ (composeSet src k v c s).link.d.state = s.link.d.state ∧
    (composeSet src k v c s).pose = s.pose ∧ (composeSet src k v c s).env = s.env ∧
    (composeSet src k v c s).stop.lines = s.stop.lines ∧ (composeSet src k v c s).stop.present = s.stop.present ∧
    (composeSet src k v c s).stop.trip = s.stop.trip ∧ (composeSet src k v c s).stop.config = s.stop.config ∧
    (composeSet src k v c s).stop.gesture = s.stop.gesture ∧ (composeSet src k v c s).stop.lampMap = s.stop.lampMap ∧
    (composeSet src k v c s).stop.entryCycle = s.stop.entryCycle ∧
    (composeSet src k v c s).stop.syncTimer = s.stop.syncTimer ∧
    (composeSet src k v c s).stop.substituteTimer = s.stop.substituteTimer ∧
    (composeSet src k v c s).stop.gripHeld = s.stop.gripHeld ∧
    (composeSet src k v c s).stop.consoleStop = s.stop.consoleStop ∧ (composeSet src k v c s).lens = s.lens ∧
    (composeSet src k v c s).cues = s.cues ∧ (composeSet src k v c s).mgmt.requests = s.mgmt.requests ∧
    (composeSet src k v c s).mgmt.erasing = s.mgmt.erasing ∧ (composeSet src k v c s).mgmt.reset = s.mgmt.reset ∧
    (composeSet src k v c s).mgmt.drops = s.mgmt.drops ∧ (composeSet src k v c s).mgmt.locked = s.mgmt.locked ∧
    (composeSet src k v c s).notices.config = s.notices.config := by
  unfold composeSet
  simp

/-- `gateAccepted` leaves these records and fields as they stand. -/
@[simp] theorem gateAccepted_frame (src k v c s) :
    (gateAccepted src k v c s).pending = s.pending ∧ (gateAccepted src k v c s).timebase = s.timebase ∧
    (gateAccepted src k v c s).pins = s.pins ∧ (gateAccepted src k v c s).spine.receivingU = s.spine.receivingU ∧
    (gateAccepted src k v c s).spine.receivingD = s.spine.receivingD ∧
    (gateAccepted src k v c s).link.thresholds = s.link.thresholds ∧
    (gateAccepted src k v c s).link.test = s.link.test ∧
    (gateAccepted src k v c s).link.testErrors = s.link.testErrors ∧
    (gateAccepted src k v c s).link.u.state = s.link.u.state ∧
    (gateAccepted src k v c s).link.d.state = s.link.d.state ∧ (gateAccepted src k v c s).pose = s.pose ∧
    (gateAccepted src k v c s).env = s.env ∧ (gateAccepted src k v c s).stop.lines = s.stop.lines ∧
    (gateAccepted src k v c s).stop.present = s.stop.present ∧ (gateAccepted src k v c s).stop.trip = s.stop.trip ∧
    (gateAccepted src k v c s).stop.config = s.stop.config ∧
    (gateAccepted src k v c s).stop.gesture = s.stop.gesture ∧
    (gateAccepted src k v c s).stop.lampMap = s.stop.lampMap ∧
    (gateAccepted src k v c s).stop.entryCycle = s.stop.entryCycle ∧
    (gateAccepted src k v c s).stop.syncTimer = s.stop.syncTimer ∧
    (gateAccepted src k v c s).stop.substituteTimer = s.stop.substituteTimer ∧
    (gateAccepted src k v c s).stop.gripHeld = s.stop.gripHeld ∧
    (gateAccepted src k v c s).stop.consoleStop = s.stop.consoleStop ∧ (gateAccepted src k v c s).lens = s.lens ∧
    (gateAccepted src k v c s).cues = s.cues ∧ (gateAccepted src k v c s).mgmt.requests = s.mgmt.requests ∧
    (gateAccepted src k v c s).mgmt.erasing = s.mgmt.erasing ∧ (gateAccepted src k v c s).mgmt.reset = s.mgmt.reset ∧
    (gateAccepted src k v c s).mgmt.drops = s.mgmt.drops ∧ (gateAccepted src k v c s).mgmt.locked = s.mgmt.locked ∧
    (gateAccepted src k v c s).notices.config = s.notices.config := by
  unfold gateAccepted
  dsimp only
  repeat' split
  all_goals simp

/-- `submit` leaves these records and fields as they stand. -/
@[simp] theorem submit_frame (src k v c s) :
    (submit src k v c s).pending = s.pending ∧ (submit src k v c s).timebase = s.timebase ∧
    (submit src k v c s).pins = s.pins ∧ (submit src k v c s).spine.receivingU = s.spine.receivingU ∧
    (submit src k v c s).spine.receivingD = s.spine.receivingD ∧
    (submit src k v c s).link.thresholds = s.link.thresholds ∧ (submit src k v c s).link.test = s.link.test ∧
    (submit src k v c s).link.testErrors = s.link.testErrors ∧ (submit src k v c s).link.u.state = s.link.u.state ∧
    (submit src k v c s).link.d.state = s.link.d.state ∧ (submit src k v c s).pose = s.pose ∧
    (submit src k v c s).env = s.env ∧ (submit src k v c s).stop.lines = s.stop.lines ∧
    (submit src k v c s).stop.present = s.stop.present ∧ (submit src k v c s).stop.trip = s.stop.trip ∧
    (submit src k v c s).stop.config = s.stop.config ∧ (submit src k v c s).stop.gesture = s.stop.gesture ∧
    (submit src k v c s).stop.lampMap = s.stop.lampMap ∧ (submit src k v c s).stop.entryCycle = s.stop.entryCycle ∧
    (submit src k v c s).stop.syncTimer = s.stop.syncTimer ∧
    (submit src k v c s).stop.substituteTimer = s.stop.substituteTimer ∧
    (submit src k v c s).stop.gripHeld = s.stop.gripHeld ∧
    (submit src k v c s).stop.consoleStop = s.stop.consoleStop ∧ (submit src k v c s).lens = s.lens ∧
    (submit src k v c s).cues = s.cues ∧ (submit src k v c s).mgmt.requests = s.mgmt.requests ∧
    (submit src k v c s).mgmt.erasing = s.mgmt.erasing ∧ (submit src k v c s).mgmt.reset = s.mgmt.reset ∧
    (submit src k v c s).mgmt.drops = s.mgmt.drops ∧ (submit src k v c s).mgmt.locked = s.mgmt.locked ∧
    (submit src k v c s).notices.config = s.notices.config := by
  unfold submit
  split <;> simp

/-- `translate` leaves these records and fields as they stand. -/
@[simp] theorem translate_frame (i u s) :
    (translate i u s).1.pending = s.pending ∧ (translate i u s).1.timebase = s.timebase ∧
    (translate i u s).1.pins = s.pins ∧ (translate i u s).1.spine = s.spine ∧ (translate i u s).1.cycle = s.cycle ∧
    (translate i u s).1.link = s.link ∧ (translate i u s).1.pose = s.pose ∧ (translate i u s).1.env = s.env ∧
    (translate i u s).1.gate = s.gate ∧ (translate i u s).1.stop = s.stop ∧
    (translate i u s).1.lens.curves = s.lens.curves ∧ (translate i u s).1.lens.subjects = s.lens.subjects ∧
    (translate i u s).1.store = s.store ∧ (translate i u s).1.recorder = s.recorder ∧
    (translate i u s).1.player = s.player ∧ (translate i u s).1.cues = s.cues ∧ (translate i u s).1.mgmt = s.mgmt ∧
    (translate i u s).1.notices = s.notices := by
  unfold translate
  dsimp only
  repeat' split
  all_goals simp

/-- `lensSetpoint` leaves these records and fields as they stand. -/
@[simp] theorem lensSetpoint_frame (i v c s) :
    (lensSetpoint i v c s).pending = s.pending ∧ (lensSetpoint i v c s).timebase = s.timebase ∧
    (lensSetpoint i v c s).pins = s.pins ∧ (lensSetpoint i v c s).spine.receivingU = s.spine.receivingU ∧
    (lensSetpoint i v c s).spine.receivingD = s.spine.receivingD ∧
    (lensSetpoint i v c s).link.thresholds = s.link.thresholds ∧ (lensSetpoint i v c s).link.test = s.link.test ∧
    (lensSetpoint i v c s).link.testErrors = s.link.testErrors ∧
    (lensSetpoint i v c s).link.u.state = s.link.u.state ∧ (lensSetpoint i v c s).link.d.state = s.link.d.state ∧
    (lensSetpoint i v c s).pose = s.pose ∧ (lensSetpoint i v c s).env = s.env ∧
    (lensSetpoint i v c s).stop.lines = s.stop.lines ∧ (lensSetpoint i v c s).stop.present = s.stop.present ∧
    (lensSetpoint i v c s).stop.trip = s.stop.trip ∧ (lensSetpoint i v c s).stop.config = s.stop.config ∧
    (lensSetpoint i v c s).stop.gesture = s.stop.gesture ∧ (lensSetpoint i v c s).stop.lampMap = s.stop.lampMap ∧
    (lensSetpoint i v c s).stop.entryCycle = s.stop.entryCycle ∧
    (lensSetpoint i v c s).stop.syncTimer = s.stop.syncTimer ∧
    (lensSetpoint i v c s).stop.substituteTimer = s.stop.substituteTimer ∧
    (lensSetpoint i v c s).stop.gripHeld = s.stop.gripHeld ∧
    (lensSetpoint i v c s).stop.consoleStop = s.stop.consoleStop ∧
    (lensSetpoint i v c s).lens.curves = s.lens.curves ∧ (lensSetpoint i v c s).lens.subjects = s.lens.subjects ∧
    (lensSetpoint i v c s).cues = s.cues ∧ (lensSetpoint i v c s).mgmt.requests = s.mgmt.requests ∧
    (lensSetpoint i v c s).mgmt.erasing = s.mgmt.erasing ∧ (lensSetpoint i v c s).mgmt.reset = s.mgmt.reset ∧
    (lensSetpoint i v c s).mgmt.drops = s.mgmt.drops ∧ (lensSetpoint i v c s).mgmt.locked = s.mgmt.locked ∧
    (lensSetpoint i v c s).notices.config = s.notices.config := by
  unfold lensSetpoint
  repeat' split
  all_goals simp

/-- `followSubmission` leaves these records and fields as they stand. -/
@[simp] theorem followSubmission_frame (p c s) :
    (followSubmission p c s).pending = s.pending ∧ (followSubmission p c s).timebase = s.timebase ∧
    (followSubmission p c s).pins = s.pins ∧ (followSubmission p c s).spine.receivingU = s.spine.receivingU ∧
    (followSubmission p c s).spine.receivingD = s.spine.receivingD ∧
    (followSubmission p c s).link.thresholds = s.link.thresholds ∧ (followSubmission p c s).link.test = s.link.test ∧
    (followSubmission p c s).link.testErrors = s.link.testErrors ∧
    (followSubmission p c s).link.u.state = s.link.u.state ∧ (followSubmission p c s).link.d.state = s.link.d.state ∧
    (followSubmission p c s).pose = s.pose ∧ (followSubmission p c s).env = s.env ∧
    (followSubmission p c s).stop.lines = s.stop.lines ∧ (followSubmission p c s).stop.present = s.stop.present ∧
    (followSubmission p c s).stop.trip = s.stop.trip ∧ (followSubmission p c s).stop.config = s.stop.config ∧
    (followSubmission p c s).stop.gesture = s.stop.gesture ∧ (followSubmission p c s).stop.lampMap = s.stop.lampMap ∧
    (followSubmission p c s).stop.entryCycle = s.stop.entryCycle ∧
    (followSubmission p c s).stop.syncTimer = s.stop.syncTimer ∧
    (followSubmission p c s).stop.substituteTimer = s.stop.substituteTimer ∧
    (followSubmission p c s).stop.gripHeld = s.stop.gripHeld ∧
    (followSubmission p c s).stop.consoleStop = s.stop.consoleStop ∧
    (followSubmission p c s).lens.curves = s.lens.curves ∧ (followSubmission p c s).lens.subjects = s.lens.subjects ∧
    (followSubmission p c s).cues = s.cues ∧ (followSubmission p c s).mgmt.requests = s.mgmt.requests ∧
    (followSubmission p c s).mgmt.erasing = s.mgmt.erasing ∧ (followSubmission p c s).mgmt.reset = s.mgmt.reset ∧
    (followSubmission p c s).mgmt.drops = s.mgmt.drops ∧ (followSubmission p c s).mgmt.locked = s.mgmt.locked ∧
    (followSubmission p c s).notices.config = s.notices.config := by
  unfold followSubmission
  split <;> simp

/-- `turnFollowOn` leaves these records and fields as they stand. -/
@[simp] theorem turnFollowOn_frame (k s) :
    (turnFollowOn k s).pending = s.pending ∧ (turnFollowOn k s).timebase = s.timebase ∧
    (turnFollowOn k s).pins = s.pins ∧ (turnFollowOn k s).spine = s.spine ∧ (turnFollowOn k s).cycle = s.cycle ∧
    (turnFollowOn k s).link = s.link ∧ (turnFollowOn k s).pose = s.pose ∧ (turnFollowOn k s).env = s.env ∧
    (turnFollowOn k s).gate = s.gate ∧ (turnFollowOn k s).stop = s.stop ∧
    (turnFollowOn k s).lens.curves = s.lens.curves ∧ (turnFollowOn k s).lens.subjects = s.lens.subjects ∧
    (turnFollowOn k s).store = s.store ∧ (turnFollowOn k s).recorder = s.recorder ∧
    (turnFollowOn k s).player = s.player ∧ (turnFollowOn k s).cues = s.cues ∧ (turnFollowOn k s).mgmt = s.mgmt ∧
    (turnFollowOn k s).notices = s.notices := by
  unfold turnFollowOn
  simp

/-- `turnFollowOff` leaves these records and fields as they stand. -/
@[simp] theorem turnFollowOff_frame (s) :
    (turnFollowOff s).pending = s.pending ∧ (turnFollowOff s).timebase = s.timebase ∧
    (turnFollowOff s).pins = s.pins ∧ (turnFollowOff s).spine = s.spine ∧ (turnFollowOff s).cycle = s.cycle ∧
    (turnFollowOff s).link = s.link ∧ (turnFollowOff s).pose = s.pose ∧ (turnFollowOff s).env = s.env ∧
    (turnFollowOff s).gate = s.gate ∧ (turnFollowOff s).stop = s.stop ∧
    (turnFollowOff s).lens.curves = s.lens.curves ∧ (turnFollowOff s).lens.subjects = s.lens.subjects ∧
    (turnFollowOff s).store = s.store ∧ (turnFollowOff s).recorder = s.recorder ∧
    (turnFollowOff s).player = s.player ∧ (turnFollowOff s).cues = s.cues ∧ (turnFollowOff s).mgmt = s.mgmt ∧
    (turnFollowOff s).notices = s.notices := by
  unfold turnFollowOff
  simp

/-- `lensFeedback` leaves these records and fields as they stand. -/
@[simp] theorem lensFeedback_frame (i f s) :
    (lensFeedback i f s).pending = s.pending ∧ (lensFeedback i f s).timebase = s.timebase ∧
    (lensFeedback i f s).pins = s.pins ∧ (lensFeedback i f s).spine.receivingU = s.spine.receivingU ∧
    (lensFeedback i f s).spine.receivingD = s.spine.receivingD ∧ (lensFeedback i f s).cycle = s.cycle ∧
    (lensFeedback i f s).link = s.link ∧ (lensFeedback i f s).pose = s.pose ∧ (lensFeedback i f s).env = s.env ∧
    (lensFeedback i f s).gate = s.gate ∧ (lensFeedback i f s).stop.lines = s.stop.lines ∧
    (lensFeedback i f s).stop.present = s.stop.present ∧ (lensFeedback i f s).stop.trip = s.stop.trip ∧
    (lensFeedback i f s).stop.config = s.stop.config ∧ (lensFeedback i f s).stop.gesture = s.stop.gesture ∧
    (lensFeedback i f s).stop.lampMap = s.stop.lampMap ∧ (lensFeedback i f s).stop.entryCycle = s.stop.entryCycle ∧
    (lensFeedback i f s).stop.syncTimer = s.stop.syncTimer ∧
    (lensFeedback i f s).stop.substituteTimer = s.stop.substituteTimer ∧
    (lensFeedback i f s).stop.gripHeld = s.stop.gripHeld ∧
    (lensFeedback i f s).stop.consoleStop = s.stop.consoleStop ∧ (lensFeedback i f s).lens.curves = s.lens.curves ∧
    (lensFeedback i f s).lens.subjects = s.lens.subjects ∧ (lensFeedback i f s).store = s.store ∧
    (lensFeedback i f s).recorder = s.recorder ∧ (lensFeedback i f s).player = s.player ∧
    (lensFeedback i f s).cues = s.cues ∧ (lensFeedback i f s).mgmt.requests = s.mgmt.requests ∧
    (lensFeedback i f s).mgmt.erasing = s.mgmt.erasing ∧ (lensFeedback i f s).mgmt.reset = s.mgmt.reset ∧
    (lensFeedback i f s).mgmt.drops = s.mgmt.drops ∧ (lensFeedback i f s).mgmt.locked = s.mgmt.locked ∧
    (lensFeedback i f s).notices.config = s.notices.config := by
  unfold lensFeedback
  repeat' split
  all_goals simp

/-- `judgeStale` leaves these records and fields as they stand. -/
@[simp] theorem judgeStale_frame (i s) :
    (judgeStale i s).pending = s.pending ∧ (judgeStale i s).timebase = s.timebase ∧ (judgeStale i s).pins = s.pins ∧
    (judgeStale i s).spine.receivingU = s.spine.receivingU ∧ (judgeStale i s).spine.receivingD = s.spine.receivingD ∧
    (judgeStale i s).cycle = s.cycle ∧ (judgeStale i s).link = s.link ∧ (judgeStale i s).pose = s.pose ∧
    (judgeStale i s).env = s.env ∧ (judgeStale i s).gate = s.gate ∧ (judgeStale i s).stop.lines = s.stop.lines ∧
    (judgeStale i s).stop.present = s.stop.present ∧ (judgeStale i s).stop.trip = s.stop.trip ∧
    (judgeStale i s).stop.config = s.stop.config ∧ (judgeStale i s).stop.gesture = s.stop.gesture ∧
    (judgeStale i s).stop.lampMap = s.stop.lampMap ∧ (judgeStale i s).stop.entryCycle = s.stop.entryCycle ∧
    (judgeStale i s).stop.syncTimer = s.stop.syncTimer ∧
    (judgeStale i s).stop.substituteTimer = s.stop.substituteTimer ∧
    (judgeStale i s).stop.gripHeld = s.stop.gripHeld ∧ (judgeStale i s).stop.consoleStop = s.stop.consoleStop ∧
    (judgeStale i s).lens.curves = s.lens.curves ∧ (judgeStale i s).lens.subjects = s.lens.subjects ∧
    (judgeStale i s).store = s.store ∧ (judgeStale i s).recorder = s.recorder ∧ (judgeStale i s).player = s.player ∧
    (judgeStale i s).cues = s.cues ∧ (judgeStale i s).mgmt.requests = s.mgmt.requests ∧
    (judgeStale i s).mgmt.erasing = s.mgmt.erasing ∧ (judgeStale i s).mgmt.reset = s.mgmt.reset ∧
    (judgeStale i s).mgmt.drops = s.mgmt.drops ∧ (judgeStale i s).mgmt.locked = s.mgmt.locked ∧
    (judgeStale i s).notices.config = s.notices.config := by
  unfold judgeStale
  dsimp only
  repeat' split
  all_goals simp

/-- `cueTake` leaves these records and fields as they stand. -/
@[simp] theorem cueTake_frame (t s) :
    (cueTake t s).2.pending = s.pending ∧ (cueTake t s).2.timebase = s.timebase ∧ (cueTake t s).2.pins = s.pins ∧
    (cueTake t s).2.spine.receivingU = s.spine.receivingU ∧ (cueTake t s).2.spine.receivingD = s.spine.receivingD ∧
    (cueTake t s).2.cycle = s.cycle ∧ (cueTake t s).2.link = s.link ∧ (cueTake t s).2.pose = s.pose ∧
    (cueTake t s).2.env = s.env ∧ (cueTake t s).2.gate = s.gate ∧ (cueTake t s).2.stop.lines = s.stop.lines ∧
    (cueTake t s).2.stop.present = s.stop.present ∧ (cueTake t s).2.stop.trip = s.stop.trip ∧
    (cueTake t s).2.stop.config = s.stop.config ∧ (cueTake t s).2.stop.gesture = s.stop.gesture ∧
    (cueTake t s).2.stop.lampMap = s.stop.lampMap ∧ (cueTake t s).2.stop.entryCycle = s.stop.entryCycle ∧
    (cueTake t s).2.stop.syncTimer = s.stop.syncTimer ∧
    (cueTake t s).2.stop.substituteTimer = s.stop.substituteTimer ∧ (cueTake t s).2.stop.gripHeld = s.stop.gripHeld ∧
    (cueTake t s).2.stop.consoleStop = s.stop.consoleStop ∧ (cueTake t s).2.lens = s.lens ∧
    (cueTake t s).2.store = s.store ∧ (cueTake t s).2.recorder = s.recorder ∧ (cueTake t s).2.cues = s.cues ∧
    (cueTake t s).2.mgmt.requests = s.mgmt.requests ∧ (cueTake t s).2.mgmt.erasing = s.mgmt.erasing ∧
    (cueTake t s).2.mgmt.reset = s.mgmt.reset ∧ (cueTake t s).2.mgmt.drops = s.mgmt.drops ∧
    (cueTake t s).2.mgmt.locked = s.mgmt.locked ∧ (cueTake t s).2.notices.config = s.notices.config := by
  unfold cueTake
  dsimp only
  repeat' split
  all_goals simp

/-- `goPlay` leaves these records and fields as they stand. -/
@[simp] theorem goPlay_frame (s) :
    (goPlay s).2.pending = s.pending ∧ (goPlay s).2.timebase = s.timebase ∧ (goPlay s).2.pins = s.pins ∧
    (goPlay s).2.spine = s.spine ∧ (goPlay s).2.cycle = s.cycle ∧ (goPlay s).2.link = s.link ∧
    (goPlay s).2.pose = s.pose ∧ (goPlay s).2.env = s.env ∧ (goPlay s).2.gate = s.gate ∧ (goPlay s).2.stop = s.stop ∧
    (goPlay s).2.lens = s.lens ∧ (goPlay s).2.store = s.store ∧ (goPlay s).2.recorder = s.recorder ∧
    (goPlay s).2.cues = s.cues ∧ (goPlay s).2.mgmt = s.mgmt ∧ (goPlay s).2.notices = s.notices := by
  unfold goPlay
  split <;> simp

/-- `resumePlay` leaves these records and fields as they stand. -/
@[simp] theorem resumePlay_frame (s) :
    (resumePlay s).2.pending = s.pending ∧ (resumePlay s).2.timebase = s.timebase ∧ (resumePlay s).2.pins = s.pins ∧
    (resumePlay s).2.spine.receivingU = s.spine.receivingU ∧ (resumePlay s).2.spine.receivingD = s.spine.receivingD ∧
    (resumePlay s).2.cycle = s.cycle ∧ (resumePlay s).2.link = s.link ∧ (resumePlay s).2.pose = s.pose ∧
    (resumePlay s).2.env = s.env ∧ (resumePlay s).2.gate = s.gate ∧ (resumePlay s).2.stop.lines = s.stop.lines ∧
    (resumePlay s).2.stop.present = s.stop.present ∧ (resumePlay s).2.stop.trip = s.stop.trip ∧
    (resumePlay s).2.stop.config = s.stop.config ∧ (resumePlay s).2.stop.gesture = s.stop.gesture ∧
    (resumePlay s).2.stop.lampMap = s.stop.lampMap ∧ (resumePlay s).2.stop.entryCycle = s.stop.entryCycle ∧
    (resumePlay s).2.stop.syncTimer = s.stop.syncTimer ∧
    (resumePlay s).2.stop.substituteTimer = s.stop.substituteTimer ∧
    (resumePlay s).2.stop.gripHeld = s.stop.gripHeld ∧ (resumePlay s).2.stop.consoleStop = s.stop.consoleStop ∧
    (resumePlay s).2.lens = s.lens ∧ (resumePlay s).2.store = s.store ∧ (resumePlay s).2.recorder = s.recorder ∧
    (resumePlay s).2.cues = s.cues ∧ (resumePlay s).2.mgmt.requests = s.mgmt.requests ∧
    (resumePlay s).2.mgmt.erasing = s.mgmt.erasing ∧ (resumePlay s).2.mgmt.reset = s.mgmt.reset ∧
    (resumePlay s).2.mgmt.drops = s.mgmt.drops ∧ (resumePlay s).2.mgmt.locked = s.mgmt.locked ∧
    (resumePlay s).2.notices.config = s.notices.config := by
  unfold resumePlay
  split <;> simp

/-- `releasePlay` leaves these records and fields as they stand. -/
@[simp] theorem releasePlay_frame (s) :
    (releasePlay s).2.pending = s.pending ∧ (releasePlay s).2.timebase = s.timebase ∧
    (releasePlay s).2.pins = s.pins ∧ (releasePlay s).2.spine.receivingU = s.spine.receivingU ∧
    (releasePlay s).2.spine.receivingD = s.spine.receivingD ∧ (releasePlay s).2.cycle = s.cycle ∧
    (releasePlay s).2.link = s.link ∧ (releasePlay s).2.pose = s.pose ∧ (releasePlay s).2.env = s.env ∧
    (releasePlay s).2.gate = s.gate ∧ (releasePlay s).2.stop.lines = s.stop.lines ∧
    (releasePlay s).2.stop.present = s.stop.present ∧ (releasePlay s).2.stop.trip = s.stop.trip ∧
    (releasePlay s).2.stop.config = s.stop.config ∧ (releasePlay s).2.stop.gesture = s.stop.gesture ∧
    (releasePlay s).2.stop.lampMap = s.stop.lampMap ∧ (releasePlay s).2.stop.entryCycle = s.stop.entryCycle ∧
    (releasePlay s).2.stop.syncTimer = s.stop.syncTimer ∧
    (releasePlay s).2.stop.substituteTimer = s.stop.substituteTimer ∧
    (releasePlay s).2.stop.gripHeld = s.stop.gripHeld ∧ (releasePlay s).2.stop.consoleStop = s.stop.consoleStop ∧
    (releasePlay s).2.lens = s.lens ∧ (releasePlay s).2.store = s.store ∧ (releasePlay s).2.recorder = s.recorder ∧
    (releasePlay s).2.cues = s.cues ∧ (releasePlay s).2.mgmt.requests = s.mgmt.requests ∧
    (releasePlay s).2.mgmt.erasing = s.mgmt.erasing ∧ (releasePlay s).2.mgmt.reset = s.mgmt.reset ∧
    (releasePlay s).2.mgmt.drops = s.mgmt.drops ∧ (releasePlay s).2.mgmt.locked = s.mgmt.locked ∧
    (releasePlay s).2.notices.config = s.notices.config := by
  unfold releasePlay
  split <;> simp

/-- `followOn` leaves these records and fields as they stand. -/
@[simp] theorem followOn_frame (k s) :
    (Sys2Proof.Machine.followOn k s).2.pending = s.pending ∧
    (Sys2Proof.Machine.followOn k s).2.timebase = s.timebase ∧ (Sys2Proof.Machine.followOn k s).2.pins = s.pins ∧
    (Sys2Proof.Machine.followOn k s).2.spine = s.spine ∧ (Sys2Proof.Machine.followOn k s).2.cycle = s.cycle ∧
    (Sys2Proof.Machine.followOn k s).2.link = s.link ∧ (Sys2Proof.Machine.followOn k s).2.pose = s.pose ∧
    (Sys2Proof.Machine.followOn k s).2.env = s.env ∧ (Sys2Proof.Machine.followOn k s).2.gate = s.gate ∧
    (Sys2Proof.Machine.followOn k s).2.stop = s.stop ∧
    (Sys2Proof.Machine.followOn k s).2.lens.curves = s.lens.curves ∧
    (Sys2Proof.Machine.followOn k s).2.lens.subjects = s.lens.subjects ∧
    (Sys2Proof.Machine.followOn k s).2.store = s.store ∧ (Sys2Proof.Machine.followOn k s).2.recorder = s.recorder ∧
    (Sys2Proof.Machine.followOn k s).2.player = s.player ∧ (Sys2Proof.Machine.followOn k s).2.cues = s.cues ∧
    (Sys2Proof.Machine.followOn k s).2.mgmt = s.mgmt ∧ (Sys2Proof.Machine.followOn k s).2.notices = s.notices := by
  unfold Sys2Proof.Machine.followOn
  split <;> simp

/-- `armRecord` leaves these records and fields as they stand. -/
@[simp] theorem armRecord_frame (t m s) :
    (Sys2Proof.Machine.armRecord t m s).2.pending = s.pending ∧
    (Sys2Proof.Machine.armRecord t m s).2.timebase = s.timebase ∧
    (Sys2Proof.Machine.armRecord t m s).2.pins = s.pins ∧ (Sys2Proof.Machine.armRecord t m s).2.spine = s.spine ∧
    (Sys2Proof.Machine.armRecord t m s).2.cycle = s.cycle ∧ (Sys2Proof.Machine.armRecord t m s).2.link = s.link ∧
    (Sys2Proof.Machine.armRecord t m s).2.pose = s.pose ∧ (Sys2Proof.Machine.armRecord t m s).2.env = s.env ∧
    (Sys2Proof.Machine.armRecord t m s).2.gate = s.gate ∧
    (Sys2Proof.Machine.armRecord t m s).2.stop.lines = s.stop.lines ∧
    (Sys2Proof.Machine.armRecord t m s).2.stop.present = s.stop.present ∧
    (Sys2Proof.Machine.armRecord t m s).2.stop.trip = s.stop.trip ∧
    (Sys2Proof.Machine.armRecord t m s).2.stop.config = s.stop.config ∧
    (Sys2Proof.Machine.armRecord t m s).2.stop.gesture = s.stop.gesture ∧
    (Sys2Proof.Machine.armRecord t m s).2.stop.lampMap = s.stop.lampMap ∧
    (Sys2Proof.Machine.armRecord t m s).2.stop.entryCycle = s.stop.entryCycle ∧
    (Sys2Proof.Machine.armRecord t m s).2.stop.syncTimer = s.stop.syncTimer ∧
    (Sys2Proof.Machine.armRecord t m s).2.stop.substituteTimer = s.stop.substituteTimer ∧
    (Sys2Proof.Machine.armRecord t m s).2.stop.gripHeld = s.stop.gripHeld ∧
    (Sys2Proof.Machine.armRecord t m s).2.stop.consoleStop = s.stop.consoleStop ∧
    (Sys2Proof.Machine.armRecord t m s).2.lens = s.lens ∧ (Sys2Proof.Machine.armRecord t m s).2.store = s.store ∧
    (Sys2Proof.Machine.armRecord t m s).2.player = s.player ∧ (Sys2Proof.Machine.armRecord t m s).2.cues = s.cues ∧
    (Sys2Proof.Machine.armRecord t m s).2.mgmt = s.mgmt ∧ (Sys2Proof.Machine.armRecord t m s).2.notices = s.notices := by
  unfold Sys2Proof.Machine.armRecord
  repeat' split
  all_goals simp

/-- `stopRecord` leaves these records and fields as they stand. -/
@[simp] theorem stopRecord_frame (s) :
    (Sys2Proof.Machine.stopRecord s).2.pending = s.pending ∧
    (Sys2Proof.Machine.stopRecord s).2.timebase = s.timebase ∧ (Sys2Proof.Machine.stopRecord s).2.pins = s.pins ∧
    (Sys2Proof.Machine.stopRecord s).2.spine.receivingU = s.spine.receivingU ∧
    (Sys2Proof.Machine.stopRecord s).2.spine.receivingD = s.spine.receivingD ∧
    (Sys2Proof.Machine.stopRecord s).2.cycle = s.cycle ∧ (Sys2Proof.Machine.stopRecord s).2.link = s.link ∧
    (Sys2Proof.Machine.stopRecord s).2.pose = s.pose ∧ (Sys2Proof.Machine.stopRecord s).2.env = s.env ∧
    (Sys2Proof.Machine.stopRecord s).2.gate = s.gate ∧ (Sys2Proof.Machine.stopRecord s).2.stop.lines = s.stop.lines ∧
    (Sys2Proof.Machine.stopRecord s).2.stop.present = s.stop.present ∧
    (Sys2Proof.Machine.stopRecord s).2.stop.trip = s.stop.trip ∧
    (Sys2Proof.Machine.stopRecord s).2.stop.config = s.stop.config ∧
    (Sys2Proof.Machine.stopRecord s).2.stop.gesture = s.stop.gesture ∧
    (Sys2Proof.Machine.stopRecord s).2.stop.lampMap = s.stop.lampMap ∧
    (Sys2Proof.Machine.stopRecord s).2.stop.entryCycle = s.stop.entryCycle ∧
    (Sys2Proof.Machine.stopRecord s).2.stop.syncTimer = s.stop.syncTimer ∧
    (Sys2Proof.Machine.stopRecord s).2.stop.substituteTimer = s.stop.substituteTimer ∧
    (Sys2Proof.Machine.stopRecord s).2.stop.gripHeld = s.stop.gripHeld ∧
    (Sys2Proof.Machine.stopRecord s).2.stop.consoleStop = s.stop.consoleStop ∧
    (Sys2Proof.Machine.stopRecord s).2.lens = s.lens ∧ (Sys2Proof.Machine.stopRecord s).2.player = s.player ∧
    (Sys2Proof.Machine.stopRecord s).2.cues = s.cues ∧
    (Sys2Proof.Machine.stopRecord s).2.mgmt.requests = s.mgmt.requests ∧
    (Sys2Proof.Machine.stopRecord s).2.mgmt.erasing = s.mgmt.erasing ∧
    (Sys2Proof.Machine.stopRecord s).2.mgmt.reset = s.mgmt.reset ∧
    (Sys2Proof.Machine.stopRecord s).2.mgmt.drops = s.mgmt.drops ∧
    (Sys2Proof.Machine.stopRecord s).2.mgmt.locked = s.mgmt.locked ∧
    (Sys2Proof.Machine.stopRecord s).2.notices.config = s.notices.config := by
  unfold Sys2Proof.Machine.stopRecord
  split <;> simp

/-- The fold of `submitSample` leaves these records and fields as they stand. -/
@[simp] theorem submitSample_fold (src) (t) (i) (c) (s) (l : List Axis) :
    (List.foldl (fun s' k => submit src k (s'.store.sampleValue t k i) c s') s l).pending = s.pending ∧
    (List.foldl (fun s' k => submit src k (s'.store.sampleValue t k i) c s') s l).timebase = s.timebase ∧
    (List.foldl (fun s' k => submit src k (s'.store.sampleValue t k i) c s') s l).pins = s.pins ∧
    (List.foldl (fun s' k => submit src k (s'.store.sampleValue t k i) c s') s l).spine.receivingU = s.spine.receivingU ∧
    (List.foldl (fun s' k => submit src k (s'.store.sampleValue t k i) c s') s l).spine.receivingD = s.spine.receivingD ∧
    (List.foldl (fun s' k => submit src k (s'.store.sampleValue t k i) c s') s l).link.thresholds = s.link.thresholds ∧
    (List.foldl (fun s' k => submit src k (s'.store.sampleValue t k i) c s') s l).link.test = s.link.test ∧
    (List.foldl (fun s' k => submit src k (s'.store.sampleValue t k i) c s') s l).link.testErrors = s.link.testErrors ∧
    (List.foldl (fun s' k => submit src k (s'.store.sampleValue t k i) c s') s l).link.u.state = s.link.u.state ∧
    (List.foldl (fun s' k => submit src k (s'.store.sampleValue t k i) c s') s l).link.d.state = s.link.d.state ∧
    (List.foldl (fun s' k => submit src k (s'.store.sampleValue t k i) c s') s l).pose = s.pose ∧
    (List.foldl (fun s' k => submit src k (s'.store.sampleValue t k i) c s') s l).env = s.env ∧
    (List.foldl (fun s' k => submit src k (s'.store.sampleValue t k i) c s') s l).stop.lines = s.stop.lines ∧
    (List.foldl (fun s' k => submit src k (s'.store.sampleValue t k i) c s') s l).stop.present = s.stop.present ∧
    (List.foldl (fun s' k => submit src k (s'.store.sampleValue t k i) c s') s l).stop.trip = s.stop.trip ∧
    (List.foldl (fun s' k => submit src k (s'.store.sampleValue t k i) c s') s l).stop.config = s.stop.config ∧
    (List.foldl (fun s' k => submit src k (s'.store.sampleValue t k i) c s') s l).stop.gesture = s.stop.gesture ∧
    (List.foldl (fun s' k => submit src k (s'.store.sampleValue t k i) c s') s l).stop.lampMap = s.stop.lampMap ∧
    (List.foldl (fun s' k => submit src k (s'.store.sampleValue t k i) c s') s l).stop.entryCycle = s.stop.entryCycle ∧
    (List.foldl (fun s' k => submit src k (s'.store.sampleValue t k i) c s') s l).stop.syncTimer = s.stop.syncTimer ∧
    (List.foldl (fun s' k => submit src k (s'.store.sampleValue t k i) c s') s l).stop.substituteTimer = s.stop.substituteTimer ∧
    (List.foldl (fun s' k => submit src k (s'.store.sampleValue t k i) c s') s l).stop.gripHeld = s.stop.gripHeld ∧
    (List.foldl (fun s' k => submit src k (s'.store.sampleValue t k i) c s') s l).stop.consoleStop = s.stop.consoleStop ∧
    (List.foldl (fun s' k => submit src k (s'.store.sampleValue t k i) c s') s l).lens = s.lens ∧
    (List.foldl (fun s' k => submit src k (s'.store.sampleValue t k i) c s') s l).cues = s.cues ∧
    (List.foldl (fun s' k => submit src k (s'.store.sampleValue t k i) c s') s l).mgmt.requests = s.mgmt.requests ∧
    (List.foldl (fun s' k => submit src k (s'.store.sampleValue t k i) c s') s l).mgmt.erasing = s.mgmt.erasing ∧
    (List.foldl (fun s' k => submit src k (s'.store.sampleValue t k i) c s') s l).mgmt.reset = s.mgmt.reset ∧
    (List.foldl (fun s' k => submit src k (s'.store.sampleValue t k i) c s') s l).mgmt.drops = s.mgmt.drops ∧
    (List.foldl (fun s' k => submit src k (s'.store.sampleValue t k i) c s') s l).mgmt.locked = s.mgmt.locked ∧
    (List.foldl (fun s' k => submit src k (s'.store.sampleValue t k i) c s') s l).notices.config = s.notices.config := by
  induction l generalizing s with
  | nil => simp
  | cons head tail ih =>
    rw [List.foldl_cons]
    simp [ih]

/-- `submitSample` leaves these records and fields as they stand. -/
@[simp] theorem submitSample_frame (src i c s) :
    (submitSample src i c s).pending = s.pending ∧ (submitSample src i c s).timebase = s.timebase ∧
    (submitSample src i c s).pins = s.pins ∧ (submitSample src i c s).spine.receivingU = s.spine.receivingU ∧
    (submitSample src i c s).spine.receivingD = s.spine.receivingD ∧
    (submitSample src i c s).link.thresholds = s.link.thresholds ∧ (submitSample src i c s).link.test = s.link.test ∧
    (submitSample src i c s).link.testErrors = s.link.testErrors ∧
    (submitSample src i c s).link.u.state = s.link.u.state ∧ (submitSample src i c s).link.d.state = s.link.d.state ∧
    (submitSample src i c s).pose = s.pose ∧ (submitSample src i c s).env = s.env ∧
    (submitSample src i c s).stop.lines = s.stop.lines ∧ (submitSample src i c s).stop.present = s.stop.present ∧
    (submitSample src i c s).stop.trip = s.stop.trip ∧ (submitSample src i c s).stop.config = s.stop.config ∧
    (submitSample src i c s).stop.gesture = s.stop.gesture ∧ (submitSample src i c s).stop.lampMap = s.stop.lampMap ∧
    (submitSample src i c s).stop.entryCycle = s.stop.entryCycle ∧
    (submitSample src i c s).stop.syncTimer = s.stop.syncTimer ∧
    (submitSample src i c s).stop.substituteTimer = s.stop.substituteTimer ∧
    (submitSample src i c s).stop.gripHeld = s.stop.gripHeld ∧
    (submitSample src i c s).stop.consoleStop = s.stop.consoleStop ∧ (submitSample src i c s).lens = s.lens ∧
    (submitSample src i c s).cues = s.cues ∧ (submitSample src i c s).mgmt.requests = s.mgmt.requests ∧
    (submitSample src i c s).mgmt.erasing = s.mgmt.erasing ∧ (submitSample src i c s).mgmt.reset = s.mgmt.reset ∧
    (submitSample src i c s).mgmt.drops = s.mgmt.drops ∧ (submitSample src i c s).mgmt.locked = s.mgmt.locked ∧
    (submitSample src i c s).notices.config = s.notices.config := by
  unfold submitSample
  split <;> simp

/-- `playSample` leaves these records and fields as they stand. -/
@[simp] theorem playSample_frame (i c s) :
    (playSample i c s).pending = s.pending ∧ (playSample i c s).timebase = s.timebase ∧
    (playSample i c s).pins = s.pins ∧ (playSample i c s).spine.receivingU = s.spine.receivingU ∧
    (playSample i c s).spine.receivingD = s.spine.receivingD ∧
    (playSample i c s).link.thresholds = s.link.thresholds ∧ (playSample i c s).link.test = s.link.test ∧
    (playSample i c s).link.testErrors = s.link.testErrors ∧ (playSample i c s).link.u.state = s.link.u.state ∧
    (playSample i c s).link.d.state = s.link.d.state ∧ (playSample i c s).pose = s.pose ∧
    (playSample i c s).env = s.env ∧ (playSample i c s).stop.lines = s.stop.lines ∧
    (playSample i c s).stop.present = s.stop.present ∧ (playSample i c s).stop.trip = s.stop.trip ∧
    (playSample i c s).stop.config = s.stop.config ∧ (playSample i c s).stop.gesture = s.stop.gesture ∧
    (playSample i c s).stop.lampMap = s.stop.lampMap ∧ (playSample i c s).stop.entryCycle = s.stop.entryCycle ∧
    (playSample i c s).stop.syncTimer = s.stop.syncTimer ∧
    (playSample i c s).stop.substituteTimer = s.stop.substituteTimer ∧
    (playSample i c s).stop.gripHeld = s.stop.gripHeld ∧ (playSample i c s).stop.consoleStop = s.stop.consoleStop ∧
    (playSample i c s).lens = s.lens ∧ (playSample i c s).cues = s.cues ∧
    (playSample i c s).mgmt.requests = s.mgmt.requests ∧ (playSample i c s).mgmt.erasing = s.mgmt.erasing ∧
    (playSample i c s).mgmt.reset = s.mgmt.reset ∧ (playSample i c s).mgmt.drops = s.mgmt.drops ∧
    (playSample i c s).mgmt.locked = s.mgmt.locked ∧ (playSample i c s).notices.config = s.notices.config := by
  unfold playSample
  dsimp only
  repeat' split
  all_goals simp

/-- `playerArrival` leaves these records and fields as they stand. -/
@[simp] theorem playerArrival_frame (c g s) :
    (playerArrival c g s).pending = s.pending ∧ (playerArrival c g s).timebase = s.timebase ∧
    (playerArrival c g s).pins = s.pins ∧ (playerArrival c g s).spine.receivingU = s.spine.receivingU ∧
    (playerArrival c g s).spine.receivingD = s.spine.receivingD ∧
    (playerArrival c g s).link.thresholds = s.link.thresholds ∧ (playerArrival c g s).link.test = s.link.test ∧
    (playerArrival c g s).link.testErrors = s.link.testErrors ∧ (playerArrival c g s).link.u.state = s.link.u.state ∧
    (playerArrival c g s).link.d.state = s.link.d.state ∧ (playerArrival c g s).pose = s.pose ∧
    (playerArrival c g s).env = s.env ∧ (playerArrival c g s).stop.lines = s.stop.lines ∧
    (playerArrival c g s).stop.present = s.stop.present ∧ (playerArrival c g s).stop.trip = s.stop.trip ∧
    (playerArrival c g s).stop.config = s.stop.config ∧ (playerArrival c g s).stop.gesture = s.stop.gesture ∧
    (playerArrival c g s).stop.lampMap = s.stop.lampMap ∧ (playerArrival c g s).stop.entryCycle = s.stop.entryCycle ∧
    (playerArrival c g s).stop.syncTimer = s.stop.syncTimer ∧
    (playerArrival c g s).stop.substituteTimer = s.stop.substituteTimer ∧
    (playerArrival c g s).stop.gripHeld = s.stop.gripHeld ∧
    (playerArrival c g s).stop.consoleStop = s.stop.consoleStop ∧ (playerArrival c g s).lens = s.lens ∧
    (playerArrival c g s).cues = s.cues ∧ (playerArrival c g s).mgmt.requests = s.mgmt.requests ∧
    (playerArrival c g s).mgmt.erasing = s.mgmt.erasing ∧ (playerArrival c g s).mgmt.reset = s.mgmt.reset ∧
    (playerArrival c g s).mgmt.drops = s.mgmt.drops ∧ (playerArrival c g s).mgmt.locked = s.mgmt.locked ∧
    (playerArrival c g s).notices.config = s.notices.config := by
  unfold playerArrival
  repeat' split
  all_goals simp

/-- `judgeInPosition` leaves these records and fields as they stand. -/
@[simp] theorem judgeInPosition_frame (k f s) :
    (judgeInPosition k f s).pending = s.pending ∧ (judgeInPosition k f s).timebase = s.timebase ∧
    (judgeInPosition k f s).pins = s.pins ∧ (judgeInPosition k f s).spine.receivingU = s.spine.receivingU ∧
    (judgeInPosition k f s).spine.receivingD = s.spine.receivingD ∧ (judgeInPosition k f s).cycle = s.cycle ∧
    (judgeInPosition k f s).link = s.link ∧ (judgeInPosition k f s).pose = s.pose ∧
    (judgeInPosition k f s).env = s.env ∧ (judgeInPosition k f s).gate = s.gate ∧
    (judgeInPosition k f s).stop.lines = s.stop.lines ∧ (judgeInPosition k f s).stop.present = s.stop.present ∧
    (judgeInPosition k f s).stop.trip = s.stop.trip ∧ (judgeInPosition k f s).stop.config = s.stop.config ∧
    (judgeInPosition k f s).stop.gesture = s.stop.gesture ∧ (judgeInPosition k f s).stop.lampMap = s.stop.lampMap ∧
    (judgeInPosition k f s).stop.entryCycle = s.stop.entryCycle ∧
    (judgeInPosition k f s).stop.syncTimer = s.stop.syncTimer ∧
    (judgeInPosition k f s).stop.substituteTimer = s.stop.substituteTimer ∧
    (judgeInPosition k f s).stop.gripHeld = s.stop.gripHeld ∧
    (judgeInPosition k f s).stop.consoleStop = s.stop.consoleStop ∧ (judgeInPosition k f s).lens = s.lens ∧
    (judgeInPosition k f s).store = s.store ∧ (judgeInPosition k f s).recorder = s.recorder ∧
    (judgeInPosition k f s).cues = s.cues ∧ (judgeInPosition k f s).mgmt.requests = s.mgmt.requests ∧
    (judgeInPosition k f s).mgmt.erasing = s.mgmt.erasing ∧ (judgeInPosition k f s).mgmt.reset = s.mgmt.reset ∧
    (judgeInPosition k f s).mgmt.drops = s.mgmt.drops ∧ (judgeInPosition k f s).mgmt.locked = s.mgmt.locked ∧
    (judgeInPosition k f s).notices.config = s.notices.config := by
  unfold judgeInPosition
  repeat' split
  all_goals simp

/-- `followCheck` leaves these records and fields as they stand. -/
@[simp] theorem followCheck_frame (k f s) :
    (followCheck k f s).pending = s.pending ∧ (followCheck k f s).timebase = s.timebase ∧
    (followCheck k f s).pins = s.pins ∧ (followCheck k f s).spine.receivingU = s.spine.receivingU ∧
    (followCheck k f s).spine.receivingD = s.spine.receivingD ∧ (followCheck k f s).cycle = s.cycle ∧
    (followCheck k f s).link = s.link ∧ (followCheck k f s).pose = s.pose ∧ (followCheck k f s).env = s.env ∧
    (followCheck k f s).gate = s.gate ∧ (followCheck k f s).stop.lines = s.stop.lines ∧
    (followCheck k f s).stop.present = s.stop.present ∧ (followCheck k f s).stop.config = s.stop.config ∧
    (followCheck k f s).stop.gesture = s.stop.gesture ∧ (followCheck k f s).stop.lampMap = s.stop.lampMap ∧
    (followCheck k f s).stop.syncTimer = s.stop.syncTimer ∧
    (followCheck k f s).stop.substituteTimer = s.stop.substituteTimer ∧
    (followCheck k f s).stop.gripHeld = s.stop.gripHeld ∧ (followCheck k f s).stop.consoleStop = s.stop.consoleStop ∧
    (followCheck k f s).lens = s.lens ∧ (followCheck k f s).cues = s.cues ∧
    (followCheck k f s).mgmt.requests = s.mgmt.requests ∧ (followCheck k f s).mgmt.erasing = s.mgmt.erasing ∧
    (followCheck k f s).mgmt.reset = s.mgmt.reset ∧ (followCheck k f s).mgmt.drops = s.mgmt.drops ∧
    (followCheck k f s).mgmt.locked = s.mgmt.locked ∧ (followCheck k f s).notices.config = s.notices.config := by
  unfold followCheck
  dsimp only
  repeat' split
  all_goals simp

/-- `playerFeedback` leaves these records and fields as they stand. -/
@[simp] theorem playerFeedback_frame (k f s) :
    (playerFeedback k f s).pending = s.pending ∧ (playerFeedback k f s).timebase = s.timebase ∧
    (playerFeedback k f s).pins = s.pins ∧ (playerFeedback k f s).spine.receivingU = s.spine.receivingU ∧
    (playerFeedback k f s).spine.receivingD = s.spine.receivingD ∧ (playerFeedback k f s).cycle = s.cycle ∧
    (playerFeedback k f s).link = s.link ∧ (playerFeedback k f s).pose = s.pose ∧ (playerFeedback k f s).env = s.env ∧
    (playerFeedback k f s).gate = s.gate ∧ (playerFeedback k f s).stop.lines = s.stop.lines ∧
    (playerFeedback k f s).stop.present = s.stop.present ∧ (playerFeedback k f s).stop.config = s.stop.config ∧
    (playerFeedback k f s).stop.gesture = s.stop.gesture ∧ (playerFeedback k f s).stop.lampMap = s.stop.lampMap ∧
    (playerFeedback k f s).stop.syncTimer = s.stop.syncTimer ∧
    (playerFeedback k f s).stop.substituteTimer = s.stop.substituteTimer ∧
    (playerFeedback k f s).stop.gripHeld = s.stop.gripHeld ∧
    (playerFeedback k f s).stop.consoleStop = s.stop.consoleStop ∧ (playerFeedback k f s).lens = s.lens ∧
    (playerFeedback k f s).cues = s.cues ∧ (playerFeedback k f s).mgmt.requests = s.mgmt.requests ∧
    (playerFeedback k f s).mgmt.erasing = s.mgmt.erasing ∧ (playerFeedback k f s).mgmt.reset = s.mgmt.reset ∧
    (playerFeedback k f s).mgmt.drops = s.mgmt.drops ∧ (playerFeedback k f s).mgmt.locked = s.mgmt.locked ∧
    (playerFeedback k f s).notices.config = s.notices.config := by
  unfold playerFeedback
  repeat' split
  all_goals simp

/-- `judgeFeedback` leaves these records and fields as they stand. -/
@[simp] theorem judgeFeedback_frame (k s) :
    (judgeFeedback k s).pending = s.pending ∧ (judgeFeedback k s).timebase = s.timebase ∧
    (judgeFeedback k s).pins = s.pins ∧ (judgeFeedback k s).spine.receivingU = s.spine.receivingU ∧
    (judgeFeedback k s).spine.receivingD = s.spine.receivingD ∧ (judgeFeedback k s).cycle = s.cycle ∧
    (judgeFeedback k s).link = s.link ∧ (judgeFeedback k s).pose = s.pose ∧ (judgeFeedback k s).env = s.env ∧
    (judgeFeedback k s).stop.lines = s.stop.lines ∧ (judgeFeedback k s).stop.config = s.stop.config ∧
    (judgeFeedback k s).stop.gesture = s.stop.gesture ∧ (judgeFeedback k s).stop.lampMap = s.stop.lampMap ∧
    (judgeFeedback k s).stop.syncTimer = s.stop.syncTimer ∧
    (judgeFeedback k s).stop.substituteTimer = s.stop.substituteTimer ∧
    (judgeFeedback k s).stop.gripHeld = s.stop.gripHeld ∧ (judgeFeedback k s).stop.consoleStop = s.stop.consoleStop ∧
    (judgeFeedback k s).lens.curves = s.lens.curves ∧ (judgeFeedback k s).lens.subjects = s.lens.subjects ∧
    (judgeFeedback k s).cues = s.cues ∧ (judgeFeedback k s).mgmt.requests = s.mgmt.requests ∧
    (judgeFeedback k s).mgmt.erasing = s.mgmt.erasing ∧ (judgeFeedback k s).mgmt.reset = s.mgmt.reset ∧
    (judgeFeedback k s).mgmt.drops = s.mgmt.drops ∧ (judgeFeedback k s).mgmt.locked = s.mgmt.locked ∧
    (judgeFeedback k s).notices.config = s.notices.config := by
  unfold judgeFeedback
  split <;> simp

/-- The fold of `judgeAllFeedback` leaves these records and fields as they stand. -/
@[simp] theorem judgeAllFeedback_fold (s) (l : List (Fin 10)) :
    (List.foldl (fun s k => judgeFeedback k s) s l).pending = s.pending ∧
    (List.foldl (fun s k => judgeFeedback k s) s l).timebase = s.timebase ∧
    (List.foldl (fun s k => judgeFeedback k s) s l).pins = s.pins ∧
    (List.foldl (fun s k => judgeFeedback k s) s l).spine.receivingU = s.spine.receivingU ∧
    (List.foldl (fun s k => judgeFeedback k s) s l).spine.receivingD = s.spine.receivingD ∧
    (List.foldl (fun s k => judgeFeedback k s) s l).cycle = s.cycle ∧
    (List.foldl (fun s k => judgeFeedback k s) s l).link = s.link ∧
    (List.foldl (fun s k => judgeFeedback k s) s l).pose = s.pose ∧
    (List.foldl (fun s k => judgeFeedback k s) s l).env = s.env ∧
    (List.foldl (fun s k => judgeFeedback k s) s l).stop.lines = s.stop.lines ∧
    (List.foldl (fun s k => judgeFeedback k s) s l).stop.config = s.stop.config ∧
    (List.foldl (fun s k => judgeFeedback k s) s l).stop.gesture = s.stop.gesture ∧
    (List.foldl (fun s k => judgeFeedback k s) s l).stop.lampMap = s.stop.lampMap ∧
    (List.foldl (fun s k => judgeFeedback k s) s l).stop.syncTimer = s.stop.syncTimer ∧
    (List.foldl (fun s k => judgeFeedback k s) s l).stop.substituteTimer = s.stop.substituteTimer ∧
    (List.foldl (fun s k => judgeFeedback k s) s l).stop.gripHeld = s.stop.gripHeld ∧
    (List.foldl (fun s k => judgeFeedback k s) s l).stop.consoleStop = s.stop.consoleStop ∧
    (List.foldl (fun s k => judgeFeedback k s) s l).lens.curves = s.lens.curves ∧
    (List.foldl (fun s k => judgeFeedback k s) s l).lens.subjects = s.lens.subjects ∧
    (List.foldl (fun s k => judgeFeedback k s) s l).cues = s.cues ∧
    (List.foldl (fun s k => judgeFeedback k s) s l).mgmt.requests = s.mgmt.requests ∧
    (List.foldl (fun s k => judgeFeedback k s) s l).mgmt.erasing = s.mgmt.erasing ∧
    (List.foldl (fun s k => judgeFeedback k s) s l).mgmt.reset = s.mgmt.reset ∧
    (List.foldl (fun s k => judgeFeedback k s) s l).mgmt.drops = s.mgmt.drops ∧
    (List.foldl (fun s k => judgeFeedback k s) s l).mgmt.locked = s.mgmt.locked ∧
    (List.foldl (fun s k => judgeFeedback k s) s l).notices.config = s.notices.config := by
  induction l generalizing s with
  | nil => simp
  | cons head tail ih =>
    rw [List.foldl_cons]
    simp [ih]

/-- `judgeAllFeedback` leaves these records and fields as they stand. -/
@[simp] theorem judgeAllFeedback_frame (s) :
    (judgeAllFeedback s).pending = s.pending ∧ (judgeAllFeedback s).timebase = s.timebase ∧
    (judgeAllFeedback s).pins = s.pins ∧ (judgeAllFeedback s).spine.receivingU = s.spine.receivingU ∧
    (judgeAllFeedback s).spine.receivingD = s.spine.receivingD ∧ (judgeAllFeedback s).cycle = s.cycle ∧
    (judgeAllFeedback s).link = s.link ∧ (judgeAllFeedback s).pose = s.pose ∧ (judgeAllFeedback s).env = s.env ∧
    (judgeAllFeedback s).stop.lines = s.stop.lines ∧ (judgeAllFeedback s).stop.config = s.stop.config ∧
    (judgeAllFeedback s).stop.gesture = s.stop.gesture ∧ (judgeAllFeedback s).stop.lampMap = s.stop.lampMap ∧
    (judgeAllFeedback s).stop.syncTimer = s.stop.syncTimer ∧
    (judgeAllFeedback s).stop.substituteTimer = s.stop.substituteTimer ∧
    (judgeAllFeedback s).stop.gripHeld = s.stop.gripHeld ∧
    (judgeAllFeedback s).stop.consoleStop = s.stop.consoleStop ∧ (judgeAllFeedback s).lens.curves = s.lens.curves ∧
    (judgeAllFeedback s).lens.subjects = s.lens.subjects ∧ (judgeAllFeedback s).cues = s.cues ∧
    (judgeAllFeedback s).mgmt.requests = s.mgmt.requests ∧ (judgeAllFeedback s).mgmt.erasing = s.mgmt.erasing ∧
    (judgeAllFeedback s).mgmt.reset = s.mgmt.reset ∧ (judgeAllFeedback s).mgmt.drops = s.mgmt.drops ∧
    (judgeAllFeedback s).mgmt.locked = s.mgmt.locked ∧ (judgeAllFeedback s).notices.config = s.notices.config := by
  unfold judgeAllFeedback
  simp

/-- `judgeConfigured` leaves these records and fields as they stand. -/
@[simp] theorem judgeConfigured_frame (s) :
    (judgeConfigured s).pending = s.pending ∧ (judgeConfigured s).timebase = s.timebase ∧
    (judgeConfigured s).pins = s.pins ∧ (judgeConfigured s).spine.receivingU = s.spine.receivingU ∧
    (judgeConfigured s).spine.receivingD = s.spine.receivingD ∧ (judgeConfigured s).cycle = s.cycle ∧
    (judgeConfigured s).link = s.link ∧ (judgeConfigured s).pose = s.pose ∧ (judgeConfigured s).env = s.env ∧
    (judgeConfigured s).stop.lines = s.stop.lines ∧ (judgeConfigured s).stop.config = s.stop.config ∧
    (judgeConfigured s).stop.gesture = s.stop.gesture ∧ (judgeConfigured s).stop.lampMap = s.stop.lampMap ∧
    (judgeConfigured s).stop.syncTimer = s.stop.syncTimer ∧
    (judgeConfigured s).stop.substituteTimer = s.stop.substituteTimer ∧
    (judgeConfigured s).stop.gripHeld = s.stop.gripHeld ∧ (judgeConfigured s).stop.consoleStop = s.stop.consoleStop ∧
    (judgeConfigured s).lens = s.lens ∧ (judgeConfigured s).cues = s.cues ∧
    (judgeConfigured s).mgmt.requests = s.mgmt.requests ∧ (judgeConfigured s).mgmt.erasing = s.mgmt.erasing ∧
    (judgeConfigured s).mgmt.reset = s.mgmt.reset ∧ (judgeConfigured s).mgmt.drops = s.mgmt.drops ∧
    (judgeConfigured s).mgmt.locked = s.mgmt.locked ∧ (judgeConfigured s).notices.config = s.notices.config := by
  unfold judgeConfigured
  simp

/-- `poseArrival` leaves these records and fields as they stand. -/
@[simp] theorem poseArrival_frame (s) :
    (poseArrival s).pending = s.pending ∧ (poseArrival s).timebase = s.timebase ∧ (poseArrival s).pins = s.pins ∧
    (poseArrival s).spine.receivingU = s.spine.receivingU ∧ (poseArrival s).spine.receivingD = s.spine.receivingD ∧
    (poseArrival s).cycle = s.cycle ∧ (poseArrival s).link = s.link ∧ (poseArrival s).pose.axes = s.pose.axes ∧
    (poseArrival s).pose.geometry = s.pose.geometry ∧ (poseArrival s).env = s.env ∧
    (poseArrival s).stop.lines = s.stop.lines ∧ (poseArrival s).stop.config = s.stop.config ∧
    (poseArrival s).stop.gesture = s.stop.gesture ∧ (poseArrival s).stop.lampMap = s.stop.lampMap ∧
    (poseArrival s).stop.syncTimer = s.stop.syncTimer ∧
    (poseArrival s).stop.substituteTimer = s.stop.substituteTimer ∧ (poseArrival s).stop.gripHeld = s.stop.gripHeld ∧
    (poseArrival s).stop.consoleStop = s.stop.consoleStop ∧ (poseArrival s).lens.curves = s.lens.curves ∧
    (poseArrival s).lens.subjects = s.lens.subjects ∧ (poseArrival s).cues = s.cues ∧
    (poseArrival s).mgmt.requests = s.mgmt.requests ∧ (poseArrival s).mgmt.erasing = s.mgmt.erasing ∧
    (poseArrival s).mgmt.reset = s.mgmt.reset ∧ (poseArrival s).mgmt.drops = s.mgmt.drops ∧
    (poseArrival s).mgmt.locked = s.mgmt.locked ∧ (poseArrival s).notices.config = s.notices.config := by
  unfold poseArrival
  simp

/-- The fold of `zoneNotices` leaves these records and fields as they stand. -/
@[simp] theorem zoneNotices_fold (old new : Vector ZoneState 24) (c : CycleNo) (s) (l : List (Fin 24)) :

    (List.foldl (fun s z => if old[z] = new[z] then s else raise 2 ([u8 z.val, s.env.zones[z].kind.code, old[z].code, new[z].code] ++ natBE 2 c.toNat) s) s l).pending = s.pending ∧
    (List.foldl (fun s z => if old[z] = new[z] then s else raise 2 ([u8 z.val, s.env.zones[z].kind.code, old[z].code, new[z].code] ++ natBE 2 c.toNat) s) s l).timebase = s.timebase ∧
    (List.foldl (fun s z => if old[z] = new[z] then s else raise 2 ([u8 z.val, s.env.zones[z].kind.code, old[z].code, new[z].code] ++ natBE 2 c.toNat) s) s l).pins = s.pins ∧
    (List.foldl (fun s z => if old[z] = new[z] then s else raise 2 ([u8 z.val, s.env.zones[z].kind.code, old[z].code, new[z].code] ++ natBE 2 c.toNat) s) s l).spine.receivingU = s.spine.receivingU ∧
    (List.foldl (fun s z => if old[z] = new[z] then s else raise 2 ([u8 z.val, s.env.zones[z].kind.code, old[z].code, new[z].code] ++ natBE 2 c.toNat) s) s l).spine.receivingD = s.spine.receivingD ∧
    (List.foldl (fun s z => if old[z] = new[z] then s else raise 2 ([u8 z.val, s.env.zones[z].kind.code, old[z].code, new[z].code] ++ natBE 2 c.toNat) s) s l).cycle = s.cycle ∧
    (List.foldl (fun s z => if old[z] = new[z] then s else raise 2 ([u8 z.val, s.env.zones[z].kind.code, old[z].code, new[z].code] ++ natBE 2 c.toNat) s) s l).link = s.link ∧
    (List.foldl (fun s z => if old[z] = new[z] then s else raise 2 ([u8 z.val, s.env.zones[z].kind.code, old[z].code, new[z].code] ++ natBE 2 c.toNat) s) s l).pose = s.pose ∧
    (List.foldl (fun s z => if old[z] = new[z] then s else raise 2 ([u8 z.val, s.env.zones[z].kind.code, old[z].code, new[z].code] ++ natBE 2 c.toNat) s) s l).env = s.env ∧
    (List.foldl (fun s z => if old[z] = new[z] then s else raise 2 ([u8 z.val, s.env.zones[z].kind.code, old[z].code, new[z].code] ++ natBE 2 c.toNat) s) s l).gate = s.gate ∧
    (List.foldl (fun s z => if old[z] = new[z] then s else raise 2 ([u8 z.val, s.env.zones[z].kind.code, old[z].code, new[z].code] ++ natBE 2 c.toNat) s) s l).stop.lines = s.stop.lines ∧
    (List.foldl (fun s z => if old[z] = new[z] then s else raise 2 ([u8 z.val, s.env.zones[z].kind.code, old[z].code, new[z].code] ++ natBE 2 c.toNat) s) s l).stop.present = s.stop.present ∧
    (List.foldl (fun s z => if old[z] = new[z] then s else raise 2 ([u8 z.val, s.env.zones[z].kind.code, old[z].code, new[z].code] ++ natBE 2 c.toNat) s) s l).stop.trip = s.stop.trip ∧
    (List.foldl (fun s z => if old[z] = new[z] then s else raise 2 ([u8 z.val, s.env.zones[z].kind.code, old[z].code, new[z].code] ++ natBE 2 c.toNat) s) s l).stop.config = s.stop.config ∧
    (List.foldl (fun s z => if old[z] = new[z] then s else raise 2 ([u8 z.val, s.env.zones[z].kind.code, old[z].code, new[z].code] ++ natBE 2 c.toNat) s) s l).stop.gesture = s.stop.gesture ∧
    (List.foldl (fun s z => if old[z] = new[z] then s else raise 2 ([u8 z.val, s.env.zones[z].kind.code, old[z].code, new[z].code] ++ natBE 2 c.toNat) s) s l).stop.lampMap = s.stop.lampMap ∧
    (List.foldl (fun s z => if old[z] = new[z] then s else raise 2 ([u8 z.val, s.env.zones[z].kind.code, old[z].code, new[z].code] ++ natBE 2 c.toNat) s) s l).stop.entryCycle = s.stop.entryCycle ∧
    (List.foldl (fun s z => if old[z] = new[z] then s else raise 2 ([u8 z.val, s.env.zones[z].kind.code, old[z].code, new[z].code] ++ natBE 2 c.toNat) s) s l).stop.syncTimer = s.stop.syncTimer ∧
    (List.foldl (fun s z => if old[z] = new[z] then s else raise 2 ([u8 z.val, s.env.zones[z].kind.code, old[z].code, new[z].code] ++ natBE 2 c.toNat) s) s l).stop.substituteTimer = s.stop.substituteTimer ∧
    (List.foldl (fun s z => if old[z] = new[z] then s else raise 2 ([u8 z.val, s.env.zones[z].kind.code, old[z].code, new[z].code] ++ natBE 2 c.toNat) s) s l).stop.gripHeld = s.stop.gripHeld ∧
    (List.foldl (fun s z => if old[z] = new[z] then s else raise 2 ([u8 z.val, s.env.zones[z].kind.code, old[z].code, new[z].code] ++ natBE 2 c.toNat) s) s l).stop.consoleStop = s.stop.consoleStop ∧
    (List.foldl (fun s z => if old[z] = new[z] then s else raise 2 ([u8 z.val, s.env.zones[z].kind.code, old[z].code, new[z].code] ++ natBE 2 c.toNat) s) s l).lens = s.lens ∧
    (List.foldl (fun s z => if old[z] = new[z] then s else raise 2 ([u8 z.val, s.env.zones[z].kind.code, old[z].code, new[z].code] ++ natBE 2 c.toNat) s) s l).store = s.store ∧
    (List.foldl (fun s z => if old[z] = new[z] then s else raise 2 ([u8 z.val, s.env.zones[z].kind.code, old[z].code, new[z].code] ++ natBE 2 c.toNat) s) s l).recorder = s.recorder ∧
    (List.foldl (fun s z => if old[z] = new[z] then s else raise 2 ([u8 z.val, s.env.zones[z].kind.code, old[z].code, new[z].code] ++ natBE 2 c.toNat) s) s l).player = s.player ∧
    (List.foldl (fun s z => if old[z] = new[z] then s else raise 2 ([u8 z.val, s.env.zones[z].kind.code, old[z].code, new[z].code] ++ natBE 2 c.toNat) s) s l).cues = s.cues ∧
    (List.foldl (fun s z => if old[z] = new[z] then s else raise 2 ([u8 z.val, s.env.zones[z].kind.code, old[z].code, new[z].code] ++ natBE 2 c.toNat) s) s l).mgmt.requests = s.mgmt.requests ∧
    (List.foldl (fun s z => if old[z] = new[z] then s else raise 2 ([u8 z.val, s.env.zones[z].kind.code, old[z].code, new[z].code] ++ natBE 2 c.toNat) s) s l).mgmt.erasing = s.mgmt.erasing ∧
    (List.foldl (fun s z => if old[z] = new[z] then s else raise 2 ([u8 z.val, s.env.zones[z].kind.code, old[z].code, new[z].code] ++ natBE 2 c.toNat) s) s l).mgmt.reset = s.mgmt.reset ∧
    (List.foldl (fun s z => if old[z] = new[z] then s else raise 2 ([u8 z.val, s.env.zones[z].kind.code, old[z].code, new[z].code] ++ natBE 2 c.toNat) s) s l).mgmt.drops = s.mgmt.drops ∧
    (List.foldl (fun s z => if old[z] = new[z] then s else raise 2 ([u8 z.val, s.env.zones[z].kind.code, old[z].code, new[z].code] ++ natBE 2 c.toNat) s) s l).mgmt.locked = s.mgmt.locked ∧
    (List.foldl (fun s z => if old[z] = new[z] then s else raise 2 ([u8 z.val, s.env.zones[z].kind.code, old[z].code, new[z].code] ++ natBE 2 c.toNat) s) s l).notices.config = s.notices.config := by
  induction l generalizing s with
  | nil => simp
  | cons head tail ih =>
    rw [List.foldl_cons]
    simp only [ih]
    split <;> simp

/-- `zoneNotices` leaves these records and fields as they stand. -/
@[simp] theorem zoneNotices_frame (old new c s) :
    (zoneNotices old new c s).pending = s.pending ∧ (zoneNotices old new c s).timebase = s.timebase ∧
    (zoneNotices old new c s).pins = s.pins ∧ (zoneNotices old new c s).spine.receivingU = s.spine.receivingU ∧
    (zoneNotices old new c s).spine.receivingD = s.spine.receivingD ∧ (zoneNotices old new c s).cycle = s.cycle ∧
    (zoneNotices old new c s).link = s.link ∧ (zoneNotices old new c s).pose = s.pose ∧
    (zoneNotices old new c s).env = s.env ∧ (zoneNotices old new c s).gate = s.gate ∧
    (zoneNotices old new c s).stop.lines = s.stop.lines ∧ (zoneNotices old new c s).stop.present = s.stop.present ∧
    (zoneNotices old new c s).stop.trip = s.stop.trip ∧ (zoneNotices old new c s).stop.config = s.stop.config ∧
    (zoneNotices old new c s).stop.gesture = s.stop.gesture ∧
    (zoneNotices old new c s).stop.lampMap = s.stop.lampMap ∧
    (zoneNotices old new c s).stop.entryCycle = s.stop.entryCycle ∧
    (zoneNotices old new c s).stop.syncTimer = s.stop.syncTimer ∧
    (zoneNotices old new c s).stop.substituteTimer = s.stop.substituteTimer ∧
    (zoneNotices old new c s).stop.gripHeld = s.stop.gripHeld ∧
    (zoneNotices old new c s).stop.consoleStop = s.stop.consoleStop ∧ (zoneNotices old new c s).lens = s.lens ∧
    (zoneNotices old new c s).store = s.store ∧ (zoneNotices old new c s).recorder = s.recorder ∧
    (zoneNotices old new c s).player = s.player ∧ (zoneNotices old new c s).cues = s.cues ∧
    (zoneNotices old new c s).mgmt.requests = s.mgmt.requests ∧
    (zoneNotices old new c s).mgmt.erasing = s.mgmt.erasing ∧ (zoneNotices old new c s).mgmt.reset = s.mgmt.reset ∧
    (zoneNotices old new c s).mgmt.drops = s.mgmt.drops ∧ (zoneNotices old new c s).mgmt.locked = s.mgmt.locked ∧
    (zoneNotices old new c s).notices.config = s.notices.config := by
  unfold zoneNotices
  exact zoneNotices_fold old new c s _

/-- `evaluate` leaves these records and fields as they stand. -/
@[simp] theorem evaluate_frame (c m p s) :
    (evaluate c m p s).pending = s.pending ∧ (evaluate c m p s).timebase = s.timebase ∧
    (evaluate c m p s).pins = s.pins ∧ (evaluate c m p s).spine.receivingU = s.spine.receivingU ∧
    (evaluate c m p s).spine.receivingD = s.spine.receivingD ∧ (evaluate c m p s).cycle = s.cycle ∧
    (evaluate c m p s).link = s.link ∧ (evaluate c m p s).pose = s.pose ∧ (evaluate c m p s).env.zones = s.env.zones ∧
    (evaluate c m p s).stop.lines = s.stop.lines ∧ (evaluate c m p s).stop.config = s.stop.config ∧
    (evaluate c m p s).stop.gesture = s.stop.gesture ∧ (evaluate c m p s).stop.lampMap = s.stop.lampMap ∧
    (evaluate c m p s).stop.syncTimer = s.stop.syncTimer ∧
    (evaluate c m p s).stop.substituteTimer = s.stop.substituteTimer ∧
    (evaluate c m p s).stop.gripHeld = s.stop.gripHeld ∧ (evaluate c m p s).stop.consoleStop = s.stop.consoleStop ∧
    (evaluate c m p s).lens = s.lens ∧ (evaluate c m p s).cues = s.cues ∧
    (evaluate c m p s).mgmt.requests = s.mgmt.requests ∧ (evaluate c m p s).mgmt.erasing = s.mgmt.erasing ∧
    (evaluate c m p s).mgmt.reset = s.mgmt.reset ∧ (evaluate c m p s).mgmt.drops = s.mgmt.drops ∧
    (evaluate c m p s).mgmt.locked = s.mgmt.locked ∧ (evaluate c m p s).notices.config = s.notices.config := by
  unfold evaluate
  simp

/-- `skipPose` leaves these records and fields as they stand. -/
@[simp] theorem skipPose_frame (s) :
    (skipPose s).pending = s.pending ∧ (skipPose s).timebase = s.timebase ∧ (skipPose s).pins = s.pins ∧
    (skipPose s).spine = s.spine ∧ (skipPose s).cycle = s.cycle ∧ (skipPose s).link = s.link ∧
    (skipPose s).pose = s.pose ∧ (skipPose s).env.zones = s.env.zones ∧ (skipPose s).gate = s.gate ∧
    (skipPose s).stop = s.stop ∧ (skipPose s).lens = s.lens ∧ (skipPose s).store = s.store ∧
    (skipPose s).recorder = s.recorder ∧ (skipPose s).player = s.player ∧ (skipPose s).cues = s.cues ∧
    (skipPose s).mgmt = s.mgmt ∧ (skipPose s).notices = s.notices := by
  unfold skipPose
  simp

/-- `completePose` leaves these records and fields as they stand. -/
@[simp] theorem completePose_frame (e c m s) :
    (completePose e c m s).pending = s.pending ∧ (completePose e c m s).timebase = s.timebase ∧
    (completePose e c m s).pins = s.pins ∧ (completePose e c m s).spine.receivingU = s.spine.receivingU ∧
    (completePose e c m s).spine.receivingD = s.spine.receivingD ∧
    (completePose e c m s).link.thresholds = s.link.thresholds ∧ (completePose e c m s).link.test = s.link.test ∧
    (completePose e c m s).link.testErrors = s.link.testErrors ∧
    (completePose e c m s).link.u.state = s.link.u.state ∧ (completePose e c m s).link.d.state = s.link.d.state ∧
    (completePose e c m s).pose.axes = s.pose.axes ∧ (completePose e c m s).pose.geometry = s.pose.geometry ∧
    (completePose e c m s).env.zones = s.env.zones ∧ (completePose e c m s).stop.lines = s.stop.lines ∧
    (completePose e c m s).stop.config = s.stop.config ∧ (completePose e c m s).stop.gesture = s.stop.gesture ∧
    (completePose e c m s).stop.lampMap = s.stop.lampMap ∧ (completePose e c m s).stop.syncTimer = s.stop.syncTimer ∧
    (completePose e c m s).stop.substituteTimer = s.stop.substituteTimer ∧
    (completePose e c m s).stop.gripHeld = s.stop.gripHeld ∧
    (completePose e c m s).stop.consoleStop = s.stop.consoleStop ∧
    (completePose e c m s).lens.curves = s.lens.curves ∧ (completePose e c m s).lens.subjects = s.lens.subjects ∧
    (completePose e c m s).cues = s.cues ∧ (completePose e c m s).mgmt.requests = s.mgmt.requests ∧
    (completePose e c m s).mgmt.erasing = s.mgmt.erasing ∧ (completePose e c m s).mgmt.reset = s.mgmt.reset ∧
    (completePose e c m s).mgmt.drops = s.mgmt.drops ∧ (completePose e c m s).mgmt.locked = s.mgmt.locked ∧
    (completePose e c m s).notices.config = s.notices.config := by
  unfold completePose
  repeat' split
  all_goals simp

/-- `captureAxis` leaves these records and fields as they stand. -/
@[simp] theorem captureAxis_frame (e c k m s) :
    (captureAxis e c k m s).pending = s.pending ∧ (captureAxis e c k m s).timebase = s.timebase ∧
    (captureAxis e c k m s).pins = s.pins ∧ (captureAxis e c k m s).spine.receivingU = s.spine.receivingU ∧
    (captureAxis e c k m s).spine.receivingD = s.spine.receivingD ∧
    (captureAxis e c k m s).link.thresholds = s.link.thresholds ∧ (captureAxis e c k m s).link.test = s.link.test ∧
    (captureAxis e c k m s).link.testErrors = s.link.testErrors ∧
    (captureAxis e c k m s).link.u.state = s.link.u.state ∧ (captureAxis e c k m s).link.d.state = s.link.d.state ∧
    (captureAxis e c k m s).pose.axes = s.pose.axes ∧ (captureAxis e c k m s).pose.geometry = s.pose.geometry ∧
    (captureAxis e c k m s).env.zones = s.env.zones ∧ (captureAxis e c k m s).stop.lines = s.stop.lines ∧
    (captureAxis e c k m s).stop.config = s.stop.config ∧ (captureAxis e c k m s).stop.gesture = s.stop.gesture ∧
    (captureAxis e c k m s).stop.lampMap = s.stop.lampMap ∧
    (captureAxis e c k m s).stop.syncTimer = s.stop.syncTimer ∧
    (captureAxis e c k m s).stop.substituteTimer = s.stop.substituteTimer ∧
    (captureAxis e c k m s).stop.gripHeld = s.stop.gripHeld ∧
    (captureAxis e c k m s).stop.consoleStop = s.stop.consoleStop ∧
    (captureAxis e c k m s).lens.curves = s.lens.curves ∧ (captureAxis e c k m s).lens.subjects = s.lens.subjects ∧
    (captureAxis e c k m s).cues = s.cues ∧ (captureAxis e c k m s).mgmt.requests = s.mgmt.requests ∧
    (captureAxis e c k m s).mgmt.erasing = s.mgmt.erasing ∧ (captureAxis e c k m s).mgmt.reset = s.mgmt.reset ∧
    (captureAxis e c k m s).mgmt.drops = s.mgmt.drops ∧ (captureAxis e c k m s).mgmt.locked = s.mgmt.locked ∧
    (captureAxis e c k m s).notices.config = s.notices.config := by
  unfold captureAxis
  dsimp only
  repeat' split
  all_goals simp

/-- `poseSetTake` leaves these records and fields as they stand. -/
@[simp] theorem poseSetTake_frame (e k c m s) :
    (poseSetTake e k c m s).pending = s.pending ∧ (poseSetTake e k c m s).timebase = s.timebase ∧
    (poseSetTake e k c m s).pins = s.pins ∧ (poseSetTake e k c m s).spine.receivingU = s.spine.receivingU ∧
    (poseSetTake e k c m s).spine.receivingD = s.spine.receivingD ∧
    (poseSetTake e k c m s).link.thresholds = s.link.thresholds ∧ (poseSetTake e k c m s).link.test = s.link.test ∧
    (poseSetTake e k c m s).link.testErrors = s.link.testErrors ∧
    (poseSetTake e k c m s).link.u.state = s.link.u.state ∧ (poseSetTake e k c m s).link.d.state = s.link.d.state ∧
    (poseSetTake e k c m s).pose.axes = s.pose.axes ∧ (poseSetTake e k c m s).pose.geometry = s.pose.geometry ∧
    (poseSetTake e k c m s).env.zones = s.env.zones ∧ (poseSetTake e k c m s).stop.lines = s.stop.lines ∧
    (poseSetTake e k c m s).stop.config = s.stop.config ∧ (poseSetTake e k c m s).stop.gesture = s.stop.gesture ∧
    (poseSetTake e k c m s).stop.lampMap = s.stop.lampMap ∧
    (poseSetTake e k c m s).stop.syncTimer = s.stop.syncTimer ∧
    (poseSetTake e k c m s).stop.substituteTimer = s.stop.substituteTimer ∧
    (poseSetTake e k c m s).stop.gripHeld = s.stop.gripHeld ∧
    (poseSetTake e k c m s).stop.consoleStop = s.stop.consoleStop ∧
    (poseSetTake e k c m s).lens.curves = s.lens.curves ∧ (poseSetTake e k c m s).lens.subjects = s.lens.subjects ∧
    (poseSetTake e k c m s).cues = s.cues ∧ (poseSetTake e k c m s).mgmt.requests = s.mgmt.requests ∧
    (poseSetTake e k c m s).mgmt.erasing = s.mgmt.erasing ∧ (poseSetTake e k c m s).mgmt.reset = s.mgmt.reset ∧
    (poseSetTake e k c m s).mgmt.drops = s.mgmt.drops ∧ (poseSetTake e k c m s).mgmt.locked = s.mgmt.locked ∧
    (poseSetTake e k c m s).notices.config = s.notices.config := by
  unfold poseSetTake
  dsimp only
  repeat' split
  all_goals simp

/-- `poseFeedback` leaves these records and fields as they stand. -/
@[simp] theorem poseFeedback_frame (e k f s) :
    (poseFeedback e k f s).pending = s.pending ∧ (poseFeedback e k f s).timebase = s.timebase ∧
    (poseFeedback e k f s).pins = s.pins ∧ (poseFeedback e k f s).spine.receivingU = s.spine.receivingU ∧
    (poseFeedback e k f s).spine.receivingD = s.spine.receivingD ∧
    (poseFeedback e k f s).link.thresholds = s.link.thresholds ∧ (poseFeedback e k f s).link.test = s.link.test ∧
    (poseFeedback e k f s).link.testErrors = s.link.testErrors ∧
    (poseFeedback e k f s).link.u.state = s.link.u.state ∧ (poseFeedback e k f s).link.d.state = s.link.d.state ∧
    (poseFeedback e k f s).pose.axes = s.pose.axes ∧ (poseFeedback e k f s).pose.geometry = s.pose.geometry ∧
    (poseFeedback e k f s).env.zones = s.env.zones ∧ (poseFeedback e k f s).stop.lines = s.stop.lines ∧
    (poseFeedback e k f s).stop.config = s.stop.config ∧ (poseFeedback e k f s).stop.gesture = s.stop.gesture ∧
    (poseFeedback e k f s).stop.lampMap = s.stop.lampMap ∧ (poseFeedback e k f s).stop.syncTimer = s.stop.syncTimer ∧
    (poseFeedback e k f s).stop.substituteTimer = s.stop.substituteTimer ∧
    (poseFeedback e k f s).stop.gripHeld = s.stop.gripHeld ∧
    (poseFeedback e k f s).stop.consoleStop = s.stop.consoleStop ∧
    (poseFeedback e k f s).lens.curves = s.lens.curves ∧ (poseFeedback e k f s).lens.subjects = s.lens.subjects ∧
    (poseFeedback e k f s).cues = s.cues ∧ (poseFeedback e k f s).mgmt.requests = s.mgmt.requests ∧
    (poseFeedback e k f s).mgmt.erasing = s.mgmt.erasing ∧ (poseFeedback e k f s).mgmt.reset = s.mgmt.reset ∧
    (poseFeedback e k f s).mgmt.drops = s.mgmt.drops ∧ (poseFeedback e k f s).mgmt.locked = s.mgmt.locked ∧
    (poseFeedback e k f s).notices.config = s.notices.config := by
  unfold poseFeedback
  split <;> simp

/-- `rearmCheck` leaves these records and fields as they stand. -/
@[simp] theorem rearmCheck_frame (s) :
    (rearmCheck s).pending = s.pending ∧ (rearmCheck s).timebase = s.timebase ∧ (rearmCheck s).pins = s.pins ∧
    (rearmCheck s).spine.receivingU = s.spine.receivingU ∧ (rearmCheck s).spine.receivingD = s.spine.receivingD ∧
    (rearmCheck s).cycle = s.cycle ∧ (rearmCheck s).link = s.link ∧ (rearmCheck s).pose = s.pose ∧
    (rearmCheck s).env = s.env ∧ (rearmCheck s).stop.lines = s.stop.lines ∧
    (rearmCheck s).stop.present = s.stop.present ∧ (rearmCheck s).stop.config = s.stop.config ∧
    (rearmCheck s).stop.gesture = s.stop.gesture ∧ (rearmCheck s).stop.lampMap = s.stop.lampMap ∧
    (rearmCheck s).stop.entryCycle = s.stop.entryCycle ∧ (rearmCheck s).stop.syncTimer = s.stop.syncTimer ∧
    (rearmCheck s).stop.substituteTimer = s.stop.substituteTimer ∧ (rearmCheck s).stop.gripHeld = s.stop.gripHeld ∧
    (rearmCheck s).stop.consoleStop = s.stop.consoleStop ∧ (rearmCheck s).lens = s.lens ∧
    (rearmCheck s).store = s.store ∧ (rearmCheck s).recorder = s.recorder ∧ (rearmCheck s).player = s.player ∧
    (rearmCheck s).cues = s.cues ∧ (rearmCheck s).mgmt.requests = s.mgmt.requests ∧
    (rearmCheck s).mgmt.erasing = s.mgmt.erasing ∧ (rearmCheck s).mgmt.reset = s.mgmt.reset ∧
    (rearmCheck s).mgmt.drops = s.mgmt.drops ∧ (rearmCheck s).mgmt.locked = s.mgmt.locked ∧
    (rearmCheck s).notices.config = s.notices.config := by
  unfold rearmCheck
  split <;> simp

/-- `gestureStep` leaves these records and fields as they stand. -/
@[simp] theorem gestureStep_frame (h s) :
    (gestureStep h s).pending = s.pending ∧ (gestureStep h s).timebase = s.timebase ∧
    (gestureStep h s).pins = s.pins ∧ (gestureStep h s).spine.receivingU = s.spine.receivingU ∧
    (gestureStep h s).spine.receivingD = s.spine.receivingD ∧ (gestureStep h s).cycle = s.cycle ∧
    (gestureStep h s).link = s.link ∧ (gestureStep h s).pose = s.pose ∧ (gestureStep h s).env = s.env ∧
    (gestureStep h s).stop.lines = s.stop.lines ∧ (gestureStep h s).stop.present = s.stop.present ∧
    (gestureStep h s).stop.config = s.stop.config ∧ (gestureStep h s).stop.gesture = s.stop.gesture ∧
    (gestureStep h s).stop.lampMap = s.stop.lampMap ∧ (gestureStep h s).stop.entryCycle = s.stop.entryCycle ∧
    (gestureStep h s).stop.syncTimer = s.stop.syncTimer ∧
    (gestureStep h s).stop.substituteTimer = s.stop.substituteTimer ∧
    (gestureStep h s).stop.gripHeld = s.stop.gripHeld ∧ (gestureStep h s).stop.consoleStop = s.stop.consoleStop ∧
    (gestureStep h s).lens = s.lens ∧ (gestureStep h s).store = s.store ∧ (gestureStep h s).recorder = s.recorder ∧
    (gestureStep h s).player = s.player ∧ (gestureStep h s).cues = s.cues ∧
    (gestureStep h s).mgmt.requests = s.mgmt.requests ∧ (gestureStep h s).mgmt.erasing = s.mgmt.erasing ∧
    (gestureStep h s).mgmt.reset = s.mgmt.reset ∧ (gestureStep h s).mgmt.drops = s.mgmt.drops ∧
    (gestureStep h s).mgmt.locked = s.mgmt.locked ∧ (gestureStep h s).notices.config = s.notices.config := by
  unfold gestureStep
  dsimp only
  repeat' split
  all_goals simp

/-- `syncRestart` leaves these records and fields as they stand. -/
@[simp] theorem syncRestart_frame (s) :
    (syncRestart s).pending = s.pending ∧ (syncRestart s).timebase = s.timebase ∧ (syncRestart s).pins = s.pins ∧
    (syncRestart s).spine.receivingU = s.spine.receivingU ∧ (syncRestart s).spine.receivingD = s.spine.receivingD ∧
    (syncRestart s).cycle = s.cycle ∧ (syncRestart s).link = s.link ∧ (syncRestart s).pose = s.pose ∧
    (syncRestart s).env = s.env ∧ (syncRestart s).gate = s.gate ∧ (syncRestart s).stop.lines = s.stop.lines ∧
    (syncRestart s).stop.trip = s.stop.trip ∧ (syncRestart s).stop.config = s.stop.config ∧
    (syncRestart s).stop.gesture = s.stop.gesture ∧ (syncRestart s).stop.lampMap = s.stop.lampMap ∧
    (syncRestart s).stop.entryCycle = s.stop.entryCycle ∧ (syncRestart s).stop.gripHeld = s.stop.gripHeld ∧
    (syncRestart s).stop.consoleStop = s.stop.consoleStop ∧ (syncRestart s).lens = s.lens ∧
    (syncRestart s).store = s.store ∧ (syncRestart s).recorder = s.recorder ∧ (syncRestart s).player = s.player ∧
    (syncRestart s).cues = s.cues ∧ (syncRestart s).mgmt.requests = s.mgmt.requests ∧
    (syncRestart s).mgmt.erasing = s.mgmt.erasing ∧ (syncRestart s).mgmt.reset = s.mgmt.reset ∧
    (syncRestart s).mgmt.drops = s.mgmt.drops ∧ (syncRestart s).mgmt.locked = s.mgmt.locked ∧
    (syncRestart s).notices.config = s.notices.config := by
  unfold syncRestart
  simp

/-- `stopArrival` leaves these records and fields as they stand. -/
@[simp] theorem stopArrival_frame (u h c g s) :
    (stopArrival u h c g s).pending = s.pending ∧ (stopArrival u h c g s).timebase = s.timebase ∧
    (stopArrival u h c g s).pins = s.pins ∧ (stopArrival u h c g s).spine.receivingU = s.spine.receivingU ∧
    (stopArrival u h c g s).spine.receivingD = s.spine.receivingD ∧ (stopArrival u h c g s).cycle = s.cycle ∧
    (stopArrival u h c g s).link = s.link ∧ (stopArrival u h c g s).pose = s.pose ∧
    (stopArrival u h c g s).env = s.env ∧ (stopArrival u h c g s).stop.lines = s.stop.lines ∧
    (stopArrival u h c g s).stop.config = s.stop.config ∧ (stopArrival u h c g s).stop.gesture = s.stop.gesture ∧
    (stopArrival u h c g s).stop.lampMap = s.stop.lampMap ∧ (stopArrival u h c g s).lens = s.lens ∧
    (stopArrival u h c g s).cues = s.cues ∧ (stopArrival u h c g s).mgmt.requests = s.mgmt.requests ∧
    (stopArrival u h c g s).mgmt.erasing = s.mgmt.erasing ∧ (stopArrival u h c g s).mgmt.reset = s.mgmt.reset ∧
    (stopArrival u h c g s).mgmt.drops = s.mgmt.drops ∧ (stopArrival u h c g s).mgmt.locked = s.mgmt.locked ∧
    (stopArrival u h c g s).notices.config = s.notices.config := by
  unfold stopArrival
  dsimp only
  repeat' split
  all_goals simp

/-- `judgeStandstill` leaves these records and fields as they stand. -/
@[simp] theorem judgeStandstill_frame (k c s) :
    (judgeStandstill k c s).pending = s.pending ∧ (judgeStandstill k c s).timebase = s.timebase ∧
    (judgeStandstill k c s).pins = s.pins ∧ (judgeStandstill k c s).spine.receivingU = s.spine.receivingU ∧
    (judgeStandstill k c s).spine.receivingD = s.spine.receivingD ∧ (judgeStandstill k c s).cycle = s.cycle ∧
    (judgeStandstill k c s).link = s.link ∧ (judgeStandstill k c s).pose = s.pose ∧
    (judgeStandstill k c s).env = s.env ∧ (judgeStandstill k c s).gate = s.gate ∧
    (judgeStandstill k c s).stop.lines = s.stop.lines ∧ (judgeStandstill k c s).stop.present = s.stop.present ∧
    (judgeStandstill k c s).stop.trip = s.stop.trip ∧ (judgeStandstill k c s).stop.config = s.stop.config ∧
    (judgeStandstill k c s).stop.gesture = s.stop.gesture ∧ (judgeStandstill k c s).stop.lampMap = s.stop.lampMap ∧
    (judgeStandstill k c s).stop.entryCycle = s.stop.entryCycle ∧
    (judgeStandstill k c s).stop.syncTimer = s.stop.syncTimer ∧
    (judgeStandstill k c s).stop.substituteTimer = s.stop.substituteTimer ∧
    (judgeStandstill k c s).stop.gripHeld = s.stop.gripHeld ∧
    (judgeStandstill k c s).stop.consoleStop = s.stop.consoleStop ∧ (judgeStandstill k c s).lens = s.lens ∧
    (judgeStandstill k c s).store = s.store ∧ (judgeStandstill k c s).recorder = s.recorder ∧
    (judgeStandstill k c s).player = s.player ∧ (judgeStandstill k c s).cues = s.cues ∧
    (judgeStandstill k c s).mgmt.requests = s.mgmt.requests ∧ (judgeStandstill k c s).mgmt.erasing = s.mgmt.erasing ∧
    (judgeStandstill k c s).mgmt.reset = s.mgmt.reset ∧ (judgeStandstill k c s).mgmt.drops = s.mgmt.drops ∧
    (judgeStandstill k c s).mgmt.locked = s.mgmt.locked ∧ (judgeStandstill k c s).notices.config = s.notices.config := by
  unfold judgeStandstill
  dsimp only
  repeat' split
  all_goals simp

/-- `stopFeedback` leaves these records and fields as they stand. -/
@[simp] theorem stopFeedback_frame (k f s) :
    (stopFeedback k f s).pending = s.pending ∧ (stopFeedback k f s).timebase = s.timebase ∧
    (stopFeedback k f s).pins = s.pins ∧ (stopFeedback k f s).spine.receivingU = s.spine.receivingU ∧
    (stopFeedback k f s).spine.receivingD = s.spine.receivingD ∧ (stopFeedback k f s).cycle = s.cycle ∧
    (stopFeedback k f s).link = s.link ∧ (stopFeedback k f s).pose = s.pose ∧ (stopFeedback k f s).env = s.env ∧
    (stopFeedback k f s).stop.lines = s.stop.lines ∧ (stopFeedback k f s).stop.config = s.stop.config ∧
    (stopFeedback k f s).stop.gesture = s.stop.gesture ∧ (stopFeedback k f s).stop.lampMap = s.stop.lampMap ∧
    (stopFeedback k f s).stop.syncTimer = s.stop.syncTimer ∧
    (stopFeedback k f s).stop.substituteTimer = s.stop.substituteTimer ∧
    (stopFeedback k f s).stop.gripHeld = s.stop.gripHeld ∧
    (stopFeedback k f s).stop.consoleStop = s.stop.consoleStop ∧ (stopFeedback k f s).lens = s.lens ∧
    (stopFeedback k f s).cues = s.cues ∧ (stopFeedback k f s).mgmt.requests = s.mgmt.requests ∧
    (stopFeedback k f s).mgmt.erasing = s.mgmt.erasing ∧ (stopFeedback k f s).mgmt.reset = s.mgmt.reset ∧
    (stopFeedback k f s).mgmt.drops = s.mgmt.drops ∧ (stopFeedback k f s).mgmt.locked = s.mgmt.locked ∧
    (stopFeedback k f s).notices.config = s.notices.config := by
  unfold stopFeedback
  split <;> simp

/-- `lineChange` leaves these records and fields as they stand. -/
@[simp] theorem lineChange_frame (n c l s) :
    (lineChange n c l s).pending = s.pending ∧ (lineChange n c l s).timebase = s.timebase ∧
    (lineChange n c l s).pins = s.pins ∧ (lineChange n c l s).spine.receivingU = s.spine.receivingU ∧
    (lineChange n c l s).spine.receivingD = s.spine.receivingD ∧ (lineChange n c l s).cycle = s.cycle ∧
    (lineChange n c l s).link = s.link ∧ (lineChange n c l s).pose = s.pose ∧ (lineChange n c l s).env = s.env ∧
    (lineChange n c l s).stop.config = s.stop.config ∧ (lineChange n c l s).stop.gesture = s.stop.gesture ∧
    (lineChange n c l s).stop.lampMap = s.stop.lampMap ∧ (lineChange n c l s).stop.syncTimer = s.stop.syncTimer ∧
    (lineChange n c l s).stop.substituteTimer = s.stop.substituteTimer ∧
    (lineChange n c l s).stop.gripHeld = s.stop.gripHeld ∧
    (lineChange n c l s).stop.consoleStop = s.stop.consoleStop ∧ (lineChange n c l s).lens = s.lens ∧
    (lineChange n c l s).cues = s.cues ∧ (lineChange n c l s).mgmt.requests = s.mgmt.requests ∧
    (lineChange n c l s).mgmt.erasing = s.mgmt.erasing ∧ (lineChange n c l s).mgmt.reset = s.mgmt.reset ∧
    (lineChange n c l s).mgmt.drops = s.mgmt.drops ∧ (lineChange n c l s).mgmt.locked = s.mgmt.locked ∧
    (lineChange n c l s).notices.config = s.notices.config := by
  unfold lineChange
  dsimp only
  repeat' split
  all_goals simp

/-- `lineFault` leaves these records and fields as they stand. -/
@[simp] theorem lineFault_frame (n s) :
    (lineFault n s).pending = s.pending ∧ (lineFault n s).timebase = s.timebase ∧ (lineFault n s).pins = s.pins ∧
    (lineFault n s).spine.receivingU = s.spine.receivingU ∧ (lineFault n s).spine.receivingD = s.spine.receivingD ∧
    (lineFault n s).cycle = s.cycle ∧ (lineFault n s).link = s.link ∧ (lineFault n s).pose = s.pose ∧
    (lineFault n s).env = s.env ∧ (lineFault n s).stop.config = s.stop.config ∧
    (lineFault n s).stop.gesture = s.stop.gesture ∧ (lineFault n s).stop.lampMap = s.stop.lampMap ∧
    (lineFault n s).stop.syncTimer = s.stop.syncTimer ∧
    (lineFault n s).stop.substituteTimer = s.stop.substituteTimer ∧ (lineFault n s).stop.gripHeld = s.stop.gripHeld ∧
    (lineFault n s).stop.consoleStop = s.stop.consoleStop ∧ (lineFault n s).lens = s.lens ∧
    (lineFault n s).cues = s.cues ∧ (lineFault n s).mgmt.requests = s.mgmt.requests ∧
    (lineFault n s).mgmt.erasing = s.mgmt.erasing ∧ (lineFault n s).mgmt.reset = s.mgmt.reset ∧
    (lineFault n s).mgmt.drops = s.mgmt.drops ∧ (lineFault n s).mgmt.locked = s.mgmt.locked ∧
    (lineFault n s).notices.config = s.notices.config := by
  unfold lineFault
  simp

/-- `handLink` leaves these records and fields as they stand. -/
@[simp] theorem handLink_frame (s) :
    (handLink s).pending = s.pending ∧ (handLink s).timebase = s.timebase ∧ (handLink s).pins = s.pins ∧
    (handLink s).spine.receivingU = s.spine.receivingU ∧ (handLink s).spine.receivingD = s.spine.receivingD ∧
    (handLink s).cycle = s.cycle ∧ (handLink s).link = s.link ∧ (handLink s).pose = s.pose ∧
    (handLink s).env.zones = s.env.zones ∧ (handLink s).stop.lines = s.stop.lines ∧
    (handLink s).stop.config = s.stop.config ∧ (handLink s).stop.gesture = s.stop.gesture ∧
    (handLink s).stop.lampMap = s.stop.lampMap ∧ (handLink s).stop.syncTimer = s.stop.syncTimer ∧
    (handLink s).stop.substituteTimer = s.stop.substituteTimer ∧ (handLink s).stop.gripHeld = s.stop.gripHeld ∧
    (handLink s).stop.consoleStop = s.stop.consoleStop ∧ (handLink s).lens = s.lens ∧ (handLink s).cues = s.cues ∧
    (handLink s).mgmt.requests = s.mgmt.requests ∧ (handLink s).mgmt.erasing = s.mgmt.erasing ∧
    (handLink s).mgmt.reset = s.mgmt.reset ∧ (handLink s).mgmt.drops = s.mgmt.drops ∧
    (handLink s).mgmt.locked = s.mgmt.locked ∧ (handLink s).notices.config = s.notices.config := by
  unfold handLink
  simp

/-- `changePort` leaves these records and fields as they stand. -/
@[simp] theorem changePort_frame (p r new why s) :
    (changePort p r new why s).pending = s.pending ∧ (changePort p r new why s).timebase = s.timebase ∧
    (changePort p r new why s).pins = s.pins ∧ (changePort p r new why s).spine.receivingU = s.spine.receivingU ∧
    (changePort p r new why s).spine.receivingD = s.spine.receivingD ∧ (changePort p r new why s).cycle = s.cycle ∧
    (changePort p r new why s).link.thresholds = s.link.thresholds ∧
    (changePort p r new why s).link.test = s.link.test ∧
    (changePort p r new why s).link.testErrors = s.link.testErrors ∧ (changePort p r new why s).pose = s.pose ∧
    (changePort p r new why s).env.zones = s.env.zones ∧ (changePort p r new why s).stop.lines = s.stop.lines ∧
    (changePort p r new why s).stop.config = s.stop.config ∧
    (changePort p r new why s).stop.gesture = s.stop.gesture ∧
    (changePort p r new why s).stop.lampMap = s.stop.lampMap ∧
    (changePort p r new why s).stop.syncTimer = s.stop.syncTimer ∧
    (changePort p r new why s).stop.substituteTimer = s.stop.substituteTimer ∧
    (changePort p r new why s).stop.gripHeld = s.stop.gripHeld ∧
    (changePort p r new why s).stop.consoleStop = s.stop.consoleStop ∧ (changePort p r new why s).lens = s.lens ∧
    (changePort p r new why s).cues = s.cues ∧ (changePort p r new why s).mgmt.requests = s.mgmt.requests ∧
    (changePort p r new why s).mgmt.erasing = s.mgmt.erasing ∧ (changePort p r new why s).mgmt.reset = s.mgmt.reset ∧
    (changePort p r new why s).mgmt.drops = s.mgmt.drops ∧ (changePort p r new why s).mgmt.locked = s.mgmt.locked ∧
    (changePort p r new why s).notices.config = s.notices.config := by
  cases p <;> simp [changePort, Link.setPort, Link.port]

/-- `endWindow` leaves these records and fields as they stand. -/
@[simp] theorem endWindow_frame (p e r s) :
    (endWindow p e r s).pending = s.pending ∧ (endWindow p e r s).timebase = s.timebase ∧
    (endWindow p e r s).pins = s.pins ∧ (endWindow p e r s).spine.receivingU = s.spine.receivingU ∧
    (endWindow p e r s).spine.receivingD = s.spine.receivingD ∧ (endWindow p e r s).cycle = s.cycle ∧
    (endWindow p e r s).link.thresholds = s.link.thresholds ∧ (endWindow p e r s).link.test = s.link.test ∧
    (endWindow p e r s).link.testErrors = s.link.testErrors ∧ (endWindow p e r s).pose = s.pose ∧
    (endWindow p e r s).env.zones = s.env.zones ∧ (endWindow p e r s).stop.lines = s.stop.lines ∧
    (endWindow p e r s).stop.config = s.stop.config ∧ (endWindow p e r s).stop.gesture = s.stop.gesture ∧
    (endWindow p e r s).stop.lampMap = s.stop.lampMap ∧ (endWindow p e r s).stop.syncTimer = s.stop.syncTimer ∧
    (endWindow p e r s).stop.substituteTimer = s.stop.substituteTimer ∧
    (endWindow p e r s).stop.gripHeld = s.stop.gripHeld ∧ (endWindow p e r s).stop.consoleStop = s.stop.consoleStop ∧
    (endWindow p e r s).lens = s.lens ∧ (endWindow p e r s).cues = s.cues ∧
    (endWindow p e r s).mgmt.requests = s.mgmt.requests ∧ (endWindow p e r s).mgmt.erasing = s.mgmt.erasing ∧
    (endWindow p e r s).mgmt.reset = s.mgmt.reset ∧ (endWindow p e r s).mgmt.drops = s.mgmt.drops ∧
    (endWindow p e r s).mgmt.locked = s.mgmt.locked ∧ (endWindow p e r s).notices.config = s.notices.config := by
  unfold endWindow
  try dsimp only
  repeat' split
  all_goals (first | (simp; done) | (simp [Link.setPort, Link.port, PortRecord.dropped, PortRecord.risen]; done) | (rename Port => q; cases q <;> simp [Link.setPort, Link.port, PortRecord.dropped, PortRecord.risen]))

/-- `countWindow` leaves these records and fields as they stand. -/
@[simp] theorem countWindow_frame (p e r s) :
    (countWindow p e r s).pending = s.pending ∧ (countWindow p e r s).timebase = s.timebase ∧
    (countWindow p e r s).pins = s.pins ∧ (countWindow p e r s).spine.receivingU = s.spine.receivingU ∧
    (countWindow p e r s).spine.receivingD = s.spine.receivingD ∧ (countWindow p e r s).cycle = s.cycle ∧
    (countWindow p e r s).link.thresholds = s.link.thresholds ∧ (countWindow p e r s).link.test = s.link.test ∧
    (countWindow p e r s).link.testErrors = s.link.testErrors ∧ (countWindow p e r s).pose = s.pose ∧
    (countWindow p e r s).env.zones = s.env.zones ∧ (countWindow p e r s).stop.lines = s.stop.lines ∧
    (countWindow p e r s).stop.config = s.stop.config ∧ (countWindow p e r s).stop.gesture = s.stop.gesture ∧
    (countWindow p e r s).stop.lampMap = s.stop.lampMap ∧ (countWindow p e r s).stop.syncTimer = s.stop.syncTimer ∧
    (countWindow p e r s).stop.substituteTimer = s.stop.substituteTimer ∧
    (countWindow p e r s).stop.gripHeld = s.stop.gripHeld ∧
    (countWindow p e r s).stop.consoleStop = s.stop.consoleStop ∧ (countWindow p e r s).lens = s.lens ∧
    (countWindow p e r s).cues = s.cues ∧ (countWindow p e r s).mgmt.requests = s.mgmt.requests ∧
    (countWindow p e r s).mgmt.erasing = s.mgmt.erasing ∧ (countWindow p e r s).mgmt.reset = s.mgmt.reset ∧
    (countWindow p e r s).mgmt.drops = s.mgmt.drops ∧ (countWindow p e r s).mgmt.locked = s.mgmt.locked ∧
    (countWindow p e r s).notices.config = s.notices.config := by
  unfold countWindow
  try dsimp only
  repeat' split
  all_goals (first | (simp; done) | (simp [Link.setPort, Link.port, PortRecord.dropped, PortRecord.risen]; done) | (rename Port => q; cases q <;> simp [Link.setPort, Link.port, PortRecord.dropped, PortRecord.risen]))

/-- `linkGood` leaves these records and fields as they stand. -/
@[simp] theorem linkGood_frame (p s) :
    (linkGood p s).pending = s.pending ∧ (linkGood p s).timebase = s.timebase ∧ (linkGood p s).pins = s.pins ∧
    (linkGood p s).spine.receivingU = s.spine.receivingU ∧ (linkGood p s).spine.receivingD = s.spine.receivingD ∧
    (linkGood p s).cycle = s.cycle ∧ (linkGood p s).link.thresholds = s.link.thresholds ∧
    (linkGood p s).link.test = s.link.test ∧ (linkGood p s).link.testErrors = s.link.testErrors ∧
    (linkGood p s).pose = s.pose ∧ (linkGood p s).env.zones = s.env.zones ∧ (linkGood p s).stop.lines = s.stop.lines ∧
    (linkGood p s).stop.config = s.stop.config ∧ (linkGood p s).stop.gesture = s.stop.gesture ∧
    (linkGood p s).stop.lampMap = s.stop.lampMap ∧ (linkGood p s).stop.syncTimer = s.stop.syncTimer ∧
    (linkGood p s).stop.substituteTimer = s.stop.substituteTimer ∧ (linkGood p s).stop.gripHeld = s.stop.gripHeld ∧
    (linkGood p s).stop.consoleStop = s.stop.consoleStop ∧ (linkGood p s).lens = s.lens ∧
    (linkGood p s).cues = s.cues ∧ (linkGood p s).mgmt.requests = s.mgmt.requests ∧
    (linkGood p s).mgmt.erasing = s.mgmt.erasing ∧ (linkGood p s).mgmt.reset = s.mgmt.reset ∧
    (linkGood p s).mgmt.drops = s.mgmt.drops ∧ (linkGood p s).mgmt.locked = s.mgmt.locked ∧
    (linkGood p s).notices.config = s.notices.config := by
  unfold linkGood
  try dsimp only
  repeat' split
  all_goals (first | (simp; done) | (simp [Link.setPort, Link.port, PortRecord.dropped, PortRecord.risen]; done) | (rename Port => q; cases q <;> simp [Link.setPort, Link.port, PortRecord.dropped, PortRecord.risen]))

/-- `countBad` leaves these records and fields as they stand. -/
@[simp] theorem countBad_frame (p w s) :
    (countBad p w s).pending = s.pending ∧ (countBad p w s).timebase = s.timebase ∧ (countBad p w s).pins = s.pins ∧
    (countBad p w s).spine.receivingU = s.spine.receivingU ∧ (countBad p w s).spine.receivingD = s.spine.receivingD ∧
    (countBad p w s).link.thresholds = s.link.thresholds ∧ (countBad p w s).link.test = s.link.test ∧
    (countBad p w s).link.testErrors = s.link.testErrors ∧ (countBad p w s).link.u.state = s.link.u.state ∧
    (countBad p w s).link.d.state = s.link.d.state ∧ (countBad p w s).pose = s.pose ∧ (countBad p w s).env = s.env ∧
    (countBad p w s).gate = s.gate ∧ (countBad p w s).stop.lines = s.stop.lines ∧
    (countBad p w s).stop.present = s.stop.present ∧ (countBad p w s).stop.trip = s.stop.trip ∧
    (countBad p w s).stop.config = s.stop.config ∧ (countBad p w s).stop.gesture = s.stop.gesture ∧
    (countBad p w s).stop.lampMap = s.stop.lampMap ∧ (countBad p w s).stop.entryCycle = s.stop.entryCycle ∧
    (countBad p w s).stop.syncTimer = s.stop.syncTimer ∧
    (countBad p w s).stop.substituteTimer = s.stop.substituteTimer ∧
    (countBad p w s).stop.gripHeld = s.stop.gripHeld ∧ (countBad p w s).stop.consoleStop = s.stop.consoleStop ∧
    (countBad p w s).lens = s.lens ∧ (countBad p w s).store = s.store ∧ (countBad p w s).recorder = s.recorder ∧
    (countBad p w s).player = s.player ∧ (countBad p w s).cues = s.cues ∧
    (countBad p w s).mgmt.requests = s.mgmt.requests ∧ (countBad p w s).mgmt.erasing = s.mgmt.erasing ∧
    (countBad p w s).mgmt.reset = s.mgmt.reset ∧ (countBad p w s).mgmt.drops = s.mgmt.drops ∧
    (countBad p w s).mgmt.locked = s.mgmt.locked ∧ (countBad p w s).notices.config = s.notices.config := by
  unfold countBad
  split <;> simp

/-- `linkBadState` leaves these records and fields as they stand. -/
@[simp] theorem linkBadState_frame (p s) :
    (linkBadState p s).pending = s.pending ∧ (linkBadState p s).timebase = s.timebase ∧
    (linkBadState p s).pins = s.pins ∧ (linkBadState p s).spine.receivingU = s.spine.receivingU ∧
    (linkBadState p s).spine.receivingD = s.spine.receivingD ∧ (linkBadState p s).cycle = s.cycle ∧
    (linkBadState p s).link.thresholds = s.link.thresholds ∧ (linkBadState p s).link.test = s.link.test ∧
    (linkBadState p s).link.testErrors = s.link.testErrors ∧ (linkBadState p s).pose = s.pose ∧
    (linkBadState p s).env.zones = s.env.zones ∧ (linkBadState p s).stop.lines = s.stop.lines ∧
    (linkBadState p s).stop.config = s.stop.config ∧ (linkBadState p s).stop.gesture = s.stop.gesture ∧
    (linkBadState p s).stop.lampMap = s.stop.lampMap ∧ (linkBadState p s).stop.syncTimer = s.stop.syncTimer ∧
    (linkBadState p s).stop.substituteTimer = s.stop.substituteTimer ∧
    (linkBadState p s).stop.gripHeld = s.stop.gripHeld ∧ (linkBadState p s).stop.consoleStop = s.stop.consoleStop ∧
    (linkBadState p s).lens = s.lens ∧ (linkBadState p s).cues = s.cues ∧
    (linkBadState p s).mgmt.requests = s.mgmt.requests ∧ (linkBadState p s).mgmt.erasing = s.mgmt.erasing ∧
    (linkBadState p s).mgmt.reset = s.mgmt.reset ∧ (linkBadState p s).mgmt.drops = s.mgmt.drops ∧
    (linkBadState p s).mgmt.locked = s.mgmt.locked ∧ (linkBadState p s).notices.config = s.notices.config := by
  unfold linkBadState
  try dsimp only
  repeat' split
  all_goals (first | (simp; done) | (simp [Link.setPort, Link.port, PortRecord.dropped, PortRecord.risen]; done) | (rename Port => q; cases q <;> simp [Link.setPort, Link.port, PortRecord.dropped, PortRecord.risen]))

/-- `linkBad` leaves these records and fields as they stand. -/
@[simp] theorem linkBad_frame (p w s) :
    (linkBad p w s).pending = s.pending ∧ (linkBad p w s).timebase = s.timebase ∧ (linkBad p w s).pins = s.pins ∧
    (linkBad p w s).spine.receivingU = s.spine.receivingU ∧ (linkBad p w s).spine.receivingD = s.spine.receivingD ∧
    (linkBad p w s).link.thresholds = s.link.thresholds ∧ (linkBad p w s).link.test = s.link.test ∧
    (linkBad p w s).link.testErrors = s.link.testErrors ∧ (linkBad p w s).pose = s.pose ∧
    (linkBad p w s).env.zones = s.env.zones ∧ (linkBad p w s).stop.lines = s.stop.lines ∧
    (linkBad p w s).stop.config = s.stop.config ∧ (linkBad p w s).stop.gesture = s.stop.gesture ∧
    (linkBad p w s).stop.lampMap = s.stop.lampMap ∧ (linkBad p w s).stop.syncTimer = s.stop.syncTimer ∧
    (linkBad p w s).stop.substituteTimer = s.stop.substituteTimer ∧ (linkBad p w s).stop.gripHeld = s.stop.gripHeld ∧
    (linkBad p w s).stop.consoleStop = s.stop.consoleStop ∧ (linkBad p w s).lens = s.lens ∧
    (linkBad p w s).cues = s.cues ∧ (linkBad p w s).mgmt.requests = s.mgmt.requests ∧
    (linkBad p w s).mgmt.erasing = s.mgmt.erasing ∧ (linkBad p w s).mgmt.reset = s.mgmt.reset ∧
    (linkBad p w s).mgmt.drops = s.mgmt.drops ∧ (linkBad p w s).mgmt.locked = s.mgmt.locked ∧
    (linkBad p w s).notices.config = s.notices.config := by
  unfold linkBad
  simp

/-- `signalLost` leaves these records and fields as they stand. -/
@[simp] theorem signalLost_frame (p s) :
    (Sys2Proof.Machine.signalLost p s).pending = s.pending ∧
    (Sys2Proof.Machine.signalLost p s).timebase = s.timebase ∧ (Sys2Proof.Machine.signalLost p s).pins = s.pins ∧
    (Sys2Proof.Machine.signalLost p s).cycle = s.cycle ∧
    (Sys2Proof.Machine.signalLost p s).link.thresholds = s.link.thresholds ∧
    (Sys2Proof.Machine.signalLost p s).link.testErrors = s.link.testErrors ∧
    (Sys2Proof.Machine.signalLost p s).pose = s.pose ∧ (Sys2Proof.Machine.signalLost p s).env.zones = s.env.zones ∧
    (Sys2Proof.Machine.signalLost p s).stop.lines = s.stop.lines ∧
    (Sys2Proof.Machine.signalLost p s).stop.config = s.stop.config ∧
    (Sys2Proof.Machine.signalLost p s).stop.gesture = s.stop.gesture ∧
    (Sys2Proof.Machine.signalLost p s).stop.lampMap = s.stop.lampMap ∧
    (Sys2Proof.Machine.signalLost p s).stop.syncTimer = s.stop.syncTimer ∧
    (Sys2Proof.Machine.signalLost p s).stop.substituteTimer = s.stop.substituteTimer ∧
    (Sys2Proof.Machine.signalLost p s).stop.gripHeld = s.stop.gripHeld ∧
    (Sys2Proof.Machine.signalLost p s).stop.consoleStop = s.stop.consoleStop ∧
    (Sys2Proof.Machine.signalLost p s).lens = s.lens ∧ (Sys2Proof.Machine.signalLost p s).cues = s.cues ∧
    (Sys2Proof.Machine.signalLost p s).mgmt.requests = s.mgmt.requests ∧
    (Sys2Proof.Machine.signalLost p s).mgmt.erasing = s.mgmt.erasing ∧
    (Sys2Proof.Machine.signalLost p s).mgmt.reset = s.mgmt.reset ∧
    (Sys2Proof.Machine.signalLost p s).mgmt.drops = s.mgmt.drops ∧
    (Sys2Proof.Machine.signalLost p s).mgmt.locked = s.mgmt.locked ∧
    (Sys2Proof.Machine.signalLost p s).notices.config = s.notices.config := by
  unfold Sys2Proof.Machine.signalLost
  try dsimp only
  repeat' split
  all_goals (first | (simp; done) | (simp [Link.setPort, Link.port, PortRecord.dropped, PortRecord.risen]; done) | (rename Port => q; cases q <;> simp [Link.setPort, Link.port, PortRecord.dropped, PortRecord.risen]))

/-- `signalRegained` leaves these records and fields as they stand. -/
@[simp] theorem signalRegained_frame (p s) :
    (Sys2Proof.Machine.signalRegained p s).pending = s.pending ∧
    (Sys2Proof.Machine.signalRegained p s).timebase = s.timebase ∧
    (Sys2Proof.Machine.signalRegained p s).pins = s.pins ∧ (Sys2Proof.Machine.signalRegained p s).spine = s.spine ∧
    (Sys2Proof.Machine.signalRegained p s).cycle = s.cycle ∧
    (Sys2Proof.Machine.signalRegained p s).link.thresholds = s.link.thresholds ∧
    (Sys2Proof.Machine.signalRegained p s).link.testErrors = s.link.testErrors ∧
    (Sys2Proof.Machine.signalRegained p s).link.u.state = s.link.u.state ∧
    (Sys2Proof.Machine.signalRegained p s).link.d.state = s.link.d.state ∧
    (Sys2Proof.Machine.signalRegained p s).pose = s.pose ∧ (Sys2Proof.Machine.signalRegained p s).env = s.env ∧
    (Sys2Proof.Machine.signalRegained p s).gate = s.gate ∧ (Sys2Proof.Machine.signalRegained p s).stop = s.stop ∧
    (Sys2Proof.Machine.signalRegained p s).lens = s.lens ∧ (Sys2Proof.Machine.signalRegained p s).store = s.store ∧
    (Sys2Proof.Machine.signalRegained p s).recorder = s.recorder ∧
    (Sys2Proof.Machine.signalRegained p s).player = s.player ∧ (Sys2Proof.Machine.signalRegained p s).cues = s.cues ∧
    (Sys2Proof.Machine.signalRegained p s).mgmt = s.mgmt ∧ (Sys2Proof.Machine.signalRegained p s).notices = s.notices := by
  unfold Sys2Proof.Machine.signalRegained
  try dsimp only
  repeat' split
  all_goals (first | (simp; done) | (simp [Link.setPort, Link.port, PortRecord.dropped, PortRecord.risen]; done) | (rename Port => q; cases q <;> simp [Link.setPort, Link.port, PortRecord.dropped, PortRecord.risen]))

/-- `linkUpExpiry` leaves these records and fields as they stand. -/
@[simp] theorem linkUpExpiry_frame (p s) :
    (linkUpExpiry p s).pending = s.pending ∧ (linkUpExpiry p s).timebase = s.timebase ∧
    (linkUpExpiry p s).pins = s.pins ∧ (linkUpExpiry p s).spine.receivingU = s.spine.receivingU ∧
    (linkUpExpiry p s).spine.receivingD = s.spine.receivingD ∧ (linkUpExpiry p s).cycle = s.cycle ∧
    (linkUpExpiry p s).link.thresholds = s.link.thresholds ∧ (linkUpExpiry p s).link.test = s.link.test ∧
    (linkUpExpiry p s).link.testErrors = s.link.testErrors ∧ (linkUpExpiry p s).pose = s.pose ∧
    (linkUpExpiry p s).env.zones = s.env.zones ∧ (linkUpExpiry p s).stop.lines = s.stop.lines ∧
    (linkUpExpiry p s).stop.config = s.stop.config ∧ (linkUpExpiry p s).stop.gesture = s.stop.gesture ∧
    (linkUpExpiry p s).stop.lampMap = s.stop.lampMap ∧ (linkUpExpiry p s).stop.syncTimer = s.stop.syncTimer ∧
    (linkUpExpiry p s).stop.substituteTimer = s.stop.substituteTimer ∧
    (linkUpExpiry p s).stop.gripHeld = s.stop.gripHeld ∧ (linkUpExpiry p s).stop.consoleStop = s.stop.consoleStop ∧
    (linkUpExpiry p s).lens = s.lens ∧ (linkUpExpiry p s).cues = s.cues ∧
    (linkUpExpiry p s).mgmt.requests = s.mgmt.requests ∧ (linkUpExpiry p s).mgmt.erasing = s.mgmt.erasing ∧
    (linkUpExpiry p s).mgmt.reset = s.mgmt.reset ∧ (linkUpExpiry p s).mgmt.drops = s.mgmt.drops ∧
    (linkUpExpiry p s).mgmt.locked = s.mgmt.locked ∧ (linkUpExpiry p s).notices.config = s.notices.config := by
  unfold linkUpExpiry
  dsimp only
  repeat' split
  all_goals simp

/-- `holdExpiry` leaves these records and fields as they stand. -/
@[simp] theorem holdExpiry_frame (p s) :
    (holdExpiry p s).pending = s.pending ∧ (holdExpiry p s).timebase = s.timebase ∧ (holdExpiry p s).pins = s.pins ∧
    (holdExpiry p s).spine = s.spine ∧ (holdExpiry p s).cycle = s.cycle ∧
    (holdExpiry p s).link.thresholds = s.link.thresholds ∧ (holdExpiry p s).link.test = s.link.test ∧
    (holdExpiry p s).link.testErrors = s.link.testErrors ∧ (holdExpiry p s).link.u.state = s.link.u.state ∧
    (holdExpiry p s).link.d.state = s.link.d.state ∧ (holdExpiry p s).pose = s.pose ∧ (holdExpiry p s).env = s.env ∧
    (holdExpiry p s).gate = s.gate ∧ (holdExpiry p s).stop = s.stop ∧ (holdExpiry p s).lens = s.lens ∧
    (holdExpiry p s).store = s.store ∧ (holdExpiry p s).recorder = s.recorder ∧ (holdExpiry p s).player = s.player ∧
    (holdExpiry p s).cues = s.cues ∧ (holdExpiry p s).mgmt = s.mgmt ∧ (holdExpiry p s).notices = s.notices := by
  unfold holdExpiry
  try dsimp only
  repeat' split
  all_goals (first | (simp; done) | (simp [Link.setPort, Link.port, PortRecord.dropped, PortRecord.risen]; done) | (rename Port => q; cases q <;> simp [Link.setPort, Link.port, PortRecord.dropped, PortRecord.risen]))

/-- `testBit` leaves these records and fields as they stand. -/
@[simp] theorem testBit_frame (b s) :
    (testBit b s).pending = s.pending ∧ (testBit b s).timebase = s.timebase ∧ (testBit b s).pins = s.pins ∧
    (testBit b s).spine = s.spine ∧ (testBit b s).cycle = s.cycle ∧
    (testBit b s).link.thresholds = s.link.thresholds ∧ (testBit b s).link.u.state = s.link.u.state ∧
    (testBit b s).link.d.state = s.link.d.state ∧ (testBit b s).pose = s.pose ∧ (testBit b s).env = s.env ∧
    (testBit b s).gate = s.gate ∧ (testBit b s).stop = s.stop ∧ (testBit b s).lens = s.lens ∧
    (testBit b s).store = s.store ∧ (testBit b s).recorder = s.recorder ∧ (testBit b s).player = s.player ∧
    (testBit b s).cues = s.cues ∧ (testBit b s).mgmt = s.mgmt ∧ (testBit b s).notices = s.notices := by
  unfold testBit
  dsimp only
  repeat' split
  all_goals simp

/-- `startTest` leaves these records and fields as they stand. -/
@[simp] theorem startTest_frame (s) :
    (startTest s).2.pending = s.pending ∧ (startTest s).2.timebase = s.timebase ∧ (startTest s).2.pins = s.pins ∧
    (startTest s).2.spine.receivingU = s.spine.receivingU ∧ (startTest s).2.cycle = s.cycle ∧
    (startTest s).2.link.thresholds = s.link.thresholds ∧ (startTest s).2.pose = s.pose ∧
    (startTest s).2.env.zones = s.env.zones ∧ (startTest s).2.stop.lines = s.stop.lines ∧
    (startTest s).2.stop.config = s.stop.config ∧ (startTest s).2.stop.gesture = s.stop.gesture ∧
    (startTest s).2.stop.lampMap = s.stop.lampMap ∧ (startTest s).2.stop.syncTimer = s.stop.syncTimer ∧
    (startTest s).2.stop.substituteTimer = s.stop.substituteTimer ∧ (startTest s).2.stop.gripHeld = s.stop.gripHeld ∧
    (startTest s).2.stop.consoleStop = s.stop.consoleStop ∧ (startTest s).2.lens = s.lens ∧
    (startTest s).2.cues = s.cues ∧ (startTest s).2.mgmt.requests = s.mgmt.requests ∧
    (startTest s).2.mgmt.erasing = s.mgmt.erasing ∧ (startTest s).2.mgmt.reset = s.mgmt.reset ∧
    (startTest s).2.mgmt.drops = s.mgmt.drops ∧ (startTest s).2.mgmt.locked = s.mgmt.locked ∧
    (startTest s).2.notices.config = s.notices.config := by
  unfold startTest
  split <;> simp

/-- `stopTest` leaves these records and fields as they stand. -/
@[simp] theorem stopTest_frame (s) :
    (stopTest s).2.pending = s.pending ∧ (stopTest s).2.timebase = s.timebase ∧ (stopTest s).2.pins = s.pins ∧
    (stopTest s).2.spine.receivingU = s.spine.receivingU ∧ (stopTest s).2.spine.receivingD = s.spine.receivingD ∧
    (stopTest s).2.cycle = s.cycle ∧ (stopTest s).2.link.thresholds = s.link.thresholds ∧
    (stopTest s).2.link.testErrors = s.link.testErrors ∧ (stopTest s).2.pose = s.pose ∧
    (stopTest s).2.env.zones = s.env.zones ∧ (stopTest s).2.stop.lines = s.stop.lines ∧
    (stopTest s).2.stop.config = s.stop.config ∧ (stopTest s).2.stop.gesture = s.stop.gesture ∧
    (stopTest s).2.stop.lampMap = s.stop.lampMap ∧ (stopTest s).2.stop.syncTimer = s.stop.syncTimer ∧
    (stopTest s).2.stop.substituteTimer = s.stop.substituteTimer ∧ (stopTest s).2.stop.gripHeld = s.stop.gripHeld ∧
    (stopTest s).2.stop.consoleStop = s.stop.consoleStop ∧ (stopTest s).2.lens = s.lens ∧
    (stopTest s).2.cues = s.cues ∧ (stopTest s).2.mgmt.requests = s.mgmt.requests ∧
    (stopTest s).2.mgmt.erasing = s.mgmt.erasing ∧ (stopTest s).2.mgmt.reset = s.mgmt.reset ∧
    (stopTest s).2.mgmt.drops = s.mgmt.drops ∧ (stopTest s).2.mgmt.locked = s.mgmt.locked ∧
    (stopTest s).2.notices.config = s.notices.config := by
  unfold stopTest
  split <;> simp

/-- `fireAction` leaves these records and fields as they stand. -/
@[simp] theorem fireAction_frame (a s) :
    (fireAction a s).2.pending = s.pending ∧ (fireAction a s).2.timebase = s.timebase ∧
    (fireAction a s).2.pins = s.pins ∧ (fireAction a s).2.spine.receivingU = s.spine.receivingU ∧
    (fireAction a s).2.spine.receivingD = s.spine.receivingD ∧ (fireAction a s).2.cycle = s.cycle ∧
    (fireAction a s).2.link = s.link ∧ (fireAction a s).2.pose = s.pose ∧ (fireAction a s).2.env = s.env ∧
    (fireAction a s).2.gate = s.gate ∧ (fireAction a s).2.stop.lines = s.stop.lines ∧
    (fireAction a s).2.stop.present = s.stop.present ∧ (fireAction a s).2.stop.trip = s.stop.trip ∧
    (fireAction a s).2.stop.config = s.stop.config ∧ (fireAction a s).2.stop.gesture = s.stop.gesture ∧
    (fireAction a s).2.stop.lampMap = s.stop.lampMap ∧ (fireAction a s).2.stop.entryCycle = s.stop.entryCycle ∧
    (fireAction a s).2.stop.syncTimer = s.stop.syncTimer ∧
    (fireAction a s).2.stop.substituteTimer = s.stop.substituteTimer ∧
    (fireAction a s).2.stop.gripHeld = s.stop.gripHeld ∧ (fireAction a s).2.stop.consoleStop = s.stop.consoleStop ∧
    (fireAction a s).2.lens.curves = s.lens.curves ∧ (fireAction a s).2.lens.subjects = s.lens.subjects ∧
    (fireAction a s).2.cues = s.cues ∧ (fireAction a s).2.mgmt.requests = s.mgmt.requests ∧
    (fireAction a s).2.mgmt.erasing = s.mgmt.erasing ∧ (fireAction a s).2.mgmt.reset = s.mgmt.reset ∧
    (fireAction a s).2.mgmt.drops = s.mgmt.drops ∧ (fireAction a s).2.mgmt.locked = s.mgmt.locked ∧
    (fireAction a s).2.notices.config = s.notices.config := by
  unfold fireAction
  split <;> simp

/-- `fire` leaves these records and fields as they stand. -/
@[simp] theorem fire_frame (n a s) :
    (fire n a s).pending = s.pending ∧ (fire n a s).timebase = s.timebase ∧ (fire n a s).pins = s.pins ∧
    (fire n a s).spine.receivingU = s.spine.receivingU ∧ (fire n a s).spine.receivingD = s.spine.receivingD ∧
    (fire n a s).cycle = s.cycle ∧ (fire n a s).link = s.link ∧ (fire n a s).pose = s.pose ∧
    (fire n a s).env = s.env ∧ (fire n a s).gate = s.gate ∧ (fire n a s).stop.lines = s.stop.lines ∧
    (fire n a s).stop.present = s.stop.present ∧ (fire n a s).stop.trip = s.stop.trip ∧
    (fire n a s).stop.config = s.stop.config ∧ (fire n a s).stop.gesture = s.stop.gesture ∧
    (fire n a s).stop.lampMap = s.stop.lampMap ∧ (fire n a s).stop.entryCycle = s.stop.entryCycle ∧
    (fire n a s).stop.syncTimer = s.stop.syncTimer ∧ (fire n a s).stop.substituteTimer = s.stop.substituteTimer ∧
    (fire n a s).stop.gripHeld = s.stop.gripHeld ∧ (fire n a s).stop.consoleStop = s.stop.consoleStop ∧
    (fire n a s).lens.curves = s.lens.curves ∧ (fire n a s).lens.subjects = s.lens.subjects ∧
    (fire n a s).cues = s.cues ∧ (fire n a s).mgmt.requests = s.mgmt.requests ∧
    (fire n a s).mgmt.erasing = s.mgmt.erasing ∧ (fire n a s).mgmt.reset = s.mgmt.reset ∧
    (fire n a s).mgmt.drops = s.mgmt.drops ∧ (fire n a s).mgmt.locked = s.mgmt.locked ∧
    (fire n a s).notices.config = s.notices.config := by
  unfold fire
  simp

/-- `setProgress` leaves these records and fields as they stand. -/
@[simp] theorem setProgress_frame (n p s) :
    (setProgress n p s).pending = s.pending ∧ (setProgress n p s).timebase = s.timebase ∧
    (setProgress n p s).pins = s.pins ∧ (setProgress n p s).spine = s.spine ∧ (setProgress n p s).cycle = s.cycle ∧
    (setProgress n p s).link = s.link ∧ (setProgress n p s).pose = s.pose ∧ (setProgress n p s).env = s.env ∧
    (setProgress n p s).gate = s.gate ∧ (setProgress n p s).stop = s.stop ∧ (setProgress n p s).lens = s.lens ∧
    (setProgress n p s).store = s.store ∧ (setProgress n p s).recorder = s.recorder ∧
    (setProgress n p s).player = s.player ∧ (setProgress n p s).mgmt = s.mgmt ∧
    (setProgress n p s).notices = s.notices := by
  unfold setProgress
  simp

/-- `updateSlot` leaves these records and fields as they stand. -/
@[simp] theorem updateSlot_frame (b s n) :
    (updateSlot b s n).pending = s.pending ∧ (updateSlot b s n).timebase = s.timebase ∧
    (updateSlot b s n).pins = s.pins ∧ (updateSlot b s n).spine.receivingU = s.spine.receivingU ∧
    (updateSlot b s n).spine.receivingD = s.spine.receivingD ∧ (updateSlot b s n).cycle = s.cycle ∧
    (updateSlot b s n).link = s.link ∧ (updateSlot b s n).pose = s.pose ∧ (updateSlot b s n).env = s.env ∧
    (updateSlot b s n).gate = s.gate ∧ (updateSlot b s n).stop.lines = s.stop.lines ∧
    (updateSlot b s n).stop.present = s.stop.present ∧ (updateSlot b s n).stop.trip = s.stop.trip ∧
    (updateSlot b s n).stop.config = s.stop.config ∧ (updateSlot b s n).stop.gesture = s.stop.gesture ∧
    (updateSlot b s n).stop.lampMap = s.stop.lampMap ∧ (updateSlot b s n).stop.entryCycle = s.stop.entryCycle ∧
    (updateSlot b s n).stop.syncTimer = s.stop.syncTimer ∧
    (updateSlot b s n).stop.substituteTimer = s.stop.substituteTimer ∧
    (updateSlot b s n).stop.gripHeld = s.stop.gripHeld ∧ (updateSlot b s n).stop.consoleStop = s.stop.consoleStop ∧
    (updateSlot b s n).lens.curves = s.lens.curves ∧ (updateSlot b s n).lens.subjects = s.lens.subjects ∧
    (updateSlot b s n).mgmt.requests = s.mgmt.requests ∧ (updateSlot b s n).mgmt.erasing = s.mgmt.erasing ∧
    (updateSlot b s n).mgmt.reset = s.mgmt.reset ∧ (updateSlot b s n).mgmt.drops = s.mgmt.drops ∧
    (updateSlot b s n).mgmt.locked = s.mgmt.locked ∧ (updateSlot b s n).notices.config = s.notices.config := by
  unfold updateSlot
  dsimp only
  repeat' split
  all_goals simp

/-- The fold of `cueByte` leaves these records and fields as they stand. -/
@[simp] theorem cueByte_fold (b) (s) (l : List (Fin 8)) :
    (List.foldl (updateSlot b) s l).pending = s.pending ∧ (List.foldl (updateSlot b) s l).timebase = s.timebase ∧
    (List.foldl (updateSlot b) s l).pins = s.pins ∧
    (List.foldl (updateSlot b) s l).spine.receivingU = s.spine.receivingU ∧
    (List.foldl (updateSlot b) s l).spine.receivingD = s.spine.receivingD ∧
    (List.foldl (updateSlot b) s l).cycle = s.cycle ∧ (List.foldl (updateSlot b) s l).link = s.link ∧
    (List.foldl (updateSlot b) s l).pose = s.pose ∧ (List.foldl (updateSlot b) s l).env = s.env ∧
    (List.foldl (updateSlot b) s l).gate = s.gate ∧ (List.foldl (updateSlot b) s l).stop.lines = s.stop.lines ∧
    (List.foldl (updateSlot b) s l).stop.present = s.stop.present ∧
    (List.foldl (updateSlot b) s l).stop.trip = s.stop.trip ∧
    (List.foldl (updateSlot b) s l).stop.config = s.stop.config ∧
    (List.foldl (updateSlot b) s l).stop.gesture = s.stop.gesture ∧
    (List.foldl (updateSlot b) s l).stop.lampMap = s.stop.lampMap ∧
    (List.foldl (updateSlot b) s l).stop.entryCycle = s.stop.entryCycle ∧
    (List.foldl (updateSlot b) s l).stop.syncTimer = s.stop.syncTimer ∧
    (List.foldl (updateSlot b) s l).stop.substituteTimer = s.stop.substituteTimer ∧
    (List.foldl (updateSlot b) s l).stop.gripHeld = s.stop.gripHeld ∧
    (List.foldl (updateSlot b) s l).stop.consoleStop = s.stop.consoleStop ∧
    (List.foldl (updateSlot b) s l).lens.curves = s.lens.curves ∧
    (List.foldl (updateSlot b) s l).lens.subjects = s.lens.subjects ∧
    (List.foldl (updateSlot b) s l).mgmt.requests = s.mgmt.requests ∧
    (List.foldl (updateSlot b) s l).mgmt.erasing = s.mgmt.erasing ∧
    (List.foldl (updateSlot b) s l).mgmt.reset = s.mgmt.reset ∧
    (List.foldl (updateSlot b) s l).mgmt.drops = s.mgmt.drops ∧
    (List.foldl (updateSlot b) s l).mgmt.locked = s.mgmt.locked ∧
    (List.foldl (updateSlot b) s l).notices.config = s.notices.config := by
  induction l generalizing s with
  | nil => simp
  | cons head tail ih =>
    rw [List.foldl_cons]
    simp [ih]

/-- `cueByte` leaves these records and fields as they stand. -/
@[simp] theorem cueByte_frame (s b) :
    (cueByte s b).pending = s.pending ∧ (cueByte s b).timebase = s.timebase ∧ (cueByte s b).pins = s.pins ∧
    (cueByte s b).spine.receivingU = s.spine.receivingU ∧ (cueByte s b).spine.receivingD = s.spine.receivingD ∧
    (cueByte s b).cycle = s.cycle ∧ (cueByte s b).link = s.link ∧ (cueByte s b).pose = s.pose ∧
    (cueByte s b).env = s.env ∧ (cueByte s b).gate = s.gate ∧ (cueByte s b).stop.lines = s.stop.lines ∧
    (cueByte s b).stop.present = s.stop.present ∧ (cueByte s b).stop.trip = s.stop.trip ∧
    (cueByte s b).stop.config = s.stop.config ∧ (cueByte s b).stop.gesture = s.stop.gesture ∧
    (cueByte s b).stop.lampMap = s.stop.lampMap ∧ (cueByte s b).stop.entryCycle = s.stop.entryCycle ∧
    (cueByte s b).stop.syncTimer = s.stop.syncTimer ∧ (cueByte s b).stop.substituteTimer = s.stop.substituteTimer ∧
    (cueByte s b).stop.gripHeld = s.stop.gripHeld ∧ (cueByte s b).stop.consoleStop = s.stop.consoleStop ∧
    (cueByte s b).lens.curves = s.lens.curves ∧ (cueByte s b).lens.subjects = s.lens.subjects ∧
    (cueByte s b).mgmt.requests = s.mgmt.requests ∧ (cueByte s b).mgmt.erasing = s.mgmt.erasing ∧
    (cueByte s b).mgmt.reset = s.mgmt.reset ∧ (cueByte s b).mgmt.drops = s.mgmt.drops ∧
    (cueByte s b).mgmt.locked = s.mgmt.locked ∧ (cueByte s b).notices.config = s.notices.config := by
  unfold cueByte
  simp

/-- The fold of `cueArrival` leaves these records and fields as they stand. -/
@[simp] theorem cueArrival_fold (s) (l : List Byte) :
    (List.foldl cueByte s l).pending = s.pending ∧ (List.foldl cueByte s l).timebase = s.timebase ∧
    (List.foldl cueByte s l).pins = s.pins ∧ (List.foldl cueByte s l).spine.receivingU = s.spine.receivingU ∧
    (List.foldl cueByte s l).spine.receivingD = s.spine.receivingD ∧ (List.foldl cueByte s l).cycle = s.cycle ∧
    (List.foldl cueByte s l).link = s.link ∧ (List.foldl cueByte s l).pose = s.pose ∧
    (List.foldl cueByte s l).env = s.env ∧ (List.foldl cueByte s l).gate = s.gate ∧
    (List.foldl cueByte s l).stop.lines = s.stop.lines ∧ (List.foldl cueByte s l).stop.present = s.stop.present ∧
    (List.foldl cueByte s l).stop.trip = s.stop.trip ∧ (List.foldl cueByte s l).stop.config = s.stop.config ∧
    (List.foldl cueByte s l).stop.gesture = s.stop.gesture ∧ (List.foldl cueByte s l).stop.lampMap = s.stop.lampMap ∧
    (List.foldl cueByte s l).stop.entryCycle = s.stop.entryCycle ∧
    (List.foldl cueByte s l).stop.syncTimer = s.stop.syncTimer ∧
    (List.foldl cueByte s l).stop.substituteTimer = s.stop.substituteTimer ∧
    (List.foldl cueByte s l).stop.gripHeld = s.stop.gripHeld ∧
    (List.foldl cueByte s l).stop.consoleStop = s.stop.consoleStop ∧
    (List.foldl cueByte s l).lens.curves = s.lens.curves ∧ (List.foldl cueByte s l).lens.subjects = s.lens.subjects ∧
    (List.foldl cueByte s l).mgmt.requests = s.mgmt.requests ∧
    (List.foldl cueByte s l).mgmt.erasing = s.mgmt.erasing ∧ (List.foldl cueByte s l).mgmt.reset = s.mgmt.reset ∧
    (List.foldl cueByte s l).mgmt.drops = s.mgmt.drops ∧ (List.foldl cueByte s l).mgmt.locked = s.mgmt.locked ∧
    (List.foldl cueByte s l).notices.config = s.notices.config := by
  induction l generalizing s with
  | nil => simp
  | cons head tail ih =>
    rw [List.foldl_cons]
    simp [ih]

/-- `cueArrival` leaves these records and fields as they stand. -/
@[simp] theorem cueArrival_frame (c s) :
    (cueArrival c s).pending = s.pending ∧ (cueArrival c s).timebase = s.timebase ∧ (cueArrival c s).pins = s.pins ∧
    (cueArrival c s).spine.receivingU = s.spine.receivingU ∧ (cueArrival c s).spine.receivingD = s.spine.receivingD ∧
    (cueArrival c s).cycle = s.cycle ∧ (cueArrival c s).link = s.link ∧ (cueArrival c s).pose = s.pose ∧
    (cueArrival c s).env = s.env ∧ (cueArrival c s).gate = s.gate ∧ (cueArrival c s).stop.lines = s.stop.lines ∧
    (cueArrival c s).stop.present = s.stop.present ∧ (cueArrival c s).stop.trip = s.stop.trip ∧
    (cueArrival c s).stop.config = s.stop.config ∧ (cueArrival c s).stop.gesture = s.stop.gesture ∧
    (cueArrival c s).stop.lampMap = s.stop.lampMap ∧ (cueArrival c s).stop.entryCycle = s.stop.entryCycle ∧
    (cueArrival c s).stop.syncTimer = s.stop.syncTimer ∧
    (cueArrival c s).stop.substituteTimer = s.stop.substituteTimer ∧
    (cueArrival c s).stop.gripHeld = s.stop.gripHeld ∧ (cueArrival c s).stop.consoleStop = s.stop.consoleStop ∧
    (cueArrival c s).lens.curves = s.lens.curves ∧ (cueArrival c s).lens.subjects = s.lens.subjects ∧
    (cueArrival c s).mgmt.requests = s.mgmt.requests ∧ (cueArrival c s).mgmt.erasing = s.mgmt.erasing ∧
    (cueArrival c s).mgmt.reset = s.mgmt.reset ∧ (cueArrival c s).mgmt.drops = s.mgmt.drops ∧
    (cueArrival c s).mgmt.locked = s.mgmt.locked ∧ (cueArrival c s).notices.config = s.notices.config := by
  unfold cueArrival
  simp

/-- `resetProgress` leaves these records and fields as they stand. -/
@[simp] theorem resetProgress_frame (s) :
    (resetProgress s).pending = s.pending ∧ (resetProgress s).timebase = s.timebase ∧
    (resetProgress s).pins = s.pins ∧ (resetProgress s).spine = s.spine ∧ (resetProgress s).cycle = s.cycle ∧
    (resetProgress s).link = s.link ∧ (resetProgress s).pose = s.pose ∧ (resetProgress s).env = s.env ∧
    (resetProgress s).gate = s.gate ∧ (resetProgress s).stop = s.stop ∧ (resetProgress s).lens = s.lens ∧
    (resetProgress s).store = s.store ∧ (resetProgress s).recorder = s.recorder ∧
    (resetProgress s).player = s.player ∧ (resetProgress s).mgmt = s.mgmt ∧ (resetProgress s).notices = s.notices := by
  unfold resetProgress
  simp

/-- `cycTaken` leaves these records and fields as they stand. -/
@[simp] theorem cycTaken_frame (a s b) :
    (cycTaken a s b).pending = s.pending ∧ (cycTaken a s b).timebase = s.timebase ∧ (cycTaken a s b).pins = s.pins ∧
    (cycTaken a s b).spine.receivingU = s.spine.receivingU ∧ (cycTaken a s b).spine.receivingD = s.spine.receivingD ∧
    (cycTaken a s b).link.thresholds = s.link.thresholds ∧ (cycTaken a s b).link.test = s.link.test ∧
    (cycTaken a s b).link.testErrors = s.link.testErrors ∧ (cycTaken a s b).link.u.state = s.link.u.state ∧
    (cycTaken a s b).link.d.state = s.link.d.state ∧ (cycTaken a s b).pose.axes = s.pose.axes ∧
    (cycTaken a s b).pose.geometry = s.pose.geometry ∧ (cycTaken a s b).env = s.env ∧
    (cycTaken a s b).stop.lines = s.stop.lines ∧ (cycTaken a s b).stop.config = s.stop.config ∧
    (cycTaken a s b).stop.gesture = s.stop.gesture ∧ (cycTaken a s b).stop.lampMap = s.stop.lampMap ∧
    (cycTaken a s b).lens.curves = s.lens.curves ∧ (cycTaken a s b).lens.subjects = s.lens.subjects ∧
    (cycTaken a s b).mgmt.requests = s.mgmt.requests ∧ (cycTaken a s b).mgmt.erasing = s.mgmt.erasing ∧
    (cycTaken a s b).mgmt.reset = s.mgmt.reset ∧ (cycTaken a s b).mgmt.drops = s.mgmt.drops ∧
    (cycTaken a s b).mgmt.locked = s.mgmt.locked ∧ (cycTaken a s b).notices.config = s.notices.config := by
  unfold cycTaken
  repeat' split
  all_goals simp

/-- The fold of `dispatchCyc` leaves these records and fields as they stand. -/
@[simp] theorem cycTaken_fold (a) (s) (l : List CycBlock) :
    (List.foldl (cycTaken a) s l).pending = s.pending ∧ (List.foldl (cycTaken a) s l).timebase = s.timebase ∧
    (List.foldl (cycTaken a) s l).pins = s.pins ∧
    (List.foldl (cycTaken a) s l).spine.receivingU = s.spine.receivingU ∧
    (List.foldl (cycTaken a) s l).spine.receivingD = s.spine.receivingD ∧
    (List.foldl (cycTaken a) s l).link.thresholds = s.link.thresholds ∧
    (List.foldl (cycTaken a) s l).link.test = s.link.test ∧
    (List.foldl (cycTaken a) s l).link.testErrors = s.link.testErrors ∧
    (List.foldl (cycTaken a) s l).link.u.state = s.link.u.state ∧
    (List.foldl (cycTaken a) s l).link.d.state = s.link.d.state ∧
    (List.foldl (cycTaken a) s l).pose.axes = s.pose.axes ∧
    (List.foldl (cycTaken a) s l).pose.geometry = s.pose.geometry ∧ (List.foldl (cycTaken a) s l).env = s.env ∧
    (List.foldl (cycTaken a) s l).stop.lines = s.stop.lines ∧
    (List.foldl (cycTaken a) s l).stop.config = s.stop.config ∧
    (List.foldl (cycTaken a) s l).stop.gesture = s.stop.gesture ∧
    (List.foldl (cycTaken a) s l).stop.lampMap = s.stop.lampMap ∧
    (List.foldl (cycTaken a) s l).lens.curves = s.lens.curves ∧
    (List.foldl (cycTaken a) s l).lens.subjects = s.lens.subjects ∧
    (List.foldl (cycTaken a) s l).mgmt.requests = s.mgmt.requests ∧
    (List.foldl (cycTaken a) s l).mgmt.erasing = s.mgmt.erasing ∧
    (List.foldl (cycTaken a) s l).mgmt.reset = s.mgmt.reset ∧
    (List.foldl (cycTaken a) s l).mgmt.drops = s.mgmt.drops ∧
    (List.foldl (cycTaken a) s l).mgmt.locked = s.mgmt.locked ∧
    (List.foldl (cycTaken a) s l).notices.config = s.notices.config := by
  induction l generalizing s with
  | nil => simp
  | cons head tail ih =>
    rw [List.foldl_cons]
    simp [ih]

/-- `dispatchCyc` leaves these records and fields as they stand. -/
@[simp] theorem dispatchCyc_frame (p o f a s) :
    (dispatchCyc p o f a s).pending = s.pending ∧ (dispatchCyc p o f a s).timebase = s.timebase ∧
    (dispatchCyc p o f a s).pins = s.pins ∧ (dispatchCyc p o f a s).spine.receivingU = s.spine.receivingU ∧
    (dispatchCyc p o f a s).spine.receivingD = s.spine.receivingD ∧
    (dispatchCyc p o f a s).link.thresholds = s.link.thresholds ∧ (dispatchCyc p o f a s).link.test = s.link.test ∧
    (dispatchCyc p o f a s).link.testErrors = s.link.testErrors ∧
    (dispatchCyc p o f a s).link.u.state = s.link.u.state ∧ (dispatchCyc p o f a s).link.d.state = s.link.d.state ∧
    (dispatchCyc p o f a s).pose.axes = s.pose.axes ∧ (dispatchCyc p o f a s).pose.geometry = s.pose.geometry ∧
    (dispatchCyc p o f a s).env = s.env ∧ (dispatchCyc p o f a s).stop.lines = s.stop.lines ∧
    (dispatchCyc p o f a s).stop.config = s.stop.config ∧ (dispatchCyc p o f a s).stop.gesture = s.stop.gesture ∧
    (dispatchCyc p o f a s).stop.lampMap = s.stop.lampMap ∧ (dispatchCyc p o f a s).lens.curves = s.lens.curves ∧
    (dispatchCyc p o f a s).lens.subjects = s.lens.subjects ∧
    (dispatchCyc p o f a s).mgmt.requests = s.mgmt.requests ∧ (dispatchCyc p o f a s).mgmt.erasing = s.mgmt.erasing ∧
    (dispatchCyc p o f a s).mgmt.reset = s.mgmt.reset ∧ (dispatchCyc p o f a s).mgmt.drops = s.mgmt.drops ∧
    (dispatchCyc p o f a s).mgmt.locked = s.mgmt.locked ∧ (dispatchCyc p o f a s).notices.config = s.notices.config := by
  unfold dispatchCyc
  split <;> simp

/-- `cycArrives` leaves these records and fields as they stand. -/
@[simp] theorem cycArrives_frame (p o f s) :
    (cycArrives p o f s).pending = s.pending ∧ (cycArrives p o f s).timebase = s.timebase ∧
    (cycArrives p o f s).pins = s.pins ∧ (cycArrives p o f s).spine.receivingU = s.spine.receivingU ∧
    (cycArrives p o f s).spine.receivingD = s.spine.receivingD ∧
    (cycArrives p o f s).link.thresholds = s.link.thresholds ∧ (cycArrives p o f s).link.test = s.link.test ∧
    (cycArrives p o f s).link.testErrors = s.link.testErrors ∧ (cycArrives p o f s).link.u.state = s.link.u.state ∧
    (cycArrives p o f s).link.d.state = s.link.d.state ∧ (cycArrives p o f s).pose.axes = s.pose.axes ∧
    (cycArrives p o f s).pose.geometry = s.pose.geometry ∧ (cycArrives p o f s).env = s.env ∧
    (cycArrives p o f s).stop.lines = s.stop.lines ∧ (cycArrives p o f s).stop.config = s.stop.config ∧
    (cycArrives p o f s).stop.gesture = s.stop.gesture ∧ (cycArrives p o f s).stop.lampMap = s.stop.lampMap ∧
    (cycArrives p o f s).lens.curves = s.lens.curves ∧ (cycArrives p o f s).lens.subjects = s.lens.subjects ∧
    (cycArrives p o f s).mgmt.requests = s.mgmt.requests ∧ (cycArrives p o f s).mgmt.erasing = s.mgmt.erasing ∧
    (cycArrives p o f s).mgmt.reset = s.mgmt.reset ∧ (cycArrives p o f s).mgmt.drops = s.mgmt.drops ∧
    (cycArrives p o f s).mgmt.locked = s.mgmt.locked ∧ (cycArrives p o f s).notices.config = s.notices.config := by
  unfold cycArrives
  dsimp only
  repeat' split
  all_goals simp

/-- `originate` leaves these records and fields as they stand. -/
@[simp] theorem originate_frame (o s) :
    (originate o s).pending = s.pending ∧ (originate o s).timebase = s.timebase ∧ (originate o s).pins = s.pins ∧
    (originate o s).spine.receivingU = s.spine.receivingU ∧ (originate o s).spine.receivingD = s.spine.receivingD ∧
    (originate o s).link.thresholds = s.link.thresholds ∧ (originate o s).link.test = s.link.test ∧
    (originate o s).link.testErrors = s.link.testErrors ∧ (originate o s).link.u.state = s.link.u.state ∧
    (originate o s).link.d.state = s.link.d.state ∧ (originate o s).pose.axes = s.pose.axes ∧
    (originate o s).pose.geometry = s.pose.geometry ∧ (originate o s).env = s.env ∧
    (originate o s).stop.lines = s.stop.lines ∧ (originate o s).stop.config = s.stop.config ∧
    (originate o s).stop.gesture = s.stop.gesture ∧ (originate o s).stop.lampMap = s.stop.lampMap ∧
    (originate o s).lens.curves = s.lens.curves ∧ (originate o s).lens.subjects = s.lens.subjects ∧
    (originate o s).mgmt.requests = s.mgmt.requests ∧ (originate o s).mgmt.erasing = s.mgmt.erasing ∧
    (originate o s).mgmt.reset = s.mgmt.reset ∧ (originate o s).mgmt.drops = s.mgmt.drops ∧
    (originate o s).mgmt.locked = s.mgmt.locked ∧ (originate o s).notices.config = s.notices.config := by
  unfold originate
  simp

/-- `setArrives` leaves these records and fields as they stand. -/
@[simp] theorem setArrives_frame (f s) :
    (setArrives f s).pending = s.pending ∧ (setArrives f s).timebase = s.timebase ∧ (setArrives f s).pins = s.pins ∧
    (setArrives f s).spine.receivingU = s.spine.receivingU ∧ (setArrives f s).spine.receivingD = s.spine.receivingD ∧
    (setArrives f s).link.thresholds = s.link.thresholds ∧ (setArrives f s).link.test = s.link.test ∧
    (setArrives f s).link.testErrors = s.link.testErrors ∧ (setArrives f s).link.u.state = s.link.u.state ∧
    (setArrives f s).link.d.state = s.link.d.state ∧ (setArrives f s).pose = s.pose ∧ (setArrives f s).env = s.env ∧
    (setArrives f s).stop.lines = s.stop.lines ∧ (setArrives f s).stop.present = s.stop.present ∧
    (setArrives f s).stop.trip = s.stop.trip ∧ (setArrives f s).stop.config = s.stop.config ∧
    (setArrives f s).stop.gesture = s.stop.gesture ∧ (setArrives f s).stop.lampMap = s.stop.lampMap ∧
    (setArrives f s).stop.entryCycle = s.stop.entryCycle ∧ (setArrives f s).stop.syncTimer = s.stop.syncTimer ∧
    (setArrives f s).stop.substituteTimer = s.stop.substituteTimer ∧
    (setArrives f s).stop.gripHeld = s.stop.gripHeld ∧ (setArrives f s).stop.consoleStop = s.stop.consoleStop ∧
    (setArrives f s).lens.curves = s.lens.curves ∧ (setArrives f s).lens.subjects = s.lens.subjects ∧
    (setArrives f s).cues = s.cues ∧ (setArrives f s).mgmt.requests = s.mgmt.requests ∧
    (setArrives f s).mgmt.erasing = s.mgmt.erasing ∧ (setArrives f s).mgmt.reset = s.mgmt.reset ∧
    (setArrives f s).mgmt.drops = s.mgmt.drops ∧ (setArrives f s).mgmt.locked = s.mgmt.locked ∧
    (setArrives f s).notices.config = s.notices.config := by
  unfold setArrives
  dsimp only
  repeat' split
  all_goals simp

/-- `fbkTaken` leaves these records and fields as they stand. -/
@[simp] theorem fbkTaken_frame (e k x s b) :
    (fbkTaken e k x s b).pending = s.pending ∧ (fbkTaken e k x s b).timebase = s.timebase ∧
    (fbkTaken e k x s b).pins = s.pins ∧ (fbkTaken e k x s b).spine.receivingU = s.spine.receivingU ∧
    (fbkTaken e k x s b).spine.receivingD = s.spine.receivingD ∧
    (fbkTaken e k x s b).link.thresholds = s.link.thresholds ∧ (fbkTaken e k x s b).link.test = s.link.test ∧
    (fbkTaken e k x s b).link.testErrors = s.link.testErrors ∧ (fbkTaken e k x s b).link.u.state = s.link.u.state ∧
    (fbkTaken e k x s b).link.d.state = s.link.d.state ∧ (fbkTaken e k x s b).pose.axes = s.pose.axes ∧
    (fbkTaken e k x s b).pose.geometry = s.pose.geometry ∧ (fbkTaken e k x s b).env.zones = s.env.zones ∧
    (fbkTaken e k x s b).stop.lines = s.stop.lines ∧ (fbkTaken e k x s b).stop.config = s.stop.config ∧
    (fbkTaken e k x s b).stop.gesture = s.stop.gesture ∧ (fbkTaken e k x s b).stop.lampMap = s.stop.lampMap ∧
    (fbkTaken e k x s b).stop.syncTimer = s.stop.syncTimer ∧
    (fbkTaken e k x s b).stop.substituteTimer = s.stop.substituteTimer ∧
    (fbkTaken e k x s b).stop.gripHeld = s.stop.gripHeld ∧
    (fbkTaken e k x s b).stop.consoleStop = s.stop.consoleStop ∧ (fbkTaken e k x s b).lens.curves = s.lens.curves ∧
    (fbkTaken e k x s b).lens.subjects = s.lens.subjects ∧ (fbkTaken e k x s b).cues = s.cues ∧
    (fbkTaken e k x s b).mgmt.requests = s.mgmt.requests ∧ (fbkTaken e k x s b).mgmt.erasing = s.mgmt.erasing ∧
    (fbkTaken e k x s b).mgmt.reset = s.mgmt.reset ∧ (fbkTaken e k x s b).mgmt.drops = s.mgmt.drops ∧
    (fbkTaken e k x s b).mgmt.locked = s.mgmt.locked ∧ (fbkTaken e k x s b).notices.config = s.notices.config := by
  unfold fbkTaken
  repeat' split
  all_goals simp

/-- The fold of `fbkArrives` leaves these records and fields as they stand. -/
@[simp] theorem fbkTaken_fold (e) (k) (x) (s) (l : List FbkBlock) :
    (List.foldl (fbkTaken e k x) s l).pending = s.pending ∧ (List.foldl (fbkTaken e k x) s l).timebase = s.timebase ∧
    (List.foldl (fbkTaken e k x) s l).pins = s.pins ∧
    (List.foldl (fbkTaken e k x) s l).spine.receivingU = s.spine.receivingU ∧
    (List.foldl (fbkTaken e k x) s l).spine.receivingD = s.spine.receivingD ∧
    (List.foldl (fbkTaken e k x) s l).link.thresholds = s.link.thresholds ∧
    (List.foldl (fbkTaken e k x) s l).link.test = s.link.test ∧
    (List.foldl (fbkTaken e k x) s l).link.testErrors = s.link.testErrors ∧
    (List.foldl (fbkTaken e k x) s l).link.u.state = s.link.u.state ∧
    (List.foldl (fbkTaken e k x) s l).link.d.state = s.link.d.state ∧
    (List.foldl (fbkTaken e k x) s l).pose.axes = s.pose.axes ∧
    (List.foldl (fbkTaken e k x) s l).pose.geometry = s.pose.geometry ∧
    (List.foldl (fbkTaken e k x) s l).env.zones = s.env.zones ∧
    (List.foldl (fbkTaken e k x) s l).stop.lines = s.stop.lines ∧
    (List.foldl (fbkTaken e k x) s l).stop.config = s.stop.config ∧
    (List.foldl (fbkTaken e k x) s l).stop.gesture = s.stop.gesture ∧
    (List.foldl (fbkTaken e k x) s l).stop.lampMap = s.stop.lampMap ∧
    (List.foldl (fbkTaken e k x) s l).stop.syncTimer = s.stop.syncTimer ∧
    (List.foldl (fbkTaken e k x) s l).stop.substituteTimer = s.stop.substituteTimer ∧
    (List.foldl (fbkTaken e k x) s l).stop.gripHeld = s.stop.gripHeld ∧
    (List.foldl (fbkTaken e k x) s l).stop.consoleStop = s.stop.consoleStop ∧
    (List.foldl (fbkTaken e k x) s l).lens.curves = s.lens.curves ∧
    (List.foldl (fbkTaken e k x) s l).lens.subjects = s.lens.subjects ∧
    (List.foldl (fbkTaken e k x) s l).cues = s.cues ∧
    (List.foldl (fbkTaken e k x) s l).mgmt.requests = s.mgmt.requests ∧
    (List.foldl (fbkTaken e k x) s l).mgmt.erasing = s.mgmt.erasing ∧
    (List.foldl (fbkTaken e k x) s l).mgmt.reset = s.mgmt.reset ∧
    (List.foldl (fbkTaken e k x) s l).mgmt.drops = s.mgmt.drops ∧
    (List.foldl (fbkTaken e k x) s l).mgmt.locked = s.mgmt.locked ∧
    (List.foldl (fbkTaken e k x) s l).notices.config = s.notices.config := by
  induction l generalizing s with
  | nil => simp
  | cons head tail ih =>
    rw [List.foldl_cons]
    simp [ih]

/-- `fbkArrives` leaves these records and fields as they stand. -/
@[simp] theorem fbkArrives_frame (o f s) :
    (fbkArrives o f s).pending = s.pending ∧ (fbkArrives o f s).timebase = s.timebase ∧
    (fbkArrives o f s).pins = s.pins ∧ (fbkArrives o f s).spine.receivingU = s.spine.receivingU ∧
    (fbkArrives o f s).spine.receivingD = s.spine.receivingD ∧
    (fbkArrives o f s).link.thresholds = s.link.thresholds ∧ (fbkArrives o f s).link.test = s.link.test ∧
    (fbkArrives o f s).link.testErrors = s.link.testErrors ∧ (fbkArrives o f s).link.u.state = s.link.u.state ∧
    (fbkArrives o f s).link.d.state = s.link.d.state ∧ (fbkArrives o f s).pose.axes = s.pose.axes ∧
    (fbkArrives o f s).pose.geometry = s.pose.geometry ∧ (fbkArrives o f s).env.zones = s.env.zones ∧
    (fbkArrives o f s).stop.lines = s.stop.lines ∧ (fbkArrives o f s).stop.config = s.stop.config ∧
    (fbkArrives o f s).stop.gesture = s.stop.gesture ∧ (fbkArrives o f s).stop.lampMap = s.stop.lampMap ∧
    (fbkArrives o f s).stop.syncTimer = s.stop.syncTimer ∧
    (fbkArrives o f s).stop.substituteTimer = s.stop.substituteTimer ∧
    (fbkArrives o f s).stop.gripHeld = s.stop.gripHeld ∧ (fbkArrives o f s).stop.consoleStop = s.stop.consoleStop ∧
    (fbkArrives o f s).lens.curves = s.lens.curves ∧ (fbkArrives o f s).lens.subjects = s.lens.subjects ∧
    (fbkArrives o f s).cues = s.cues ∧ (fbkArrives o f s).mgmt.requests = s.mgmt.requests ∧
    (fbkArrives o f s).mgmt.erasing = s.mgmt.erasing ∧ (fbkArrives o f s).mgmt.reset = s.mgmt.reset ∧
    (fbkArrives o f s).mgmt.drops = s.mgmt.drops ∧ (fbkArrives o f s).mgmt.locked = s.mgmt.locked ∧
    (fbkArrives o f s).notices.config = s.notices.config := by
  unfold fbkArrives
  split <;> simp

/-- `offerRequest` leaves these records and fields as they stand. -/
@[simp] theorem offerRequest_frame (r s) :
    (offerRequest r s).pending = s.pending ∧ (offerRequest r s).timebase = s.timebase ∧ (offerRequest r s).pins = s.pins ∧
    (offerRequest r s).spine = s.spine ∧ (offerRequest r s).cycle = s.cycle ∧ (offerRequest r s).link = s.link ∧
    (offerRequest r s).pose = s.pose ∧ (offerRequest r s).env = s.env ∧ (offerRequest r s).gate = s.gate ∧ (offerRequest r s).stop = s.stop ∧
    (offerRequest r s).lens = s.lens ∧ (offerRequest r s).store = s.store ∧ (offerRequest r s).recorder = s.recorder ∧
    (offerRequest r s).player = s.player ∧ (offerRequest r s).cues = s.cues ∧ (offerRequest r s).mgmt.erasing = s.mgmt.erasing ∧
    (offerRequest r s).mgmt.reset = s.mgmt.reset ∧ (offerRequest r s).mgmt.locked = s.mgmt.locked ∧ (offerRequest r s).notices = s.notices := by
  unfold offerRequest
  split <;> simp

/-- `mgtArrives` leaves these records and fields as they stand. -/
@[simp] theorem mgtArrives_frame (st f s) :
    (mgtArrives st f s).pending = s.pending ∧ (mgtArrives st f s).timebase = s.timebase ∧
    (mgtArrives st f s).pins = s.pins ∧ (mgtArrives st f s).spine.receivingU = s.spine.receivingU ∧
    (mgtArrives st f s).spine.receivingD = s.spine.receivingD ∧
    (mgtArrives st f s).link.thresholds = s.link.thresholds ∧ (mgtArrives st f s).link.test = s.link.test ∧
    (mgtArrives st f s).link.testErrors = s.link.testErrors ∧ (mgtArrives st f s).link.u.state = s.link.u.state ∧
    (mgtArrives st f s).link.d.state = s.link.d.state ∧ (mgtArrives st f s).pose = s.pose ∧
    (mgtArrives st f s).env = s.env ∧ (mgtArrives st f s).gate = s.gate ∧
    (mgtArrives st f s).stop.lines = s.stop.lines ∧ (mgtArrives st f s).stop.present = s.stop.present ∧
    (mgtArrives st f s).stop.trip = s.stop.trip ∧ (mgtArrives st f s).stop.config = s.stop.config ∧
    (mgtArrives st f s).stop.gesture = s.stop.gesture ∧ (mgtArrives st f s).stop.lampMap = s.stop.lampMap ∧
    (mgtArrives st f s).stop.entryCycle = s.stop.entryCycle ∧ (mgtArrives st f s).stop.syncTimer = s.stop.syncTimer ∧
    (mgtArrives st f s).stop.substituteTimer = s.stop.substituteTimer ∧
    (mgtArrives st f s).stop.gripHeld = s.stop.gripHeld ∧ (mgtArrives st f s).stop.consoleStop = s.stop.consoleStop ∧
    (mgtArrives st f s).lens = s.lens ∧ (mgtArrives st f s).store = s.store ∧
    (mgtArrives st f s).recorder = s.recorder ∧ (mgtArrives st f s).player = s.player ∧
    (mgtArrives st f s).cues = s.cues ∧ (mgtArrives st f s).mgmt.erasing = s.mgmt.erasing ∧
    (mgtArrives st f s).mgmt.reset = s.mgmt.reset ∧ (mgtArrives st f s).mgmt.locked = s.mgmt.locked ∧
    (mgtArrives st f s).notices.config = s.notices.config := by
  unfold mgtArrives
  repeat' split
  all_goals simp

/-- `goodFrame` leaves these records and fields as they stand. -/
@[simp] theorem goodFrame_frame (c o p f s) :
    (goodFrame c o p f s).pending = s.pending ∧ (goodFrame c o p f s).timebase = s.timebase ∧
    (goodFrame c o p f s).pins = s.pins ∧ (goodFrame c o p f s).spine.receivingU = s.spine.receivingU ∧
    (goodFrame c o p f s).spine.receivingD = s.spine.receivingD ∧
    (goodFrame c o p f s).link.thresholds = s.link.thresholds ∧ (goodFrame c o p f s).link.test = s.link.test ∧
    (goodFrame c o p f s).link.testErrors = s.link.testErrors ∧ (goodFrame c o p f s).pose.axes = s.pose.axes ∧
    (goodFrame c o p f s).pose.geometry = s.pose.geometry ∧ (goodFrame c o p f s).env.zones = s.env.zones ∧
    (goodFrame c o p f s).stop.lines = s.stop.lines ∧ (goodFrame c o p f s).stop.config = s.stop.config ∧
    (goodFrame c o p f s).stop.gesture = s.stop.gesture ∧ (goodFrame c o p f s).stop.lampMap = s.stop.lampMap ∧
    (goodFrame c o p f s).lens.curves = s.lens.curves ∧ (goodFrame c o p f s).lens.subjects = s.lens.subjects ∧
    (goodFrame c o p f s).mgmt.erasing = s.mgmt.erasing ∧ (goodFrame c o p f s).mgmt.reset = s.mgmt.reset ∧
    (goodFrame c o p f s).mgmt.locked = s.mgmt.locked ∧ (goodFrame c o p f s).notices.config = s.notices.config := by
  unfold goodFrame
  split <;> simp

/-- `badFrameAt` leaves these records and fields as they stand. -/
@[simp] theorem badFrameAt_frame (p w s) :
    (badFrameAt p w s).pending = s.pending ∧ (badFrameAt p w s).timebase = s.timebase ∧
    (badFrameAt p w s).pins = s.pins ∧ (badFrameAt p w s).spine.receivingU = s.spine.receivingU ∧
    (badFrameAt p w s).spine.receivingD = s.spine.receivingD ∧
    (badFrameAt p w s).link.thresholds = s.link.thresholds ∧ (badFrameAt p w s).link.test = s.link.test ∧
    (badFrameAt p w s).link.testErrors = s.link.testErrors ∧ (badFrameAt p w s).pose = s.pose ∧
    (badFrameAt p w s).env.zones = s.env.zones ∧ (badFrameAt p w s).stop.lines = s.stop.lines ∧
    (badFrameAt p w s).stop.config = s.stop.config ∧ (badFrameAt p w s).stop.gesture = s.stop.gesture ∧
    (badFrameAt p w s).stop.lampMap = s.stop.lampMap ∧ (badFrameAt p w s).stop.syncTimer = s.stop.syncTimer ∧
    (badFrameAt p w s).stop.substituteTimer = s.stop.substituteTimer ∧
    (badFrameAt p w s).stop.gripHeld = s.stop.gripHeld ∧ (badFrameAt p w s).stop.consoleStop = s.stop.consoleStop ∧
    (badFrameAt p w s).lens = s.lens ∧ (badFrameAt p w s).mgmt.requests = s.mgmt.requests ∧
    (badFrameAt p w s).mgmt.erasing = s.mgmt.erasing ∧ (badFrameAt p w s).mgmt.reset = s.mgmt.reset ∧
    (badFrameAt p w s).mgmt.drops = s.mgmt.drops ∧ (badFrameAt p w s).mgmt.locked = s.mgmt.locked ∧
    (badFrameAt p w s).notices.config = s.notices.config := by
  unfold badFrameAt
  split <;> simp

/-- `frameBytes` leaves these records and fields as they stand. -/
@[simp] theorem frameBytes_frame (c o p bs cut s) :
    (frameBytes c o p bs cut s).pending = s.pending ∧ (frameBytes c o p bs cut s).timebase = s.timebase ∧
    (frameBytes c o p bs cut s).pins = s.pins ∧ (frameBytes c o p bs cut s).link.thresholds = s.link.thresholds ∧
    (frameBytes c o p bs cut s).link.test = s.link.test ∧
    (frameBytes c o p bs cut s).link.testErrors = s.link.testErrors ∧
    (frameBytes c o p bs cut s).pose.axes = s.pose.axes ∧
    (frameBytes c o p bs cut s).pose.geometry = s.pose.geometry ∧
    (frameBytes c o p bs cut s).env.zones = s.env.zones ∧ (frameBytes c o p bs cut s).stop.lines = s.stop.lines ∧
    (frameBytes c o p bs cut s).stop.config = s.stop.config ∧
    (frameBytes c o p bs cut s).stop.gesture = s.stop.gesture ∧
    (frameBytes c o p bs cut s).stop.lampMap = s.stop.lampMap ∧
    (frameBytes c o p bs cut s).lens.curves = s.lens.curves ∧
    (frameBytes c o p bs cut s).lens.subjects = s.lens.subjects ∧
    (frameBytes c o p bs cut s).mgmt.erasing = s.mgmt.erasing ∧
    (frameBytes c o p bs cut s).mgmt.reset = s.mgmt.reset ∧ (frameBytes c o p bs cut s).mgmt.locked = s.mgmt.locked ∧
    (frameBytes c o p bs cut s).notices.config = s.notices.config := by
  unfold frameBytes
  dsimp only
  repeat' split
  all_goals simp

/-- `pace` leaves these records and fields as they stand. -/
@[simp] theorem pace_frame (s) :
    (pace s).pending = s.pending ∧ (pace s).timebase = s.timebase ∧ (pace s).pins = s.pins ∧
    (pace s).spine = s.spine ∧ (pace s).cycle = s.cycle ∧ (pace s).link = s.link ∧ (pace s).pose = s.pose ∧
    (pace s).env = s.env ∧ (pace s).gate = s.gate ∧ (pace s).stop.lines = s.stop.lines ∧
    (pace s).stop.present = s.stop.present ∧ (pace s).stop.trip = s.stop.trip ∧ (pace s).stop.config = s.stop.config ∧
    (pace s).stop.gesture = s.stop.gesture ∧ (pace s).stop.lampMap = s.stop.lampMap ∧
    (pace s).stop.entryCycle = s.stop.entryCycle ∧ (pace s).stop.syncTimer = s.stop.syncTimer ∧
    (pace s).stop.gripHeld = s.stop.gripHeld ∧ (pace s).stop.consoleStop = s.stop.consoleStop ∧
    (pace s).lens = s.lens ∧ (pace s).store = s.store ∧ (pace s).recorder = s.recorder ∧ (pace s).player = s.player ∧
    (pace s).cues = s.cues ∧ (pace s).mgmt = s.mgmt ∧ (pace s).notices = s.notices := by
  unfold pace
  simp

/-- `syncExpiry` leaves these records and fields as they stand. -/
@[simp] theorem syncExpiry_frame (o s) :
    (syncExpiry o s).pending = s.pending ∧ (syncExpiry o s).timebase = s.timebase ∧ (syncExpiry o s).pins = s.pins ∧
    (syncExpiry o s).spine.receivingU = s.spine.receivingU ∧ (syncExpiry o s).spine.receivingD = s.spine.receivingD ∧
    (syncExpiry o s).link.thresholds = s.link.thresholds ∧ (syncExpiry o s).link.test = s.link.test ∧
    (syncExpiry o s).link.testErrors = s.link.testErrors ∧ (syncExpiry o s).link.u.state = s.link.u.state ∧
    (syncExpiry o s).link.d.state = s.link.d.state ∧ (syncExpiry o s).pose.axes = s.pose.axes ∧
    (syncExpiry o s).pose.geometry = s.pose.geometry ∧ (syncExpiry o s).env = s.env ∧
    (syncExpiry o s).stop.lines = s.stop.lines ∧ (syncExpiry o s).stop.config = s.stop.config ∧
    (syncExpiry o s).stop.gesture = s.stop.gesture ∧ (syncExpiry o s).stop.lampMap = s.stop.lampMap ∧
    (syncExpiry o s).lens.curves = s.lens.curves ∧ (syncExpiry o s).lens.subjects = s.lens.subjects ∧
    (syncExpiry o s).mgmt.requests = s.mgmt.requests ∧ (syncExpiry o s).mgmt.erasing = s.mgmt.erasing ∧
    (syncExpiry o s).mgmt.reset = s.mgmt.reset ∧ (syncExpiry o s).mgmt.drops = s.mgmt.drops ∧
    (syncExpiry o s).mgmt.locked = s.mgmt.locked ∧ (syncExpiry o s).notices.config = s.notices.config := by
  unfold syncExpiry
  split <;> simp

/-- `substituteExpiry` leaves these records and fields as they stand. -/
@[simp] theorem substituteExpiry_frame (o s) :
    (substituteExpiry o s).pending = s.pending ∧ (substituteExpiry o s).timebase = s.timebase ∧
    (substituteExpiry o s).pins = s.pins ∧ (substituteExpiry o s).spine.receivingU = s.spine.receivingU ∧
    (substituteExpiry o s).spine.receivingD = s.spine.receivingD ∧
    (substituteExpiry o s).link.thresholds = s.link.thresholds ∧ (substituteExpiry o s).link.test = s.link.test ∧
    (substituteExpiry o s).link.testErrors = s.link.testErrors ∧
    (substituteExpiry o s).link.u.state = s.link.u.state ∧ (substituteExpiry o s).link.d.state = s.link.d.state ∧
    (substituteExpiry o s).pose.axes = s.pose.axes ∧ (substituteExpiry o s).pose.geometry = s.pose.geometry ∧
    (substituteExpiry o s).env = s.env ∧ (substituteExpiry o s).stop.lines = s.stop.lines ∧
    (substituteExpiry o s).stop.config = s.stop.config ∧ (substituteExpiry o s).stop.gesture = s.stop.gesture ∧
    (substituteExpiry o s).stop.lampMap = s.stop.lampMap ∧ (substituteExpiry o s).lens.curves = s.lens.curves ∧
    (substituteExpiry o s).lens.subjects = s.lens.subjects ∧ (substituteExpiry o s).mgmt.requests = s.mgmt.requests ∧
    (substituteExpiry o s).mgmt.erasing = s.mgmt.erasing ∧ (substituteExpiry o s).mgmt.reset = s.mgmt.reset ∧
    (substituteExpiry o s).mgmt.drops = s.mgmt.drops ∧ (substituteExpiry o s).mgmt.locked = s.mgmt.locked ∧
    (substituteExpiry o s).notices.config = s.notices.config := by
  unfold substituteExpiry
  split <;> simp

/-- `rampExpiry` leaves these records and fields as they stand. -/
@[simp] theorem rampExpiry_frame (s) :
    (rampExpiry s).pending = s.pending ∧ (rampExpiry s).timebase = s.timebase ∧ (rampExpiry s).pins = s.pins ∧
    (rampExpiry s).spine.receivingU = s.spine.receivingU ∧ (rampExpiry s).spine.receivingD = s.spine.receivingD ∧
    (rampExpiry s).cycle = s.cycle ∧ (rampExpiry s).link = s.link ∧ (rampExpiry s).pose = s.pose ∧
    (rampExpiry s).env = s.env ∧ (rampExpiry s).stop.lines = s.stop.lines ∧
    (rampExpiry s).stop.present = s.stop.present ∧ (rampExpiry s).stop.config = s.stop.config ∧
    (rampExpiry s).stop.gesture = s.stop.gesture ∧ (rampExpiry s).stop.lampMap = s.stop.lampMap ∧
    (rampExpiry s).stop.entryCycle = s.stop.entryCycle ∧ (rampExpiry s).stop.syncTimer = s.stop.syncTimer ∧
    (rampExpiry s).stop.substituteTimer = s.stop.substituteTimer ∧ (rampExpiry s).stop.gripHeld = s.stop.gripHeld ∧
    (rampExpiry s).stop.consoleStop = s.stop.consoleStop ∧ (rampExpiry s).lens = s.lens ∧
    (rampExpiry s).cues = s.cues ∧ (rampExpiry s).mgmt.requests = s.mgmt.requests ∧
    (rampExpiry s).mgmt.erasing = s.mgmt.erasing ∧ (rampExpiry s).mgmt.reset = s.mgmt.reset ∧
    (rampExpiry s).mgmt.drops = s.mgmt.drops ∧ (rampExpiry s).mgmt.locked = s.mgmt.locked ∧
    (rampExpiry s).notices.config = s.notices.config := by
  unfold rampExpiry
  split <;> simp

/-- `State.setLock` leaves these records and fields as they stand. -/
@[simp] theorem State.setLock_frame (s l) :
    (State.setLock s l).pending = s.pending ∧ (State.setLock s l).timebase = s.timebase ∧
    (State.setLock s l).pins = s.pins ∧ (State.setLock s l).spine = s.spine ∧ (State.setLock s l).cycle = s.cycle ∧
    (State.setLock s l).link = s.link ∧ (State.setLock s l).pose = s.pose ∧ (State.setLock s l).env = s.env ∧
    (State.setLock s l).gate = s.gate ∧ (State.setLock s l).stop = s.stop ∧ (State.setLock s l).lens = s.lens ∧
    (State.setLock s l).store = s.store ∧ (State.setLock s l).recorder = s.recorder ∧
    (State.setLock s l).player = s.player ∧ (State.setLock s l).cues = s.cues ∧
    (State.setLock s l).mgmt.requests = s.mgmt.requests ∧ (State.setLock s l).mgmt.erasing = s.mgmt.erasing ∧
    (State.setLock s l).mgmt.reset = s.mgmt.reset ∧ (State.setLock s l).mgmt.drops = s.mgmt.drops ∧
    (State.setLock s l).notices = s.notices := by
  unfold State.setLock
  simp

/-- `putAxis` leaves these records and fields as they stand. -/
@[simp] theorem putAxis_frame (k r s) :
    (putAxis k r s).pending = s.pending ∧ (putAxis k r s).timebase = s.timebase ∧ (putAxis k r s).pins = s.pins ∧
    (putAxis k r s).spine.receivingU = s.spine.receivingU ∧ (putAxis k r s).spine.receivingD = s.spine.receivingD ∧
    (putAxis k r s).cycle = s.cycle ∧ (putAxis k r s).link = s.link ∧
    (putAxis k r s).pose.geometry = s.pose.geometry ∧ (putAxis k r s).env = s.env ∧
    (putAxis k r s).stop.lines = s.stop.lines ∧ (putAxis k r s).stop.config = s.stop.config ∧
    (putAxis k r s).stop.gesture = s.stop.gesture ∧ (putAxis k r s).stop.lampMap = s.stop.lampMap ∧
    (putAxis k r s).stop.syncTimer = s.stop.syncTimer ∧
    (putAxis k r s).stop.substituteTimer = s.stop.substituteTimer ∧ (putAxis k r s).stop.gripHeld = s.stop.gripHeld ∧
    (putAxis k r s).stop.consoleStop = s.stop.consoleStop ∧ (putAxis k r s).lens.curves = s.lens.curves ∧
    (putAxis k r s).lens.subjects = s.lens.subjects ∧ (putAxis k r s).cues = s.cues ∧
    (putAxis k r s).mgmt.requests = s.mgmt.requests ∧ (putAxis k r s).mgmt.erasing = s.mgmt.erasing ∧
    (putAxis k r s).mgmt.reset = s.mgmt.reset ∧ (putAxis k r s).mgmt.drops = s.mgmt.drops ∧
    (putAxis k r s).mgmt.locked = s.mgmt.locked ∧ (putAxis k r s).notices.config = s.notices.config := by
  unfold putAxis
  simp

/-- `putStopConfig` leaves these records and fields as they stand. -/
@[simp] theorem putStopConfig_frame (c s) :
    (putStopConfig c s).pending = s.pending ∧ (putStopConfig c s).timebase = s.timebase ∧
    (putStopConfig c s).pins = s.pins ∧ (putStopConfig c s).spine = s.spine ∧ (putStopConfig c s).cycle = s.cycle ∧
    (putStopConfig c s).link = s.link ∧ (putStopConfig c s).pose = s.pose ∧
    (putStopConfig c s).env.zones = s.env.zones ∧ (putStopConfig c s).gate = s.gate ∧
    (putStopConfig c s).stop.lines = s.stop.lines ∧ (putStopConfig c s).stop.present = s.stop.present ∧
    (putStopConfig c s).stop.trip = s.stop.trip ∧ (putStopConfig c s).stop.gesture = s.stop.gesture ∧
    (putStopConfig c s).stop.lampMap = s.stop.lampMap ∧ (putStopConfig c s).stop.entryCycle = s.stop.entryCycle ∧
    (putStopConfig c s).stop.syncTimer = s.stop.syncTimer ∧
    (putStopConfig c s).stop.substituteTimer = s.stop.substituteTimer ∧
    (putStopConfig c s).stop.gripHeld = s.stop.gripHeld ∧ (putStopConfig c s).stop.consoleStop = s.stop.consoleStop ∧
    (putStopConfig c s).lens = s.lens ∧ (putStopConfig c s).store = s.store ∧
    (putStopConfig c s).recorder = s.recorder ∧ (putStopConfig c s).player = s.player ∧
    (putStopConfig c s).cues = s.cues ∧ (putStopConfig c s).mgmt = s.mgmt ∧ (putStopConfig c s).notices = s.notices := by
  unfold putStopConfig
  dsimp only
  repeat' split
  all_goals simp

/-- `endErase` leaves these records and fields as they stand. -/
@[simp] theorem endErase_frame (tag t s) :
    (endErase tag t s).pending = s.pending ∧ (endErase tag t s).timebase = s.timebase ∧
    (endErase tag t s).pins = s.pins ∧ (endErase tag t s).spine.receivingU = s.spine.receivingU ∧
    (endErase tag t s).spine.receivingD = s.spine.receivingD ∧ (endErase tag t s).cycle = s.cycle ∧
    (endErase tag t s).link = s.link ∧ (endErase tag t s).pose = s.pose ∧ (endErase tag t s).env = s.env ∧
    (endErase tag t s).gate = s.gate ∧ (endErase tag t s).stop = s.stop ∧ (endErase tag t s).lens = s.lens ∧
    (endErase tag t s).recorder = s.recorder ∧ (endErase tag t s).player = s.player ∧
    (endErase tag t s).cues = s.cues ∧ (endErase tag t s).mgmt.requests = s.mgmt.requests ∧
    (endErase tag t s).mgmt.reset = s.mgmt.reset ∧ (endErase tag t s).mgmt.drops = s.mgmt.drops ∧
    (endErase tag t s).mgmt.locked = s.mgmt.locked ∧ (endErase tag t s).notices.config = s.notices.config := by
  unfold endErase
  simp

/-- `beginErase` leaves these records and fields as they stand. -/
@[simp] theorem beginErase_frame (tag t s) :
    (beginErase tag t s).pending = s.pending ∧ (beginErase tag t s).timebase = s.timebase ∧
    (beginErase tag t s).pins = s.pins ∧ (beginErase tag t s).spine.receivingU = s.spine.receivingU ∧
    (beginErase tag t s).spine.receivingD = s.spine.receivingD ∧ (beginErase tag t s).cycle = s.cycle ∧
    (beginErase tag t s).link = s.link ∧ (beginErase tag t s).pose = s.pose ∧ (beginErase tag t s).env = s.env ∧
    (beginErase tag t s).gate = s.gate ∧ (beginErase tag t s).stop = s.stop ∧ (beginErase tag t s).lens = s.lens ∧
    (beginErase tag t s).recorder = s.recorder ∧ (beginErase tag t s).player = s.player ∧
    (beginErase tag t s).cues = s.cues ∧ (beginErase tag t s).mgmt.requests = s.mgmt.requests ∧
    (beginErase tag t s).mgmt.reset = s.mgmt.reset ∧ (beginErase tag t s).mgmt.drops = s.mgmt.drops ∧
    (beginErase tag t s).mgmt.locked = s.mgmt.locked ∧ (beginErase tag t s).notices.config = s.notices.config := by
  unfold beginErase
  split <;> simp

/-- `pageReturn` leaves these records and fields as they stand. -/
@[simp] theorem pageReturn_frame (s) :
    (pageReturn s).pending = s.pending ∧ (pageReturn s).timebase = s.timebase ∧ (pageReturn s).pins = s.pins ∧
    (pageReturn s).spine.receivingU = s.spine.receivingU ∧ (pageReturn s).spine.receivingD = s.spine.receivingD ∧
    (pageReturn s).cycle = s.cycle ∧ (pageReturn s).link = s.link ∧ (pageReturn s).pose = s.pose ∧
    (pageReturn s).env = s.env ∧ (pageReturn s).gate = s.gate ∧ (pageReturn s).stop = s.stop ∧
    (pageReturn s).lens = s.lens ∧ (pageReturn s).recorder = s.recorder ∧ (pageReturn s).player = s.player ∧
    (pageReturn s).cues = s.cues ∧ (pageReturn s).mgmt.requests = s.mgmt.requests ∧
    (pageReturn s).mgmt.reset = s.mgmt.reset ∧ (pageReturn s).mgmt.drops = s.mgmt.drops ∧
    (pageReturn s).mgmt.locked = s.mgmt.locked ∧ (pageReturn s).notices.config = s.notices.config := by
  unfold pageReturn
  dsimp only
  repeat' split
  all_goals simp

/-- `completeU` leaves these records and fields as they stand. -/
@[simp] theorem completeU_frame (s) :
    (completeU s).pending = s.pending ∧ (completeU s).timebase = s.timebase ∧ (completeU s).pins = s.pins ∧
    (completeU s).spine.receivingU = s.spine.receivingU ∧ (completeU s).spine.receivingD = s.spine.receivingD ∧
    (completeU s).cycle = s.cycle ∧ (completeU s).link = s.link ∧ (completeU s).pose = s.pose ∧
    (completeU s).env = s.env ∧ (completeU s).gate = s.gate ∧ (completeU s).stop = s.stop ∧
    (completeU s).lens = s.lens ∧ (completeU s).store = s.store ∧ (completeU s).recorder = s.recorder ∧
    (completeU s).player = s.player ∧ (completeU s).cues = s.cues ∧ (completeU s).mgmt.requests = s.mgmt.requests ∧
    (completeU s).mgmt.erasing = s.mgmt.erasing ∧ (completeU s).mgmt.drops = s.mgmt.drops ∧
    (completeU s).mgmt.locked = s.mgmt.locked ∧ (completeU s).notices.config = s.notices.config := by
  unfold completeU
  repeat' split
  all_goals simp

/-- `completeD` leaves these records and fields as they stand. -/
@[simp] theorem completeD_frame (s) :
    (completeD s).pending = s.pending ∧ (completeD s).timebase = s.timebase ∧ (completeD s).pins = s.pins ∧
    (completeD s).spine.receivingU = s.spine.receivingU ∧ (completeD s).spine.receivingD = s.spine.receivingD ∧
    (completeD s).cycle = s.cycle ∧ (completeD s).link = s.link ∧ (completeD s).pose = s.pose ∧
    (completeD s).env = s.env ∧ (completeD s).gate = s.gate ∧ (completeD s).stop = s.stop ∧
    (completeD s).lens = s.lens ∧ (completeD s).store = s.store ∧ (completeD s).recorder = s.recorder ∧
    (completeD s).player = s.player ∧ (completeD s).cues = s.cues ∧ (completeD s).mgmt = s.mgmt ∧
    (completeD s).notices = s.notices := by
  unfold completeD
  split <;> simp

end Sys2Proof.Machine
end

