-- ==== Sys2Proof/Laws/Memory.lean ====
section
/-! SUPPORT. The page memory: every operation keeps the canonical form, and a word read after a write. -/

namespace Sys2Proof.Machine

/-- The canonical form, spelled out. -/
theorem Memory.wf_iff (m : List WordCell) :
    Memory.wf m = true ↔ (m.Pairwise fun c d => c.1 < d.1) ∧ ∀ c ∈ m, c.2 ≠ 0 := by
  simp [Memory.wf, unlistedWord]

/-- A word written is a cell of the memory before, or the word written. -/
theorem mem_writeWord {m : List WordCell} {a : Nat} {v : Int} {c : WordCell} (h : c ∈ writeWord m a v) :
    c ∈ m ∨ (c = (a, v) ∧ v ≠ 0) := by
  induction m with
  | nil =>
    unfold writeWord at h
    split at h <;> simp_all [unlistedWord]
  | cons x rest ih =>
    obtain ⟨b, w⟩ := x
    unfold writeWord at h
    split at h
    · split at h <;> (simp_all [unlistedWord]; try tauto)
    · split at h
      · split at h <;> (simp_all [unlistedWord]; try tauto)
      · simp only [List.mem_cons] at h ⊢
        rcases h with h | h
        · exact .inl (.inl h)
        · rcases ih h with h | h
          · exact .inl (.inr h)
          · exact .inr h

/-- A word written keeps the canonical form. -/
theorem Memory.wf_writeWord {m : List WordCell} (h : Memory.wf m = true) (a : Nat) (v : Int) :
    Memory.wf (writeWord m a v) = true := by
  rw [Memory.wf_iff] at h ⊢
  obtain ⟨hp, hz⟩ := h
  refine ⟨?_, fun c hc => ?_⟩
  · induction m with
    | nil => unfold writeWord; split <;> simp
    | cons x rest ih =>
      obtain ⟨b, w⟩ := x
      have hp' := hp
      rw [List.pairwise_cons] at hp'
      obtain ⟨h1, h2⟩ := hp'
      unfold writeWord
      split
      · rename_i hab
        split
        · exact hp
        · refine List.pairwise_cons.mpr ⟨fun c hc => ?_, hp⟩
          rcases List.mem_cons.mp hc with rfl | hc
          · exact hab
          · exact Nat.lt_trans hab (h1 c hc)
      · rename_i hab
        split
        · rename_i hab'
          split
          · exact h2
          · exact List.pairwise_cons.mpr ⟨fun c hc => by rw [hab']; exact h1 c hc, h2⟩
        · rename_i hne
          refine List.pairwise_cons.mpr ⟨fun c hc => ?_, ih h2 fun c hc => hz c (List.mem_cons_of_mem _ hc)⟩
          rcases mem_writeWord hc with hc | ⟨rfl, -⟩
          · exact h1 c hc
          · simp only; omega
  · rcases mem_writeWord hc with hc | ⟨rfl, hv⟩
    · exact hz c hc
    · exact hv

/-- Words written keep the canonical form. -/
theorem Memory.wf_writeWords {m : List WordCell} (h : Memory.wf m = true) (a : Nat) (vs : List Int) :
    Memory.wf (writeWords m a vs) = true := by
  induction vs generalizing m a with
  | nil => exact h
  | cons v vs ih => exact ih (Memory.wf_writeWord h a v) (a + 1)

/-- A page cleared keeps the canonical form. -/
theorem Memory.wf_clearPage {m : List WordCell} (h : Memory.wf m = true) (p : Nat) :
    Memory.wf (clearPage m p) = true := by
  rw [Memory.wf_iff] at h ⊢
  exact ⟨h.1.filter _, fun c hc => h.2 c (List.mem_filter.mp hc).1⟩

/-- The memory after reset has the canonical form. -/
theorem Memory.wf_reset : Memory.wf State.reset.store.words = true := rfl

/-- A word that is below every listed address reads as an unlisted one. -/
theorem readWord_of_lt {m : List WordCell} {a : Nat} (h : ∀ c ∈ m, a < c.1) : readWord m a = 0 := by
  induction m with
  | nil => rfl
  | cons x rest ih =>
    obtain ⟨b, w⟩ := x
    have hb : a < b := h (b, w) (by simp)
    unfold readWord
    rw [if_neg (by omega)]
    exact ih fun c hc => h c (by simp [hc])

/-- What a word reads as after a write: the value written at the address, and the value before elsewhere. -/
theorem readWord_writeWord {m : List WordCell} (h : Memory.wf m = true) (a : Nat) (v : Int) (a' : Nat) :
    readWord (writeWord m a v) a' = if a' = a then v else readWord m a' := by
  rw [Memory.wf_iff] at h
  induction m with
  | nil =>
    unfold writeWord
    by_cases hv : v = unlistedWord <;> by_cases ha : a' = a <;> simp_all [readWord, unlistedWord]
  | cons x rest ih =>
    obtain ⟨b, w⟩ := x
    obtain ⟨hp, hz⟩ := h
    rw [List.pairwise_cons] at hp
    obtain ⟨h1, h2⟩ := hp
    have ih := ih ⟨h2, fun c hc => hz c (List.mem_cons_of_mem _ hc)⟩
    have low : ∀ a, a < b → readWord rest a = 0 := fun a ha =>
      readWord_of_lt fun c hc => Nat.lt_trans ha (h1 c hc)
    unfold writeWord
    split
    · rename_i hab
      split <;> rename_i hv
      · by_cases ha : a' = a
        · subst ha
          rw [if_pos rfl, hv]
          exact readWord_of_lt fun c hc => by
            rcases List.mem_cons.mp hc with rfl | hc
            · exact hab
            · exact Nat.lt_trans hab (h1 c hc)
        · rw [if_neg ha]
      · by_cases ha : a' = a <;> simp [readWord, ha]
    · split
      · rename_i hab hab'
        subst hab'
        split <;> rename_i hv
        · by_cases ha : a' = a
          · rw [if_pos ha, hv, ha]
            exact readWord_of_lt h1
          · simp [readWord, ha]
        · by_cases ha : a' = a <;> simp [readWord, ha]
      · rename_i hab hne
        simp only [readWord, ih]
        by_cases hb : a' = b
        · have : a' ≠ a := fun h => hne (h.symm.trans hb)
          simp [hb]
          omega
        · simp [hb]

/-- What a word reads as after a page is cleared: 0 in the page, and the value before elsewhere. -/
theorem readWord_clearPage (m : List WordCell) (p a : Nat) :
    readWord (clearPage m p) a =
      if p * pageWords ≤ a ∧ a < p * pageWords + pageWords then 0 else readWord m a := by
  induction m with
  | nil => simp [clearPage, readWord, unlistedWord]
  | cons x rest ih =>
    obtain ⟨b, w⟩ := x
    unfold clearPage at ih ⊢
    rw [List.filter_cons]
    by_cases hb : p * pageWords ≤ b ∧ b < p * pageWords + pageWords
    · rw [if_neg (by simp [hb.1, hb.2]), ih]
      by_cases hp : p * pageWords ≤ a ∧ a < p * pageWords + pageWords
      · rw [if_pos hp, if_pos hp]
      · rw [if_neg hp, if_neg hp, readWord, if_neg]
        rintro rfl
        exact hp hb
    · rw [if_pos (by simp; omega), readWord, readWord, ih]
      by_cases hab : a = b
      · subst hab
        rw [if_pos rfl, if_pos rfl, if_neg hb]
      · rw [if_neg hab, if_neg hab]

/-- What a word reads as after words are written from an address on. -/
theorem readWord_writeWords {m : List WordCell} (h : Memory.wf m = true) (a : Nat) (vs : List Int) (a' : Nat) :
    readWord (writeWords m a vs) a' =
      if a ≤ a' ∧ a' < a + vs.length then vs.getD (a' - a) 0 else readWord m a' := by
  induction vs generalizing m a with
  | nil => rw [writeWords, if_neg (by simp)]
  | cons v vs ih =>
    rw [writeWords, ih (Memory.wf_writeWord h a v), readWord_writeWord h, List.length_cons]
    rcases Nat.lt_trichotomy a' a with ha | rfl | ha
    · rw [if_neg (by omega), if_neg (by omega), if_neg (by omega)]
    · rw [if_neg (by omega), if_pos rfl, if_pos (by omega), Nat.sub_self, List.getD_cons_zero]
    · by_cases hl : a' < a + (vs.length + 1)
      · obtain ⟨k, rfl⟩ : ∃ k, a' = a + 1 + k := ⟨a' - (a + 1), by omega⟩
        rw [if_pos (by omega), if_pos (by omega), show a + 1 + k - a = k + 1 by omega, List.getD_cons_succ,
          show a + 1 + k - (a + 1) = k by omega]
      · rw [if_neg (by omega), if_neg (by omega), if_neg (by omega)]

end Sys2Proof.Machine
end

