-- ==== Sys2Proof/Laws/Requests.lean ====
section
/-! SUPPORT. What the execution of a request does: the request taken, its answer appended as a reply, and nothing at all
where the request at the head of the queue is of another row. -/

namespace Sys2Proof.Machine

/-- A request that the Management Unit may take is taken by the command of its row. -/
theorem takeRequest_of_takes {s s' : State} {r : Request} (h : Takes s r s') : takeRequest r.row s = some (r, s') := by
  obtain ⟨rest, hq, rfl⟩ := h.head
  simp [takeRequest, hq, Mgmt.canStart, h.idle, h.noReset, requestLimit, h.room]

/-- The command of the row of a request runs it and appends the reply. -/
theorem execute_of_takes {s s' : State} {r : Request} {row : Instr} (run : Request → State → Answer)
    (h : Takes s r s') (hr : r.row = row) :
    execute row run s =
      appendReply r.tag (run r s').result (run r s').body false (run r s').state := by
  subst hr
  simp [execute, takeRequest_of_takes h]

/-- What `execute` can do: nothing, or the reply of the request it took. -/
theorem execute_cases (row : Instr) (run : Request → State → Answer) (s : State) :
    (takeRequest row s = none ∧ execute row run s = s)
      ∨ ∃ r s', takeRequest row s = some (r, s')
        ∧ execute row run s =
          appendReply r.tag (run r s').result (run r s').body false (run r s').state := by
  unfold execute
  cases h : takeRequest row s with
  | none => exact .inl ⟨rfl, rfl⟩
  | some x => exact .inr ⟨x.1, x.2, rfl, rfl⟩

/-- The state without the request taken has every record but the Management Unit's as before. -/
theorem Takes.frame {s s' : State} {r : Request} (h : Takes s r s') :
    s'.pending = s.pending ∧ s'.timebase = s.timebase ∧ s'.pins = s.pins ∧ s'.spine = s.spine ∧ s'.cycle = s.cycle
      ∧ s'.link = s.link ∧ s'.pose = s.pose ∧ s'.env = s.env ∧ s'.gate = s.gate ∧ s'.stop = s.stop ∧ s'.lens = s.lens
      ∧ s'.store = s.store ∧ s'.recorder = s.recorder ∧ s'.player = s.player ∧ s'.cues = s.cues
      ∧ s'.notices = s.notices := by
  obtain ⟨rest, -, rfl⟩ := h.head
  simp

end Sys2Proof.Machine
end

