-- ==== Sys2Proof/Laws/Sines.lean ====
section
/-! SUPPORT. The sine table is the formula of R56: each entry is 16,384 times the sine of its angle, rounded to the nearest
integer. The entries are followed along the quarter turn by the addition theorems, in integers with a bound of error. -/

namespace Sys2Proof.Machine

/-- The unit of the fixed-point sines and cosines. -/
def sineUnit : Int := 100000000000000

/-- The cosine and the sine of one step of the table, π / 512, in fixed point. -/
def sineStep : Int × Int := (99998117528260, 613588464915)

/-- Whether the entries from one on agree with the sines that follow from the cosine `c` and the sine `s` of the angle of
the first, known with an error of at most `e`. -/
def sinesAgree : Int → Int → Int → List Int → Bool
  | _, _, _, [] => true
  | c, s, e, entry :: rest =>
    decide (2 * (|16384 * s - entry * sineUnit| + 16384 * e) < sineUnit)
      && sinesAgree ((c * sineStep.1 - s * sineStep.2) / sineUnit) ((s * sineStep.1 + c * sineStep.2) / sineUnit)
        (e + e / 128 + 42) rest

/-- The table agrees with the sines. -/
theorem sineTable_agrees : sinesAgree sineUnit 0 0 sineTable = true := by decide +kernel

/-- The sine of a small angle between two bounds, to a hundredth of the fifth power. -/
theorem sin_between {a b x : ℝ} (h0 : 0 ≤ a) (ha : a ≤ x) (hb : x ≤ b) (h1 : b ≤ 1) :
    a - b ^ 3 / 6 - b ^ 5 / 100 ≤ Real.sin x ∧ Real.sin x ≤ b - a ^ 3 / 6 + b ^ 5 / 100 := by
  have hx : 0 ≤ x := h0.trans ha
  have near := abs_le.1 (Real.sin_bound (x := x) (by rw [abs_of_nonneg hx]; exact hb.trans h1))
  rw [abs_of_nonneg hx] at near
  have := pow_le_pow_left₀ hx hb 3
  have := pow_le_pow_left₀ hx hb 5
  have := pow_le_pow_left₀ h0 ha 3
  constructor <;> linarith [near.1, near.2]

/-- The step of the table in fixed point, its cosine and its sine each within 20 units. -/
theorem sineStep_near :
    |(sineUnit : ℝ) * Real.cos (Real.pi / 512) - sineStep.1| ≤ 20
      ∧ |(sineUnit : ℝ) * Real.sin (Real.pi / 512) - sineStep.2| ≤ 20 := by
  have lo := Real.pi_gt_d20
  have hi := Real.pi_lt_d20
  have whole := sin_between (a := 3.14159265358979323846 / 512) (b := 3.14159265358979323847 / 512)
    (x := Real.pi / 512) (by norm_num) (by linarith) (by linarith) (by norm_num)
  have half := sin_between (a := 3.14159265358979323846 / 1024) (b := 3.14159265358979323847 / 1024)
    (x := Real.pi / 1024) (by norm_num) (by linarith) (by linarith) (by norm_num)
  have double : Real.cos (Real.pi / 512) = 1 - 2 * Real.sin (Real.pi / 1024) ^ 2 := by
    have := Real.cos_two_mul (Real.pi / 1024)
    have := Real.sin_sq_add_cos_sq (Real.pi / 1024)
    rw [show Real.pi / 512 = 2 * (Real.pi / 1024) by ring]
    linarith
  generalize Real.sin (Real.pi / 1024) = y at half double
  have low := pow_le_pow_left₀ (by norm_num) half.1 2
  have high := pow_le_pow_left₀ (le_trans (by norm_num) half.1) half.2 2
  norm_num at whole low high
  rw [double]
  norm_num [sineUnit, sineStep]
  refine ⟨abs_le.2 ⟨?_, ?_⟩, abs_le.2 ⟨?_, ?_⟩⟩ <;> linarith [whole.1, whole.2]

/-- A product of two fixed-point numbers is near the product of what they stand for. -/
theorem fixed_product {x v : ℝ} {a b e : Int} (hx : |x| ≤ 1) (ha : |(sineUnit : ℝ) * x - a| ≤ e) (r : ℝ)
    (hb : |(b : ℝ)| ≤ sineUnit * r) (hv : |(sineUnit : ℝ) * v - b| ≤ 20) :
    |(sineUnit : ℝ) * (x * v) - (a * b : Int) / (sineUnit : ℝ)| ≤ 20 + e * r := by
  have hu : (0 : ℝ) < (sineUnit : ℝ) := by norm_num [sineUnit]
  have split : (sineUnit : ℝ) * (x * v) - (a * b : Int) / (sineUnit : ℝ) =
      x * (sineUnit * v - b) + (sineUnit * x - a) * (b / sineUnit) := by
    push_cast
    field_simp
    ring
  have first : |x * (sineUnit * v - b)| ≤ 1 * 20 := by
    rw [abs_mul]
    exact mul_le_mul hx hv (abs_nonneg _) one_pos.le
  have second : |(sineUnit * x - a) * ((b : ℝ) / sineUnit)| ≤ e * r := by
    rw [abs_mul, abs_div, abs_of_pos hu]
    exact mul_le_mul ha ((div_le_iff₀ hu).2 (by linarith)) (by positivity) ((abs_nonneg _).trans ha)
  rw [split]
  linarith [abs_add_le (x * (sineUnit * v - b)) ((sineUnit * x - a) * ((b : ℝ) / sineUnit))]

/-- A fixed-point number divided by the unit is near the exact quotient. -/
theorem fixed_floor (a : Int) : |(a : ℝ) / sineUnit - (a / sineUnit : Int)| ≤ 1 := by
  have hu : (0 : ℝ) < (sineUnit : ℝ) := by norm_num [sineUnit]
  have h1 : ((sineUnit * (a / sineUnit) : Int) : ℝ) ≤ a := by
    exact_mod_cast Int.mul_ediv_self_le (by decide)
  have h2 : (a : ℝ) < ((sineUnit * (a / sineUnit) + sineUnit : Int) : ℝ) := by
    exact_mod_cast Int.lt_mul_ediv_self_add (by decide)
  push_cast at h1 h2
  have h3 : ((a / sineUnit : Int) : ℝ) ≤ a / sineUnit := by rw [le_div_iff₀ hu]; linarith
  have h4 : (a : ℝ) / sineUnit ≤ (a / sineUnit : Int) + 1 := by rw [div_le_iff₀ hu]; linarith
  rw [abs_le]
  constructor <;> linarith

/-- One step along the quarter turn: the error grows by its hundred and twenty-eighth part and 42 units at most. -/
theorem fixed_step {c s e : Int} {x y : ℝ} (hx : |x| ≤ 1) (hy : |y| ≤ 1)
    (hc : |(sineUnit : ℝ) * x - c| ≤ e) (hs : |(sineUnit : ℝ) * y - s| ≤ e) :
    |(sineUnit : ℝ) * (x * Real.cos (Real.pi / 512) - y * Real.sin (Real.pi / 512))
        - ((c * sineStep.1 - s * sineStep.2) / sineUnit : Int)| ≤ (e + e / 128 + 42 : Int)
      ∧ |(sineUnit : ℝ) * (y * Real.cos (Real.pi / 512) + x * Real.sin (Real.pi / 512))
        - ((s * sineStep.1 + c * sineStep.2) / sineUnit : Int)| ≤ (e + e / 128 + 42 : Int) := by
  obtain ⟨hC, hS⟩ := sineStep_near
  have r1 : |(sineStep.1 : ℝ)| ≤ sineUnit * 1 := by norm_num [sineUnit, sineStep]
  have r2 : |(sineStep.2 : ℝ)| ≤ sineUnit * (1 / 128) := by norm_num [sineUnit, sineStep]
  have he : (e : ℝ) * (1 / 128) ≤ (e / 128 : Int) + 1 := by
    have : e < 128 * (e / 128) + 128 := Int.lt_mul_ediv_self_add (by decide)
    have : (e : ℝ) < 128 * (e / 128 : Int) + 128 := by exact_mod_cast this
    linarith
  have xc := abs_le.1 (fixed_product hx hc 1 r1 hC)
  have ys := abs_le.1 (fixed_product hy hs _ r2 hS)
  have yc := abs_le.1 (fixed_product hy hs 1 r1 hC)
  have xs := abs_le.1 (fixed_product hx hc _ r2 hS)
  have f1 := abs_le.1 (fixed_floor (c * sineStep.1 - s * sineStep.2))
  have f2 := abs_le.1 (fixed_floor (s * sineStep.1 + c * sineStep.2))
  push_cast [sub_div, add_div] at xc ys yc xs f1 f2 he ⊢
  refine ⟨abs_le.2 ⟨?_, ?_⟩, abs_le.2 ⟨?_, ?_⟩⟩ <;> linarith [xc.1, xc.2, ys.1, ys.2, yc.1, yc.2, xs.1, xs.2,
    f1.1, f1.2, f2.1, f2.2]

/-- Entries that agree with the sines are their roundings. -/
theorem sinesAgree_near (entries : List Int) :
    ∀ (c s e : Int) (angle : ℝ), sinesAgree c s e entries = true →
      |(sineUnit : ℝ) * Real.cos angle - c| ≤ e → |(sineUnit : ℝ) * Real.sin angle - s| ≤ e →
      ∀ k : Nat, k < entries.length →
        |(entries.getD k 0 : ℝ) - 16384 * Real.sin (angle + k * (Real.pi / 512))| < 1 / 2 := by
  induction entries with
  | nil => intro c s e angle _ _ _ k hk; simp at hk
  | cons entry rest ih =>
    intro c s e angle agree hc hs k hk
    simp only [sinesAgree, Bool.and_eq_true, decide_eq_true_eq] at agree
    cases k with
    | zero =>
      have hu : (sineUnit : ℝ) = 100000000000000 := by norm_num [sineUnit]
      have first : 2 * (|16384 * (s : ℝ) - entry * sineUnit| + 16384 * e) < sineUnit := by exact_mod_cast agree.1
      have bound := abs_le.1 (le_refl |16384 * (s : ℝ) - entry * sineUnit|)
      have near := abs_le.1 hs
      rw [hu] at first bound near
      simp only [List.getD_cons_zero, Nat.cast_zero, zero_mul, add_zero]
      rw [abs_lt]
      constructor <;> linarith [bound.1, bound.2, near.1, near.2]
    | succ k =>
      have step := fixed_step (Real.abs_cos_le_one angle) (Real.abs_sin_le_one angle) hc hs
      rw [← Real.cos_add, ← Real.sin_add] at step
      have := ih _ _ _ (angle + Real.pi / 512) agree.2 step.1 step.2 k (by simpa using hk)
      rw [show angle + ((k + 1 : Nat) : ℝ) * (Real.pi / 512) = angle + Real.pi / 512 + k * (Real.pi / 512) by
        push_cast; ring]
      simpa using this

/-- Entry k of the table is 16,384 times the sine of k steps, rounded to the nearest integer (R56). -/
theorem sineEntry_near (k : Nat) (hk : k ≤ 256) :
    |(sineEntry k : ℝ) - 16384 * Real.sin (k * Real.pi / 512)| < 1 / 2 := by
  have := sinesAgree_near sineTable sineUnit 0 0 0 sineTable_agrees (by simp) (by simp) k
    (Nat.lt_of_le_of_lt hk (by decide +kernel))
  rw [zero_add] at this
  rw [mul_div_assoc]
  exact this

end Sys2Proof.Machine
end

