-- ==== Sys2Proof/Laws/Stop.lean ====
section
/-! SUPPORT. When a timer is due, and what the operations of the stop supervision do to the stop state, the drive enable
output, the ramp timer, the standstill set, the detector and the two cause sets. -/

namespace Sys2Proof.Machine

/-- A timer is due where the test of it that the expiries make answers yes. -/
theorem isDue_iff (t : Timer) (now : Nat) : IsDue t now ↔ t.due now = true := by
  cases t <;> simp [IsDue, Timer.due]

/-- The end of a part of a lamp's period leaves the pattern. -/
@[simp] theorem Lamp.turn_pattern (now : Nat) (l : Lamp) : (l.turn now).pattern = l.pattern := by
  unfold Lamp.turn
  repeat' split
  all_goals rfl

/-- All that the end of a part of a lamp's period can do: nothing, or the other part of the pattern from where the due
part ended. -/
theorem Lamp.turn_cases (now : Nat) (l : Lamp) :
    l.turn now = l
      ∨ ∃ on off start duration, l.pattern.flash = some (on, off) ∧ l.phase = .running start duration
        ∧ start + duration ≤ now
        ∧ l.turn now = ⟨l.pattern, !l.lit, .running (start + duration) (if l.lit then off else on)⟩ := by
  unfold Lamp.turn
  split
  next on off start duration flash phase =>
    split
    next due => exact .inr ⟨on, off, start, duration, flash, phase, due, rfl⟩
    next => exact .inl rfl
  next => exact .inl rfl

/-- The lamps judged again leave the stop state and its timers. -/
@[simp] theorem refreshLamps_core (s) :
    (refreshLamps s).stop.state = s.stop.state ∧ (refreshLamps s).stop.driveEnable = s.stop.driveEnable
      ∧ (refreshLamps s).stop.rampTimer = s.stop.rampTimer ∧ (refreshLamps s).stop.standstill = s.stop.standstill
      ∧ (refreshLamps s).stop.detector = s.stop.detector := by
  unfold refreshLamps; simp

/-- A change of stop state sets the state and the drive enable output alone. -/
@[simp] theorem changeState_core (st r s) :
    (changeState st r s).stop.state = st ∧ (changeState st r s).stop.driveEnable = st.drives
      ∧ (changeState st r s).stop.rampTimer = s.stop.rampTimer
      ∧ (changeState st r s).stop.standstill = s.stop.standstill
      ∧ (changeState st r s).stop.detector = s.stop.detector := by
  unfold changeState; simp

/-- The entry to HELD. -/
@[simp] theorem enterHeld_core (r s) :
    (enterHeld r s).stop.state = .held ∧ (enterHeld r s).stop.driveEnable = true
      ∧ (enterHeld r s).stop.rampTimer = .stopped ∧ (enterHeld r s).stop.standstill = FlagSet.empty 7
      ∧ (enterHeld r s).stop.detector = Detector.initial := by
  unfold enterHeld; simp [StopState.drives]

/-- A notice raised outside PARKED leaves the whole stop record. -/
theorem raise_stop {s : State} (h : s.stop.state ≠ .parked) (k d) : (raise k d s).stop = s.stop := by
  unfold raise; simp [h]

/-- A notice raised leaves the stop record, or wakes a PARKED part to HELD. -/
theorem raise_stop_cases (k d s) :
    (raise k d s).stop = s.stop
      ∨ s.stop.state = .parked ∧ s.notices.config.wake[k] = true ∧ s.notices.entries[k].pending = false
        ∧ raise k d s = wake (.source k) (noteOccurrence k d s) := by
  unfold raise
  dsimp only
  split
  · rename_i h; right; simpa [and_assoc, and_comm, and_left_comm] using h
  · left; simp

/-- A wake takes the part to HELD. -/
@[simp] theorem wake_core (w s) :
    (wake w s).stop.state = .held ∧ (wake w s).stop.driveEnable = true ∧ (wake w s).stop.rampTimer = .stopped
      ∧ (wake w s).stop.standstill = FlagSet.empty 7 ∧ (wake w s).stop.detector = Detector.initial := by
  unfold wake; simp

/-- The player entering a state outside PARKED leaves the stop state and its timers. -/
theorem enterPlayer_core {s : State} (h : s.stop.state ≠ .parked) (p) :
    (enterPlayer p s).stop.state = s.stop.state ∧ (enterPlayer p s).stop.driveEnable = s.stop.driveEnable
      ∧ (enterPlayer p s).stop.rampTimer = s.stop.rampTimer ∧ (enterPlayer p s).stop.standstill = s.stop.standstill
      ∧ (enterPlayer p s).stop.detector = s.stop.detector := by
  unfold enterPlayer
  have := raise_stop (s := s.withPlayer { s.player with state := p }) (by simpa using h)
  simp [this]

/-- The end of a recording outside PARKED leaves the stop state and its timers. -/
theorem endRecording_core {s : State} (h : s.stop.state ≠ .parked) (r) :
    (endRecording r s).stop.state = s.stop.state ∧ (endRecording r s).stop.driveEnable = s.stop.driveEnable
      ∧ (endRecording r s).stop.rampTimer = s.stop.rampTimer ∧ (endRecording r s).stop.standstill = s.stop.standstill
      ∧ (endRecording r s).stop.detector = s.stop.detector := by
  have hc : (closeRecorder r s).stop = s.stop := by simp
  unfold endRecording
  split
  · have := raise_stop (s := closeRecorder r s) (by rw [hc]; exact h)
    simp [this]
  · simp

/-- What leaving RUN hands to the recorder and the player leaves the stop state and its timers. -/
theorem leaveRun_core {s : State} (h : s.stop.state ≠ .parked) :
    (leaveRun s).stop.state = s.stop.state ∧ (leaveRun s).stop.driveEnable = s.stop.driveEnable
      ∧ (leaveRun s).stop.rampTimer = s.stop.rampTimer ∧ (leaveRun s).stop.standstill = s.stop.standstill
      ∧ (leaveRun s).stop.detector = s.stop.detector := by
  have h1 : (interruptRecorder s).stop.state = s.stop.state
      ∧ (interruptRecorder s).stop.driveEnable = s.stop.driveEnable
      ∧ (interruptRecorder s).stop.rampTimer = s.stop.rampTimer
      ∧ (interruptRecorder s).stop.standstill = s.stop.standstill
      ∧ (interruptRecorder s).stop.detector = s.stop.detector := by
    unfold interruptRecorder
    split
    · simp
    · exact endRecording_core h _
  unfold leaveRun suspendPlayer
  split
  · have h2 := enterPlayer_core (s := (interruptRecorder s).withPlayer
      { (interruptRecorder s).player with
        suspendedFrom := some (interruptRecorder s).player.state, goPending := false })
      (by simpa [h1.1] using h) .suspended
    simpa [h1] using h2
  · exact h1

/-- The entry to CUT. -/
@[simp] theorem enterCut_core (r s) :
    (enterCut r s).stop.state = .cut ∧ (enterCut r s).stop.driveEnable = false
      ∧ (enterCut r s).stop.rampTimer = .stopped ∧ (enterCut r s).stop.standstill = FlagSet.empty 7
      ∧ (enterCut r s).stop.detector = Detector.initial := by
  unfold enterCut
  dsimp only
  split
  · rw [(refreshLamps_core _).1, (refreshLamps_core _).2.1, (refreshLamps_core _).2.2.1,
      (refreshLamps_core _).2.2.2.1, (refreshLamps_core _).2.2.2.2]
    rw [(leaveRun_core (by simp)).1, (leaveRun_core (by simp)).2.1, (leaveRun_core (by simp)).2.2.1,
      (leaveRun_core (by simp)).2.2.2.1, (leaveRun_core (by simp)).2.2.2.2]
    simp [StopState.drives]
  · simp [StopState.drives]

/-- The entry to CUT makes every last-forwarded entry invalid and keeps the counts. -/
@[simp] theorem enterCut_gate (r s) : (enterCut r s).gate = { s.gate with last := Vector.replicate 10 none } := by
  unfold enterCut
  dsimp only
  split <;> simp [invalidateLast]

/-- The DEC orders offered leave everything but the spine. -/
theorem offerDecels_same (s) :
    (offerDecels s).stop = s.stop ∧ (offerDecels s).gate = s.gate ∧ (offerDecels s).cycle = s.cycle
      ∧ (offerDecels s).timebase = s.timebase := by
  simp

/-- The entry to RAMP. -/
@[simp] theorem enterRamp_core (r s) :
    (enterRamp r s).stop.state = .ramp ∧ (enterRamp r s).stop.driveEnable = true
      ∧ (enterRamp r s).stop.rampTimer = .running s.timebase s.stop.config.rampLimit
      ∧ (enterRamp r s).stop.standstill = FlagSet.empty 7
      ∧ (enterRamp r s).stop.detector = s.stop.detector := by
  unfold enterRamp
  dsimp only
  rw [(refreshLamps_core _).1, (refreshLamps_core _).2.1, (refreshLamps_core _).2.2.1,
      (refreshLamps_core _).2.2.2.1, (refreshLamps_core _).2.2.2.2]
  rw [(leaveRun_core (by simp)).1, (leaveRun_core (by simp)).2.1, (leaveRun_core (by simp)).2.2.1,
      (leaveRun_core (by simp)).2.2.2.1, (leaveRun_core (by simp)).2.2.2.2]
  simp [StopState.drives, State.startTimer]

/-- Re-arm: RUN, drive enable high, the trip set empty. -/
@[simp] theorem rearm_core (s) :
    (rearm s).stop.state = .run ∧ (rearm s).stop.driveEnable = true ∧ (rearm s).stop.trip = FlagSet.empty 21
      ∧ (rearm s).stop.detector = Detector.initial ∧ (rearm s).stop.rampTimer = s.stop.rampTimer
      ∧ (rearm s).stop.standstill = s.stop.standstill := by
  unfold rearm; simp [StopState.drives, reloadLast]

/-! ## The trip set -/

/-- A cause joins the trip set. -/
@[simp] theorem joinTrip_trip (c s) : (joinTrip c s).stop.trip = s.stop.trip.set c.val true := by
  unfold joinTrip
  split
  · rename_i h
    apply Vector.ext
    intro i hi
    simp only [Vector.getElem_set]
    split
    · rename_i e; subst e; simpa using h
    · rfl
  · simp [FlagSet.insert]

/-- Joining the trip set outside PARKED leaves the stop state and its timers. -/
theorem joinTrip_core {s : State} (h : s.stop.state ≠ .parked) (c) :
    (joinTrip c s).stop = { s.stop with trip := s.stop.trip.set c.val true } := by
  have ht := joinTrip_trip c s
  unfold joinTrip at ht ⊢
  split
  · rename_i hc
    rw [if_pos hc] at ht
    conv_lhs => rw [show s.stop = { s.stop with trip := s.stop.trip } from rfl, ht]
  · rw [raise_stop (by simpa using h)]
    simp [FlagSet.insert]

/-- A list of causes joins the trip set one after another: outside PARKED, only the trip set of the stop record
changes, and it gains exactly those causes. -/
theorem foldl_joinTrip_core (cs : List (Fin 21)) :
    ∀ s : State, s.stop.state ≠ .parked →
      ∃ trip : FlagSet 21, (cs.foldl (fun s c => joinTrip c s) s).stop = { s.stop with trip := trip }
        ∧ ∀ c : Fin 21, trip[c] = true ↔ s.stop.trip[c] = true ∨ c ∈ cs := by
  induction cs with
  | nil => intro s _; exact ⟨s.stop.trip, rfl, by simp⟩
  | cons c cs ih =>
    intro s h
    have hs := joinTrip_core h c
    obtain ⟨trip, h1, h2⟩ := ih (joinTrip c s) (by rw [hs]; exact h)
    refine ⟨trip, by rw [List.foldl_cons, h1, hs], ?_⟩
    intro d
    rw [h2, hs]
    simp only [Fin.getElem_fin, Vector.getElem_set, List.mem_cons]
    by_cases e : c.val = d.val
    · simp [e, Fin.ext_iff]
    · have : ¬ d = c := fun q => e (by rw [q])
      simp [e, this]

/-- Every cause present joins the trip set: outside PARKED, only the trip set of the stop record changes, and it gains
exactly the present set (R104). -/
theorem joinPresent_core {s : State} (h : s.stop.state ≠ .parked) :
    ∃ trip : FlagSet 21, (joinPresent s).stop = { s.stop with trip := trip }
      ∧ ∀ c : Fin 21, trip[c] = true ↔ s.stop.trip[c] = true ∨ s.stop.present[c] = true := by
  obtain ⟨trip, h1, h2⟩ := foldl_joinTrip_core (FlagSet.members s.stop.present) s h
  exact ⟨trip, h1, by simpa [FlagSet.members] using h2⟩

/-! ## The present set -/

/-- The judgement of CUT leaves both cause sets. -/
theorem judgeCut_sets (s) : (judgeCut s).stop.present = s.stop.present ∧ (judgeCut s).stop.trip = s.stop.trip := by
  unfold judgeCut; split <;> simp

/-- A cause that enters stands in the present set, and no other cause changes there. -/
theorem causeEnters_present (c s) : (causeEnters c s).stop.present = s.stop.present.set c.code.val true := by
  unfold causeEnters
  split
  · rename_i h
    apply Vector.ext
    intro i hi
    simp only [Vector.getElem_set]
    split
    · rename_i e; subst e; simpa using h
    · rfl
  · dsimp only
    repeat' split
    all_goals simp [FlagSet.insert, judgeCut_sets]

/-- A cause that leaves no longer stands in the present set, and no other cause changes there. -/
theorem causeLeaves_present (c s) : (causeLeaves c s).stop.present = s.stop.present.set c.code.val false := by
  unfold causeLeaves
  split
  · simp [judgeCut_sets, FlagSet.erase]
  · rename_i h
    apply Vector.ext
    intro i hi
    simp only [Vector.getElem_set]
    split
    · rename_i e; subst e; simpa using h
    · rfl

/-- After a hand-over the cause is present exactly while its condition holds (R100). -/
theorem handOver_present (c holds s) : (handOver c holds s).stop.present = s.stop.present.set c.code.val holds := by
  unfold handOver; cases holds <;> simp [causeEnters_present, causeLeaves_present]

end Sys2Proof.Machine
end

