-- ==== Sys2Proof/Laws/Wire.lean ====
section
/-! SUPPORT. Numbers as bytes: lengths, and reading back what was laid out. -/

namespace Sys2Proof.Machine

@[simp] theorem natBE_length (n x : Nat) : (natBE n x).length = n := by
  induction n with
  | zero => rfl
  | succ n ih => simp [natBE, ih]

@[simp] theorem intBE_length (n : Nat) (x : Int) : (intBE n x).length = n := natBE_length n _

/-- The number that bytes spell, with bytes put before them. -/
theorem beNat_append (as bs : List Byte) : beNat (as ++ bs) = beNat as * 256 ^ bs.length + beNat bs := by
  have h : ∀ (bs : List Byte) (n : Nat),
      bs.foldl (fun acc b => acc * 256 + b.toNat) n = n * 256 ^ bs.length + beNat bs := by
    intro bs
    induction bs with
    | nil => simp [beNat]
    | cons b bs ih =>
      intro n
      have hb : beNat (b :: bs) = bs.foldl (fun acc b => acc * 256 + b.toNat) (0 * 256 + b.toNat) := rfl
      rw [List.foldl_cons, ih, hb, ih, List.length_cons, Nat.pow_succ]
      ring
  rw [beNat, List.foldl_append, h]
  rfl

/-- A number laid out in n bytes reads back as its low n bytes. -/
theorem beNat_natBE (n x : Nat) : beNat (natBE n x) = x % 256 ^ n := by
  induction n with
  | zero => simp [natBE, beNat, Nat.mod_one]
  | succ n ih =>
    have h : natBE (n + 1) x = [BitVec.ofNat 8 (x >>> (8 * n))] ++ natBE n x := rfl
    rw [h, beNat_append, ih, natBE_length, Nat.shiftRight_eq_div_pow]
    simp only [beNat, List.foldl_cons, List.foldl_nil, BitVec.toNat_ofNat]
    rw [show 2 ^ (8 * n) = 256 ^ n by rw [Nat.pow_mul], show (2 : Nat) ^ 8 = 256 from rfl, Nat.pow_succ,
      Nat.mod_mul, Nat.zero_mul, Nat.zero_add]
    ring

/-- A frame's bytes as sent: six more than its payload. -/
@[simp] theorem Frame.wire_length (f : Frame) : f.wire.length = f.payload.length + 6 := by
  simp [Frame.wire, Frame.covered]
  omega

end Sys2Proof.Machine
end

