-- ==== Sys2Proof/WellFormed.lean ====
section
/-! DEFINITION. Well-formed commands: what a sender of commands keeps to. -/

namespace Sys2Proof

/-- An order names each block that takes a CYC arrival once (R8). -/
def cycOrderWf (order : List CycBlock) : Bool :=
  decide (order.Perm [.stopSupervisor, .cueMatcher, .poseUnit, .takeRecorder, .takePlayer])

/-- An order names each block that takes an FBK once, the Pose Unit before the Stop Supervisor (R10, R102). -/
def fbkOrderWf (order : FbkOrder) : Bool :=
  decide (order.blocks.Perm [.poseUnit, .stopSupervisor, .takePlayer, .lensUnit])
    && decide (order.blocks.idxOf .poseUnit < order.blocks.idxOf .stopSupervisor)

/-- The bytes are a whole frame that its port judges good, of the given kind (R1, R3). -/
def goodOfKind (p : Port) (k : Machine.FrameKind) (bytes : List Byte) : Bool :=
  match Machine.receive p bytes with
  | .judged (.good f) => decide (f.kind = k) && decide (bytes.length = 6 + f.payload.length)
  | _ => false

/-- The bytes are a frame that its port judges bad, or one that a start delimiter ends before its announced end (R1,
R3). -/
def badAt (p : Port) (bytes : List Byte) (cut : Bool) : Bool :=
  match Machine.receive p bytes with
  | .judged (.bad _) => !cut
  | .judged (.good _) => false
  | .incomplete => cut

/-- The well-formed commands, for a port that is receiving no frame: a frame row carries a whole frame of its kind, an
order names every block once, and BAD_FRAME carries a bad frame. Every other command is well formed. -/
def Instr.wf : Instr → Bool
  | .cycReceived _ order bytes => cycOrderWf order && goodOfKind .u .cyc bytes
  | .setReceived bytes => goodOfKind .u .set bytes
  | .fbkReceived order bytes => fbkOrderWf order && goodOfKind .d .fbk bytes
  | .mgtReceived bytes => goodOfKind .u .mgt bytes
  | .rpyReceived bytes => goodOfKind .d .rpy bytes
  | .badFrame port bytes cut => badAt port bytes cut
  | .syncTimerExpiry order => cycOrderWf order
  | .substituteTimerExpiry order => cycOrderWf order
  | _ => true

end Sys2Proof
end

