-- ==== Sys2Proof/Tests/Slice0.lean ====
section
/-! SUPPORT. The tests: ill-formed commands refused, the worked cases of the manual, one step of a command here and there,
and for every statement with hypotheses a state and operands that meet them. -/

namespace Sys2Proof.Tests

open Sys2Proof Sys2Proof.Machine

-- One theorem after another: many evaluations at once ask for more threads than a small machine has.
set_option Elab.async false

/-! ## Helpers -/

/-- The state that a command leaves. -/
def after (i : Instr) (s : State) : State :=
  match exec i s with
  | .next t => t
  | _ => s

/-- The reset state with another stop state. -/
def inState (st : StopState) : State := State.reset.withStop { State.reset.stop with state := st }

/-- The state with one request waiting. -/
def asking (code : Byte) (body : List Byte) (s : State) : State :=
  s.withMgmt { s.mgmt with requests := [⟨0x2A#8, code, body⟩] }

/-- The request of `asking`. -/
def ask (code : Byte) (body : List Byte) : Request := ⟨0x2A#8, code, body⟩

/-- The state with the request of `asking` taken. -/
def asked (s : State) : State := s.withMgmt { s.mgmt with requests := [] }

/-- The result of the reply in transmission on U. -/
def answer (s : State) : Option Byte := s.spine.sendingU.map fun x => x.frame.payload.getD 1 0xFF

/-- A CYC of the control station. -/
def cycFrame (n : Nat) (held : Bool) (cues : List Byte) : Frame :=
  ⟨.cyc, broadcast, cycPayload ⟨BitVec.ofNat 16 n, ⟨10, 0, 0, 1⟩, held, false, cues⟩⟩

/-- A SET of the control station. -/
def set (k : Byte) (n : Nat) (basis : Byte) (v : Int) : Frame := ⟨.set, k, natBE 2 n ++ [basis] ++ intBE 4 v⟩

/-- An FBK of a drive. -/
def fbk (k : Byte) (echo : Nat) (position velocity : Int) (status : Byte) : Frame :=
  ⟨.fbk, k, natBE 2 echo ++ intBE 4 position ++ intBE 4 velocity ++ [status] ++ List.replicate 7 0x00#8⟩

/-- The order of the manual's own table at an FBK. -/
def fbkOrder : FbkOrder := ⟨fbkBlocks, true⟩

/-- The record of the swing axis of the worked sequence of section 5.5.1. -/
def swing : AxisRecord := ⟨true, -2000000, 2000000, 2000, 16, 20, 8, 50, 1, 20, 4, 1, 4⟩

/-- The record of the focus axis of the worked sequence of section 5.5.2. -/
def focus : AxisRecord := ⟨true, 0, 50000, 3000, 0, 0, 8, 200, 1, 20, 0, 0, 0⟩

/-- The focus curve of the worked case of section 7.2.1. -/
def focusCurve : Curve :=
  ⟨true, [⟨1000, 0⟩, ⟨2000, 30000⟩, ⟨3500, 41000⟩, ⟨6000, 52000⟩], #v[0x41#8, 0x42#8, 0x43#8, 0x44#8], 0⟩

/-- A crane in RUN with the swing record and its entry at 131,072, and the effective scale 4 (section 5.5.1). -/
def swinging : State :=
  let s := inState .run
  { s with
    pose :=
      { s.pose with
        axes := s.pose.axes.set 1 swing, entries := s.pose.entries.set 1 ⟨true, 131072, 0, .ready, 0, 0⟩ }
    gate := { s.gate with last := s.gate.last.set 1 (some 131072) }
    env := { s.env with scale := ⟨4, 16, 16, 4⟩ } }

/-- A crane in HELD with the focus record, its curve and its entry at 52,300 (section 5.5.2). -/
def focusing : State :=
  let s := inState .held
  { s with
    pose :=
      { s.pose with
        axes := s.pose.axes.set 7 focus, entries := s.pose.entries.set 7 ⟨true, 52300, 0, .ready, 0, 0⟩ }
    lens := { s.lens with curves := s.lens.curves.set 0 focusCurve } }

/-! ## Ill-formed commands -/

theorem test_wf_cyc : (Instr.cycReceived 0 cycBlocks (cycFrame 1 true []).wire).wf = true := by decide +kernel
theorem test_wf_cyc_order_repeats_a_block :
    (Instr.cycReceived 0 [.poseUnit, .poseUnit, .cueMatcher, .takeRecorder, .takePlayer] (cycFrame 1 true []).wire).wf
      = false := by decide +kernel
theorem test_wf_cyc_of_another_kind : (Instr.cycReceived 0 cycBlocks (set 1 1 0 5).wire).wf = false := by
  decide +kernel
theorem test_wf_set_check_wrong : (Instr.setReceived ((set 1 1 0 5).wire.dropLast ++ [0x00#8])).wf = false := by
  decide +kernel
theorem test_wf_set_bytes_left_over : (Instr.setReceived ((set 1 1 0 5).wire ++ [0x00#8])).wf = false := by
  decide +kernel
theorem test_wf_fbk_stop_before_pose :
    (Instr.fbkReceived ⟨[.stopSupervisor, .poseUnit, .takePlayer, .lensUnit], true⟩ (fbk 1 1 0 0 0).wire).wf = false := by
  decide +kernel
theorem test_wf_mgt_is_no_rpy : (Instr.mgtReceived (Frame.wire ⟨.rpy, 62, [1, 1]⟩)).wf = false := by decide +kernel
theorem test_wf_rpy_is_no_mgt : (Instr.rpyReceived (Frame.wire ⟨.mgt, 62, [1, 1]⟩)).wf = false := by decide +kernel
theorem test_wf_bad_frame_that_is_good : (Instr.badFrame .u (set 1 1 0 5).wire false).wf = false := by
  decide +kernel
theorem test_wf_bad_frame_cut_short : (Instr.badFrame .u [0x02#8, 0x01#8] true).wf = true := by decide +kernel
theorem test_wf_sync_order_too_short : (Instr.syncTimerExpiry [.poseUnit]).wf = false := by decide +kernel
theorem test_wf_substitute_order_too_short : (Instr.substituteTimerExpiry []).wf = false := by decide +kernel

/-- The table gives no row bits, so no word spells a command. -/
theorem test_decode_no_word : decodeTableWord 16 0x1234 = none := rfl

/-! ## Worked cases of the manual -/

/-- R2: the check of 31h to 39h is 29B1h, and that of no byte FFFFh. -/
theorem test_crc_of_R2 :
    crc16 [0x31#8, 0x32#8, 0x33#8, 0x34#8, 0x35#8, 0x36#8, 0x37#8, 0x38#8, 0x39#8] = 0x29B1#16
      ∧ crc16 [] = 0xFFFF#16 := by decide +kernel

/-- R57: the examples of the sine. -/
theorem test_sine_of_R57 :
    sine 16384 = 16384 ∧ sine 32768 = 0 ∧ sine 49152 = -16384 ∧ sine 100 = 101 + ((201 - 101) * 36 + 32) / 64 := by
  decide +kernel

/-- The kinematic axes and the geometry of section 3.6's worked case. -/
def workedPose : Pose :=
  let linear : AxisRecord := { swing with unitMultiplier := 6554, unitShift := 16, softMin := 0, softMax := 400000 }
  { State.reset.pose with
    axes :=
      (((State.reset.pose.axes.set 0 { linear with deceleration := 4 }).set 1 swing).set 2
        { swing with unitShift := 2, deceleration := 8 }).set 3 { linear with deceleration := 8, softMax := 280000 }
    geometry := ⟨true, ⟨0, 0, 1800⟩, 450, 600⟩ }

/-- The motions of the worked case of chapters 3 and 4. -/
def workedMotions : Vector Motion 4 := #v[⟨25000, -40⟩, ⟨131072, 0⟩, ⟨16384, 0⟩, ⟨60000, 125⟩]

/-- Chapter 3: the head position of the worked case. -/
theorem test_head_position :
    headPoint workedPose (fun k => workedMotions[k].position) = ⟨6419, 3919, 3646⟩ := by decide +kernel

/-- Chapter 4: the projected head position and the swept box of the worked case. -/
theorem test_projection_and_swept_box :
    projectedPoint workedPose workedMotions = ⟨6464, 3984, 3684⟩
      ∧ sweptBox ⟨6419, 3919, 3646⟩ ⟨6464, 3984, 3684⟩ 600 = ⟨⟨5819, 3319, 3046⟩, ⟨7064, 4584, 4284⟩⟩ := by
  decide +kernel

/-- Chapter 4: the zones of the worked case: APPROACH, CLEAR or APPROACH by the band, INTRUDE, CLEAR. -/
theorem test_zones_of_the_worked_case :
    let b : Box := ⟨⟨5819, 3319, 3046⟩, ⟨7064, 4584, 4284⟩⟩
    let asserted : FlagSet 8 := (FlagSet.empty 8).set 2 true
    (Zone.judge ⟨true, .obstacle, ⟨⟨5000, -2000, 5000⟩, ⟨9000, 8000, 5400⟩⟩, none, 800, 6⟩ asserted b = .approach)
      ∧ (Zone.judge ⟨true, .crew, ⟨⟨7000, 3000, 0⟩, ⟨10000, 6000, 2000⟩⟩, some 2, 1500, 4⟩ asserted b = .approach)
      ∧ (Zone.judge ⟨true, .crew, ⟨⟨7000, 3000, 0⟩, ⟨10000, 6000, 2000⟩⟩, some 3, 1500, 4⟩ asserted b = .clear)
      ∧ (Zone.judge ⟨true, .soft, ⟨⟨6900, 0, 0⟩, ⟨7100, 10000, 10000⟩⟩, none, 0, 10⟩ asserted b = .intrude)
      ∧ (Zone.judge ⟨true, .obstacle, ⟨⟨20000, 0, 0⟩, ⟨21000, 500, 4000⟩⟩, none, 1000, 2⟩ asserted b = .clear) := by
  decide +kernel

/-- Section 7.2.1: forward and inverse translations of the focus curve. -/
theorem test_translations_of_the_focus_curve :
    focusCurve.forward 2100 = 30733 ∧ focusCurve.forward 3799 = 42316 ∧ focusCurve.forward 3500 = 41000
      ∧ focusCurve.forward 7000 = 52000 ∧ focusCurve.forward 500 = 0 ∧ focusCurve.inverse 30733 = 2100
      ∧ focusCurve.inverse 42316 = 3799 ∧ focusCurve.inverse 52300 = 6000 := by decide +kernel

/-- Section 7.4.1: the distance of the worked case, and that of preset 2 of section 7.4.2. -/
theorem test_follow_distances :
    followDistance ⟨6419, 3919, 3646⟩ ⟨9000, 2000, 1700⟩ = 3759
      ∧ followDistance ⟨6419, 3919, 3646⟩ ⟨10000, 2000, 1700⟩ = 4504 := by decide +kernel

/-- R65: a velocity of 125 with deceleration 8 stops in 977 counts. -/
theorem test_stop_distance : stopDistance 125 8 = 977 ∧ stopDistance (-40) 4 = 200 := by decide

/-- Section 5.5.1: the rows of the worked sequence, each from the entry before it. -/
theorem test_swing_gating :
    let fast : State := { swinging with env := { swinging.env with scale := ⟨16, 16, 16, 16⟩ } }
    let from' (v : Int) (s : State) : State := { s with gate := { s.gate with last := s.gate.last.set 1 (some v) } }
    (submit .console 1 132000 3101 swinging).gate.last[1] = some 131572
      ∧ (submit .console 1 132000 3102 (from' 131572 swinging)).gate.last[1] = some 132000
      ∧ (submit .console 1 140000 3103 (from' 132000 fast)).gate.last[1] = some 134000
      ∧ (submit .console 1 2100000 3104 (from' 134000 fast)).gate.last[1] = some 136000 := by decide +kernel

/-- Section 5.5.2: a USER setpoint of focus in HELD with an invalid entry is slewed from the clamped seed. -/
theorem test_focus_gating :
    (after (.setReceived (set 7 410 1 3799).wire) focusing).gate.last[7] = some 47000
      ∧ (after (.setReceived (set 7 410 1 3799).wire) focusing).gate.clamps[7] = 1 := by decide +kernel

/-- Section 10.4.1: the three slots of the worked sequence through the cue bytes 7Eh, 7Eh, 21h. -/
theorem test_cue_slots :
    let slots : Vector CueSlot 8 :=
      ((State.reset.cues.set 0 ⟨[0x7E#8, 0x00#8, 0x21#8], some (.cue 5), 0⟩).set 1 ⟨[0x21#8], some .mark, 0⟩).set 2
        ⟨[0x7E#8, 0x7E#8], some .go, 0⟩
    let s := cueArrival [0x7E#8] (State.reset.withCues slots)
    let t := cueArrival [0x7E#8] s
    let u := cueArrival [0x21#8] t
    (s.cues[0].progress = 1 ∧ s.cues[1].progress = 0 ∧ s.cues[2].progress = 1)
      ∧ (t.cues[0].progress = 2 ∧ t.cues[1].progress = 0 ∧ t.cues[2].progress = 0)
      ∧ (u.cues[0].progress = 0 ∧ u.cues[1].progress = 0 ∧ u.cues[2].progress = 0)
      ∧ u.notices.entries[10].detail = [0x01#8, 0x06#8, 0x00#8] := by decide +kernel

/-- R121: a lamp that the waking of one source has given B1 keeps its first part when an expiry of the B025 before it
comes late, and goes off when its own part ends. -/
theorem test_lamp_part_not_due :
    let s := (inState .held).withStop { State.reset.stop with red := ⟨.b1, true, .running 100 500⟩ }
    (after (.lampPatternPeriod .red) (s.withTimebase 100)).stop.red = ⟨.b1, true, .running 100 500⟩
      ∧ (after (.lampPatternPeriod .red) (s.withTimebase 600)).stop.red = ⟨.b1, false, .running 600 500⟩ := by
  decide +kernel

/-- R23, R153, R161, R177: presence bytes of fields that IDLE and length 0 leave absent. -/
theorem test_presence_bytes :
    recorderBytes Recorder.initial
        = [0x00#8, 0x00#8, 0x00#8, 0x00#8, 0x00#8, 0x00#8] ++ List.replicate 9 0x00#8 ++ [0x00#8]
          ++ List.replicate 6 0x00#8
      ∧ playerBytes State.reset 0
        = [0x00#8, 0x00#8, 0x00#8, 0x00#8, 0x00#8, 0x00#8, 0x00#8, 0x00#8] ++ List.replicate 4 0x00#8
          ++ [0x00#8, 0x00#8, 0x00#8, 0x00#8, 0x00#8, 0x00#8]
      ∧ cueSlotBytes CueSlot.initial = [0x00#8, 0x00#8, 0x00#8, 0x00#8, 0x00#8, 0x00#8]
      ∧ cueSlotBytes ⟨[0x7E#8], some (.subject 3), 0⟩
        = [0x01#8, 0x01#8, 0x7E#8, 0x01#8, 0x05#8, 0x01#8, 0x03#8, 0x00#8] := by decide +kernel

/-! ## States for the witnesses -/

/-- Asking puts a request at the head of the queue, from where it may be taken. -/
theorem takes_asking (code : Byte) (body : List Byte) (s : State) (he : s.mgmt.erasing = none)
    (hr : s.mgmt.reset = .none) (hl : s.mgmt.replies.length < 4) :
    Takes (asking code body s) (ask code body) (asked s) :=
  ⟨he, hr, hl, [], rfl, rfl⟩

/-- The state with a frame in transmission on U. -/
def busyU (s : State) : State :=
  { s with spine := { s.spine with sendingU := some ⟨⟨.note, 62#8, [0x00#8]⟩, false⟩ } }

/-- The state with a frame in transmission on D. -/
def busyD (s : State) : State := { s with spine := { s.spine with sendingD := some (set 1 1 0 5) } }

/-- The reset state with a D port in a state and otherwise as it was. -/
def portD (st : PortState) : State :=
  { State.reset with link := { State.reset.link with d := { State.reset.link.d with state := st } } }

/-- The state with another record of the D port. -/
def withD (r : PortRecord) : State := { State.reset with link := { State.reset.link with d := r } }

/-- The state with a take 3 of a state, a mask, a sample count and a chain. -/
def withTake (r : Take) (s : State) : State :=
  { s with store := { s.store with takes := s.store.takes.set 3 r, free := s.store.free.drop r.chain.length } }

/-- A take of one sample of axis 1, on page 0. -/
def oneSample (st : TakeState) : Take :=
  { Take.initial with state := st, mask := (FlagSet.empty 10).set 1 true, samples := 1, chain := [0] }

/-- A crane in RUN with the configuration of nothing, nothing present, and the player in a state over take 3. -/
def playingIn (st : PlayerState) (from' : Option PlayerState) : State :=
  (withTake (oneSample .closed) (inState .run)).withPlayer
    { Player.initial with state := st, take := some 3, mask := (FlagSet.empty 10).set 1 true, suspendedFrom := from' }

/-- A crane in RUN with the recorder in a state over take 3. -/
def recordingIn (st : RecorderState) (t : TakeState) : State :=
  (withTake { Take.initial with state := t, mask := (FlagSet.empty 10).set 1 true } (inState .run)).withRecorder
    { Recorder.initial with state := st, take := some 3, mask := (FlagSet.empty 10).set 1 true }

/-- A crane in HELD, one grip of the confirm count short of a complete gesture, with nothing present and each axis at 0. -/
def confirming : State :=
  let s := inState .held
  { s with
    stop := { s.stop with present := FlagSet.empty 21, detector := ⟨.confirm, 24⟩ }
    pose := { s.pose with entries := Vector.replicate 10 ⟨true, 0, 0, .ready, 0, 0⟩ } }

/-- The state with every notice source in the wake set. -/
def waking (s : State) : State :=
  s.withNotices { s.notices with config := { s.notices.config with wake := Vector.replicate 17 true } }

/-- Whether a notice source is pending, and its detail. -/
def noticed (k : Fin 17) (s : State) : Bool × List Byte := (s.notices.entries[k].pending, s.notices.entries[k].detail)

/-! ## Witnesses: the hypotheses of the statements, clause by clause -/

theorem witness_StepRunsTheFrontCommand :
    (State.reset.withPending [.rampTimeout]).pending = .rampTimeout :: [] := rfl

theorem witness_StepOnAnEmptyQueue : State.reset.pending = [] := rfl

/-- A timer that is due and one that is not, at a reading of the timebase. -/
theorem witness_of_a_timer_due :
    let s := State.reset.withStop { State.reset.stop with rampTimer := .running 5 100 }
    (s.withTimebase 105).stop.rampTimer = .running 5 100 ∧ 5 + 100 ≤ (s.withTimebase 105).timebase
      ∧ ¬5 + 100 ≤ (s.withTimebase 104).timebase := by decide

theorem witness_CommandsChangeTheirRecordsOnly :
    exec (.presenceInputChange 7 true) State.reset = .next (after (.presenceInputChange 7 true) State.reset) := rfl

/-- The stop record in CommandsChangeTheirRecordsOnly: a lamp's period, a RELEASE answered outside PARKED and one that wakes
a PARKED part by notice 5, and a re-arm from HELD. -/
theorem witness_of_the_stop_record :
    let holding (st : StopState) : State :=
      asking 0x16#8 []
        ((inState st).withPlayer { Player.initial with state := .holding, take := some 3 })
    let waking : State :=
      { holding .parked with
        notices :=
          { (holding .parked).notices with
            config := { NoticeConfig.initial with wake := (FlagSet.empty 17).set 5 true } } }
    Instr.release ∈ [.cue, .resume, .release, .armRecord, .stopRecord]
      ∧ (after .release (holding .held)).player.state = .idle ∧ (after .release (holding .held)).stop.state = .held
      ∧ (after .release waking).stop.state = .held ∧ waking.notices.config.wake[(5 : Fin 17)] = true
      ∧ (after (.lampPatternPeriod .red) State.reset).stop.state = .cut
      ∧ (confirming.stop.state = .held ∧ (after .gestureComplete confirming).stop.state = .run) := by decide +kernel

theorem witness_FramesAndBytesAgree :
    (∀ f ∈ [cycFrame 1 true [], cycFrame 1 true [1, 2, 3, 4], set 9 1 0 5, ⟨.mgt, 62, [1, 1]⟩,
        ⟨.mgt, 3, List.replicate 274 0⟩],
      f.kind.arrivesOn .u = true ∧ f.kind.lengthAgrees f.payload.length = true)
      ∧ (∀ f ∈ [fbk 0 1 0 0 0, fbk 255 1 0 0 0, ⟨.rpy, 3, [1, 1]⟩, ⟨.rpy, 3, List.replicate 274 0⟩],
        f.kind.arrivesOn .d = true ∧ f.kind.lengthAgrees f.payload.length = true)
      ∧ receive .u (set 9 1 0 5).wire = .judged (.good (set 9 1 0 5)) := by decide +kernel

theorem witness_FrameBytesAreCollected :
    receive .u (State.reset.spine.receivingU ++ [0x02#8]) = .incomplete
      ∧ receive .d (State.reset.spine.receivingD ++ [0x02#8]) = .incomplete
      ∧ State.reset.link.d.state ≠ .test ∧ (portD .test).link.d.state = .test := by decide +kernel

theorem witness_RecordsReadBack :
    (∀ n ∈ [0, 4], (List.replicate n (0x7E#8 : Byte)).length ≤ 4)
      ∧ (∀ v ∈ [(-2147483648 : Int), 2147483647], -2147483648 ≤ v ∧ v ≤ 2147483647)
      ∧ (axisInRange 1 swing = true ∧ swing.fits 1) ∧ (axisInRange 7 focus = true ∧ focus.fits 7)
      ∧ geometryInRange workedPose.geometry = true
      ∧ (let z : Zone := ⟨true, .crew, ⟨⟨-2147483648, 0, 0⟩, ⟨2147483647, 0, 0⟩⟩, some 7, 5000, 16⟩
        z.box.lo.isI32 ∧ z.box.hi.isI32 ∧ z.band ≤ 5000 ∧ z.factor ≤ 16 ∧ (z.presence.isSome = true ↔ z.kind = .crew))
      ∧ stopConfigInRange StopConfig.initial = true ∧ gestureInRange Gesture.initial = true
      ∧ ((⟨⟨0, 0, 0⟩, 10000⟩ : Subject).point.isI32 ∧ (⟨⟨0, 0, 0⟩, 10000⟩ : Subject).trimLimit ≤ 10000)
      ∧ (∀ n ∈ [1, 6], 1 ≤ ({ NoticeConfig.initial with order := n }).order
        ∧ ({ NoticeConfig.initial with order := n }).order ≤ 6)
      ∧ (⟨65535, 0, 65535, 0, 65535, 0, 65535⟩ : Thresholds).erroredU ≤ 65535 := by
  unfold AxisRecord.fits Point.isI32 Machine.isI32
  refine ⟨?_, ?_, ⟨?_, ?_⟩, ⟨?_, ?_⟩, ?_, ?_, ?_, ?_, ?_, ?_, ?_⟩ <;> decide +kernel

/-- The bounds of a cue slot's pattern, and a REC_START with a nonempty mask. -/
theorem witness_of_a_cue_slot :
    (∀ n ∈ [1, 8], 1 ≤ (List.replicate n (0x7E#8 : Byte)).length ∧ (List.replicate n (0x7E#8 : Byte)).length ≤ 8)
      ∧ (∃ k : Fin 10, ((FlagSet.empty 10).set 9 true)[k] = true)
      ∧ readCueSlot [0x01#8, 0x7E#8, 0x00#8, 0x1F#8, 0x02#8, 0x00#8]
        = some ⟨[0x7E#8], some (.recStart 31 ((FlagSet.empty 10).set 9 true)), 0⟩ := by decide +kernel

theorem witness_CycReceivedActs :
    State.reset.spine.receivingU = [] ∧ (cycFrame 1 true [1, 2, 3, 4]).kind = .cyc
      ∧ (cycFrame 1 true [1, 2, 3, 4]).payload.length = 12 ∧ cycBlocks.Perm cycBlocks
      ∧ State.reset.recorder.state = .idle ∧ State.reset.cycle.last = none
      ∧ ([1, 2].map fun n : CycleNo =>
          (({ State.reset.cycle with last := some 0 } : CycleRecord).last.map fun l => (n - l).toNat)) = [some 1, some 2]
      ∧ ((recordingIn .armed .empty).recorder.take = some 3 ∧ (recordingIn .armed .empty).recorder.state = .armed) := by decide +kernel

/-- A recording of axis 1 in take 3 at cycle 10. -/
def recordingAt10 : State :=
  (recordingIn .recording .recording).withRecorder
    { (recordingIn .recording .recording).recorder with openCycle := some 10, repeats := 65535 }

/-- The recorder's part of CycReceivedActs: cycles newer, equal and older, four samples that find their page, and one
that does not. -/
theorem witness_of_a_recording :
    (recordingAt10.recorder.state = .recording ∧ recordingAt10.recorder.take = some 3
        ∧ recordingAt10.recorder.openCycle = some 10 ∧ recordingAt10.recorder.repeats ≤ 65535)
      ∧ [11, 10 + 32767, 10, 10 + 32768].map (fun c : CycleNo => (c - 10).toNat) = [1, 32767, 0, 32768] :=
  ⟨⟨rfl, rfl, rfl, Nat.le_refl _⟩, by decide +kernel⟩

theorem witness_of_samples_written :
    ((List.range 4).foldlM (fun (st : Store) (_ : Nat) => st.writeSample 3 recordingAt10.recorder.sample)
        recordingAt10.store).isSome = true := by decide +kernel

theorem witness_of_a_sample_without_a_page :
    (Store.writeSample { recordingAt10.store with free := [] } 3 recordingAt10.recorder.sample).isNone = true := by
  decide +kernel

/-- The Stop Supervisor's part of CycReceivedActs: a slip at the bounds of the steps, a gesture completed and one that
is not, a crane PARKED and one that is not. -/
theorem witness_of_a_cyc_at_the_stop_supervisor :
    let a (step : Option Nat) : Arrival := ⟨true, ⟨5, ⟨0, 0, 0, 0⟩, true, false, []⟩, step⟩
    (∀ g ∈ [0, 5], (cycTaken (a (some g)) (inState .run) .stopSupervisor).stop.state = .ramp)
      ∧ (∀ g ∈ [1, 4], (cycTaken (a (some g)) (inState .run) .stopSupervisor).stop.state = .run)
      ∧ (cycTaken (a (some 1)) confirming .stopSupervisor).stop.state = .run
      ∧ (cycTaken (a (some 1)) (confirming.withStop { confirming.stop with detector := ⟨.confirm, 23⟩ })
        .stopSupervisor).stop.detector = ⟨.confirm, 24⟩
      ∧ (inState .parked).stop.state = .parked ∧ State.reset.stop.state ≠ .parked := by decide +kernel

/-- The focus axis one cycle short of stale: the CYC makes it stale, the next one finds it stale, an FBK makes it fresh;
and the judgement of a lens axis that is to become stale, that is stale, and that is fresh (R50). -/
theorem witness_of_a_stale_lens :
    let a : Arrival := ⟨true, ⟨5, ⟨0, 0, 0, 0⟩, true, false, []⟩, some 1⟩
    let aged (age : Nat) : State :=
      busyU { focusing with
        pose := { focusing.pose with entries := focusing.pose.entries.set 7 ⟨true, 52300, 0, .ready, 0, age⟩ } }
    let s := aged 8
    let t := cycTaken a s .poseUnit
    let fresh := fbkTaken true 7 ⟨5, 52300, 0, .ready, 0⟩ t .poseUnit
    (StaleAgrees s ∧ StaleAgrees t ∧ StaleAgrees fresh)
      ∧ (s.lens.stale[0] = false ∧ t.lens.stale[0] = true ∧ fresh.lens.stale[0] = false)
      ∧ noticed 12 s = (false, []) ∧ noticed 12 t = (true, [0x07#8, 0x01#8])
      ∧ (cycTaken a t .poseUnit).notices.entries[12].count = 0
      ∧ (judgeStale 0 (aged 9)).lens.stale[0] = true ∧ (judgeStale 0 (aged 8)).lens.stale[0] = false := by
  unfold StaleAgrees
  decide +kernel

theorem witness_SetReceivedIsRouted :
    (∀ f ∈ [set 0 1 0 5, set 9 1 0 5, set 10 1 0 5, set 7 1 1 5, set 7 1 2 5],
      f.kind = .set ∧ f.payload.length = 7)
      ∧ (set 10 1 0 5).address.toNat = 10 ∧ (setFields (set 7 1 2 5).payload).basis = 0x02#8
      ∧ (set 9 1 0 5).address = u8 (9 : Axis).val ∧ (setFields (set 9 1 0 5).payload).basis = 0x00#8
      ∧ (setFields (set 7 1 1 5).payload).basis = 0x01#8 ∧ (set 7 1 1 5).address = u8 (lensAxis 0).val
      ∧ State.reset.lens.follow.on = false ∧ State.reset.lens.curves[0].valid = false
      ∧ focusing.lens.curves[0].valid = true ∧ focusing.spine.receivingU = []
      ∧ (let curve := focusing.lens.curves[0]
        let final := curve.at (curve.points.length - 1)
        (final.user : Int) < final.user + 1 ∧ ¬((final.user : Int) < final.user)
          ∧ ((curve.at 0).user : Int) - 1 < (curve.at 0).user
          ∧ (after (.setReceived (set 7 1 1 16777215).wire) focusing).lens.endReached[0] = true)
      ∧ ({ focusing with lens := { focusing.lens with follow := { Follow.initial with on := true } } }).lens.follow.on
        = true := by decide +kernel

theorem witness_SetpointsAreGated :
    State.reset.pose.axes[1].valid = false
      ∧ (let r := (withTake Take.initial swinging).pose.axes[1]
        r.valid = true ∧ swinging.stop.state = .run ∧ swinging.pose.entries[1].present = true)
      ∧ (swinging.withPlayer { Player.initial with mask := (FlagSet.empty 10).set 1 true }).player.mask[1] = true
      ∧ (focusing.gate.last[7] = none ∧ focusing.pose.entries[7].present = true ∧ focusing.pose.axes[7].valid = true
        ∧ focusing.stop.state = .held ∧ focusing.lens.fault[0] = false)
      ∧ ((busyD swinging).spine.sendingD.isSome = true ∧ (busyD swinging).spine.queueD.length < 16
        ∧ (busyD swinging).inTest = false) := by decide +kernel

/-- The D transmitter, the recorder, the history ring and the clamp report of SetpointsAreGated: each clause at a setpoint
that is accepted. -/
theorem witness_of_a_setpoint_handed_on :
    let ring (n : Nat) : List RingEntry := (List.range n).map fun i => ⟨BitVec.ofNat 16 i, 0⟩
    let player (n : Nat) : State :=
      swinging.withPlayer
        { Player.initial with
          state := .playing, take := some 3, mask := (FlagSet.empty 10).set 1 true
          rings := (Vector.replicate 10 []).set 1 (ring n) }
    let recording (st : RecorderState) : State :=
      swinging.withRecorder
        { Recorder.initial with
          state := st, take := some 3, mask := (FlagSet.empty 10).set 1 true
          openCycle := if st = .recording then some 10 else none }
    (swinging.spine.sendingD = none ∧ swinging.spine.brake = none ∧ (∀ k : Fin 7, swinging.spine.decel[k] = none)
        ∧ swinging.spine.queueD = [])
      ∧ 16 ≤ ({ (busyD swinging).spine with queueD := List.replicate 16 (set 1 1 0 5) }).queueD.length
      ∧ (player 8).player.rings[1].length = 8 ∧ (player 7).player.rings[1].length < 8
      ∧ (player 8).player.clamped = false
      ∧ (submit .player 1 2000001 8 (player 8)).player.clamped = true
      ∧ (submit .player 1 2000001 8 (player 8)).player.rings[1].length = 8
      ∧ (submit .player 1 2000001 7 (player 8)).player.rings[1].length = 8
      ∧ (submit .cueing 1 2000001 7
        ((player 8).withPlayer { (player 8).player with state := .ready })).player.clamped = true
      ∧ (submit .console 1 131073 10 (recording .armed)).recorder.buffer[1] = 131073
      ∧ ((recording .recording).recorder.openCycle = some 10
        ∧ (submit .console 1 131073 10 (recording .recording)).recorder.buffer[1] = 131073
        ∧ (submit .console 1 131073 9 (recording .recording)).recorder.buffer[1] = 0) := by decide +kernel

theorem witness_FbkReceivedActs :
    State.reset.spine.receivingD = [] ∧ State.reset.inTest = false
      ∧ (∀ k ∈ [(0x00#8 : Byte), 0x06#8, 0x07#8, 0x09#8, 0x0A#8],
        (fbk k 1 5 6 0).kind = .fbk ∧ (fbk k 1 5 6 0).payload.length = 18)
      ∧ (fbk 6 1 5 6 0).address = u8 (6 : Axis).val ∧ (fbk 10 1 5 6 0).address.toNat = 10
      ∧ (fbkBlocks.Perm fbkBlocks ∧ fbkBlocks.idxOf .poseUnit < fbkBlocks.idxOf .stopSupervisor)
      ∧ State.reset.pose.set.cycle = none
      ∧ (let m : Motion := ⟨5, 6⟩
        let three : PoseSet := ⟨true, some 10, #v[some m, some m, some m, none]⟩
        three.cycle = some 10 ∧ three.isOpen = true ∧ three.captured[3] = none ∧ three.captured[0].isSome = true
          ∧ ((10 : CycleNo) - 10).toNat = 0 ∧ ((9 : CycleNo) - 10).toNat = 65535
          ∧ ((10 + 32767 : CycleNo) - 10).toNat = 32767 ∧ ((10 + 32768 : CycleNo) - 10).toNat = 32768
          ∧ (∃ j : Fin 4, (PoseSet.initial.captured.set 3 (some m))[j] = none)
          ∧ (∀ j : Fin 4, (three.captured.set 3 (some m))[j] = some (Vector.replicate 4 m)[j]))
      ∧ (workedPose.geometry.valid = true ∧ ∀ j : Fin 4, workedPose.axes[j.val].valid = true)
      ∧ State.reset.pose.geometry.valid = false
      ∧ ((fbkFields (fbk 7 1 0 0 9).payload).status = .fault ∧ (fbkFields (fbk 7 1 0 0 0).payload).status = .ready
        ∧ (fbkFields (fbk 7 1 0 0 1).payload).status = .braked ∧ State.reset.lens.fault[0] = false
        ∧ (((FlagSet.empty 3).set 0 true) : FlagSet 3)[0] = true)
      ∧ ((playingIn .cueing none).player.mask[1] = true ∧ (playingIn .cueing none).player.state = .cueing
        ∧ (playingIn .cueing none).player.take = some 3 ∧ (playingIn .cueing none).player.mask[0] = false)
      ∧ (let p := { (playingIn .playing none).player with rings := (Vector.replicate 10 []).set 1 [⟨10, 5⟩] }
        p.mask[1] = true ∧ p.state = .playing ∧ ⟨10, 5⟩ ∈ p.rings[1] ∧ (p.rings[1].map (·.cycle)).Nodup
          ∧ (10 : CycleNo) - BitVec.ofNat 16 State.reset.pose.axes[1].followLag = 10
          ∧ State.reset.pose.axes[1].followThreshold < ((6 : Int) - 5).natAbs
          ∧ ((5 : Int) - 5).natAbs ≤ State.reset.pose.axes[1].followThreshold
          ∧ (playingIn .playing none).stop.state = .run) := by decide +kernel

/-- The Stop Supervisor's part of FbkReceivedActs and of RampsEnd: in RAMP the seventh axis at rest takes the crane to
HELD for reason STANDSTILL; DRIVE_FAULT is absent, as the present set shows. -/
theorem witness_of_an_fbk_at_the_stop_supervisor :
    let s0 := busyU (causeEnters .consoleStop (inState .run))
    let s : State :=
      { s0 with
        stop := { s0.stop with entryCycle := some 10, standstill := (Vector.replicate 7 true).set 6 false }
        pose := { s0.pose with entries := Vector.replicate 10 ⟨true, 0, 0, .ready, 0, 0⟩ } }
    let t := fbkTaken true 6 ⟨10, 0, 0, .ready, 0⟩ s .stopSupervisor
    Mirrors s .driveFault s.pose.driveFault ∧ t.stop.state = .held ∧ noticed 0 t = (true, [0x01#8, 0x02#8, 0x15#8])
      ∧ fbkTaken true 6 ⟨9, 0, 0, .ready, 0⟩ s .stopSupervisor = refreshLamps s
      ∧ fbkTaken true 7 ⟨10, 0, 0, .ready, 0⟩ s .stopSupervisor = s := by
  simp only [Mirrors]
  decide +kernel

/-- In position and out of it: the sample of take 3 is 0, the tolerance of the swing record 20. -/
theorem witness_of_a_cue_in_position :
    let s := { playingIn .cueing none with pose := { State.reset.pose with axes := State.reset.pose.axes.set 1 swing } }
    let x (position : Int) : FbkFields := ⟨1, position, 0, .ready, 0⟩
    (fbkTaken true 1 (x 20) s .takePlayer).player.state = .ready
      ∧ (fbkTaken true 1 (x 21) s .takePlayer).player.state = .cueing := by decide +kernel

theorem witness_MgtAndRpyAreRouted :
    (∀ n ∈ [2, 274], 2 ≤ (List.replicate n (0x01#8 : Byte)).length ∧ (List.replicate n (0x01#8 : Byte)).length ≤ 274)
      ∧ State.reset.spine.receivingU = [] ∧ State.reset.spine.receivingD = [] ∧ State.reset.inTest = false
      ∧ (linkGood .u State.reset).mgmt.requests.length < 4
      ∧ 4 ≤ (linkGood .u (State.reset.withMgmt
        { State.reset.mgmt with requests := List.replicate 4 (ask 1 []) })).mgmt.requests.length
      ∧ (inState .held).stop.state = .held ∧ (inState .parked).stop.state = .parked
      ∧ (inState .ramp).stop.state = .ramp ∧ (inState .run).stop.state = .run := by decide +kernel

theorem witness_BadFramesAreCounted :
    State.reset.spine.receivingU = [] ∧ State.reset.inTest = false
      ∧ receive .u (fbk 1 1 0 0 0).wire = .judged (.bad .kind)
      ∧ receive .d (cycFrame 1 true []).wire = .judged (.bad .kind)
      ∧ receive .u ((set 1 1 0 5).wire.dropLast ++ [0x00#8]) = .judged (.bad .check)
      ∧ receive .u [0x02#8, 0x01#8] = .incomplete
      ∧ (let s := State.reset.withLink { State.reset.link with thresholds := ⟨1, 0, 0, 0, 0, 0, 65535⟩ }
        let s1 := s.setCounter .u .errored 1
        let s2 := s.setCounter .u .errored 2
        (s1.link.thresholds.get .u .errored ≠ 0 ∧ s1.counter .u .errored ≤ s1.link.thresholds.get .u .errored
            ∧ s1.link.thresholds.get .u .errored < satInc 65535 (s1.counter .u .errored))
          ∧ satInc 65535 (s.counter .u .errored) ≤ s.link.thresholds.get .u .errored
          ∧ s2.link.thresholds.get .u .errored < s2.counter .u .errored
          ∧ s.link.thresholds.get .u .sequence = 65535 ∧ s.link.thresholds.get .d .errored = 0) := by decide +kernel

/-- The order of the reasons of R3: CHECK where the kind and the length are wrong too, KIND where the length is, LENGTH
alone, each bound of the announced length, and a good frame with and without its last byte. -/
theorem test_reasons_of_R3 :
    let wrong (f : Frame) : List Byte := f.wire.dropLast ++ [0x5A#8]
    let good : Frame := ⟨.mgt, 62#8, List.replicate 5 0x01#8⟩
    receive .u (wrong ⟨.note, 62#8, [0x01#8]⟩) = .judged (.bad .check)
      ∧ receive .u (Frame.wire ⟨.note, 62#8, [0x01#8]⟩) = .judged (.bad .kind)
      ∧ receive .u (Frame.wire ⟨.mgt, 62#8, [0x01#8]⟩) = .judged (.bad .length)
      ∧ receive .d (Frame.wire ⟨.fbk, 3#8, List.replicate 17 0x01#8⟩) = .judged (.bad .length)
      ∧ receive .u [0x09#8, 0x00#8, 0x01#8, 0x13#8] = .judged (.bad .length)
      ∧ receive .u [0x06#8, 0x3E#8, 0x01#8, 0x12#8] = .incomplete
      ∧ receive .u good.wire = .judged (.good good) ∧ receive .u good.wire.dropLast = .incomplete := by
  decide +kernel

theorem witness_UTransmitterServesInOrder :
    let s := busyU State.reset
    State.reset.spine.sendingU = none ∧ s.spine.sendingU = some ⟨⟨.note, 62#8, [0x00#8]⟩, false⟩
      ∧ s.notices.express = none ∧ s.spine.forward = [] ∧ s.mgmt.replies = [] ∧ s.notices.choice = none
      ∧ (noteOccurrence 16 [0x00#8] s).notices.choice = some 16
      ∧ ({ (noteOccurrence 16 [0x00#8] s).notices with
            config := { NoticeConfig.initial with express := some 16 } }).express = some 16
      ∧ (offerForward (fbk 1 1 0 0 0) s).spine.forward = fbk 1 1 0 0 0 :: []
      ∧ (appendReply 1 .ok [] false s).mgmt.replies = ⟨1, .ok, [], false⟩ :: [] := by decide +kernel

theorem witness_DTransmitterServesInOrder :
    let s := busyD State.reset
    State.reset.spine.sendingD = none ∧ s.spine.sendingD.isSome = true ∧ s.inTest = false
      ∧ (busyD (portD .test)).inTest = true ∧ s.spine.brake = none ∧ (∀ k : Fin 7, s.spine.decel[k] = none)
      ∧ (offerBrake .engage s).spine.brake = some ⟨.brk, 63#8, [0x00#8, 0x7F#8, 0x01#8]⟩
      ∧ (offerDecel 6 16 s).spine.decel[6] = some ⟨.dec, 6#8, [0x00#8, 0x10#8]⟩
      ∧ (∀ j : Fin 7, j.val < 6 → (offerDecel 6 16 s).spine.decel[j] = none) := by decide +kernel

theorem witness_OffersWaitInTheirQueues :
    let full := List.replicate 16 (set 1 1 0 5)
    (busyU State.reset).spine.sendingU.isSome = true ∧ (busyU State.reset).spine.forward.length < 16
      ∧ 16 ≤ ({ (busyU State.reset).spine with forward := full }).forward.length
      ∧ (portD .test).inTest = true ∧ (busyD State.reset).inTest = false
      ∧ (busyD State.reset).spine.sendingD.isSome = true ∧ (busyD State.reset).spine.queueD.length < 16
      ∧ 16 ≤ ({ (busyD State.reset).spine with queueD := full }).queueD.length := by decide +kernel

theorem witness_of_an_idle_transmitter :
    State.reset.spine.sendingU = none ∧ State.reset.notices.express = none ∧ State.reset.spine.forward = []
      ∧ State.reset.inTest = false ∧ State.reset.spine.sendingD = none ∧ State.reset.spine.brake = none
      ∧ (∀ k : Fin 7, State.reset.spine.decel[k] = none) ∧ State.reset.spine.queueD = []
      ∧ (cycFrame 1 true []).kind ≠ .set := by decide +kernel

/-- An idle transmitter offered a reply, an occurrence that is eligible and one that is not, and a brake and a
deceleration order. -/
theorem witness_of_an_idle_transmitter_offered :
    let s := State.reset
    let quiet := s.withNotices { s.notices with config := { s.notices.config with global := false } }
    (s.mgmt.replies = [] ∧ ∀ j : Fin 17, s.notices.eligible j = false)
      ∧ (appendReply 0x2A#8 .ok [] false s).spine.sendingU.map (·.frame.kind) = some .rpy
      ∧ (noteOccurrence 5 [0x01#8] s).spine.sendingU.map (·.frame.kind) = some .note
      ∧ (noteOccurrence 5 [0x01#8] quiet).spine.sendingU = none
      ∧ noticed 5 (noteOccurrence 5 [0x01#8] quiet) = (true, [0x01#8])
      ∧ (offerBrake .engage s).spine.sendingD.map (·.kind) = some .brk
      ∧ (offerDecel 6 16 s).spine.sendingD.map (·.kind) = some .dec := by decide +kernel

theorem witness_NoticeEntriesChangeAsR191Says :
    (busyU State.reset).spine.sendingU.isSome = true ∧ sourceLatched 14 = true
      ∧ (sendNotice 14 (noteOccurrence 14 [] (busyU State.reset))).notices.entries[14].sent = true := by
  decide +kernel

theorem witness_NoticeChoiceIsTheFirstEligible :
    State.reset.notices.choice = none
      ∧ (noteOccurrence 16 [0x00#8] (noteOccurrence 5 [] (busyU State.reset))).notices.choice = some 5
      ∧ (noteOccurrence 16 [0x00#8] (noteOccurrence 5 [] (busyU State.reset))).notices.eligible 16 = true := by
  decide +kernel

theorem witness_CausesEnter :
    (inState .run).stop.present[Cause.mgmtCut.code] = false ∧ (inState .run).stop.present[Cause.consoleStop.code] = false
      ∧ Cause.mgmtCut.isCut = true ∧ Cause.consoleStop.isCut = false ∧ (inState .run).stop.state = .run
      ∧ (inState .ramp).stop.state = .ramp ∧ (inState .held).stop.state = .held
      ∧ ((inState .cut).stop.state = .cut ∧ (inState .cut).stop.cutPresent = true)
      ∧ (playingIn .playing none).player.state = .playing ∧ (playingIn .playing none).stop.state = .run
      ∧ (playingIn .playing none).stop.present[Cause.mgmtCut.code] = false
      ∧ (recordingIn .recording .recording).recorder.take = some 3
      ∧ (recordingIn .recording .recording).recorder.state = .recording
      ∧ (recordingIn .armed .empty).recorder.state = .armed
      ∧ ((busyD (inState .run)).spine.sendingD.isSome = true ∧ (busyD (inState .run)).inTest = false
        ∧ (inState .run).spine.sendingD = none ∧ (inState .run).spine.brake = none
        ∧ ∀ k : Fin 7, (inState .run).spine.decel[k] = none)
      ∧ (let s := (inState .cut).withStop { (inState .cut).stop with present := FlagSet.empty 21 }
        s.stop.state = .cut ∧ s.stop.cutPresent = false ∧ s.stop.present[Cause.grip.code] = false)
      ∧ (let s := waking (inState .parked)
        s.stop.state = .parked ∧ s.stop.present[Cause.consoleStop.code] = false
          ∧ s.stop.trip[Cause.consoleStop.code] = false ∧ s.notices.config.wake[1] = true
          ∧ s.notices.entries[1].pending = false) := by decide +kernel

/-- The notices of a cause that enters: in RUN, in CUT with nothing left, and in PARKED with source 1 in the wake set;
of an event cause in RUN and out of it; and of the player and the recorder that leave RUN. -/
theorem witness_of_the_notices_of_a_cause :
    let clear (st : StopState) : State :=
      busyU ((inState st).withStop { (inState st).stop with present := FlagSet.empty 21, trip := FlagSet.empty 21 })
    let run := causeEnters .consoleStop (clear .run)
    let cut := causeEnters .grip (clear .cut)
    let parked := causeEnters .grip (waking (clear .parked))
    let slip := rampEvent .slip (clear .run)
    noticed 0 run = (true, [0x00#8, 0x01#8, 0x10#8]) ∧ noticed 1 run = (true, [0x10#8])
      ∧ noticed 0 cut = (true, [0x03#8, 0x02#8, 0x16#8]) ∧ noticed 1 cut = (true, [0x0F#8])
      ∧ noticed 0 parked = (true, [0x04#8, 0x02#8, 0x1A#8]) ∧ noticed 16 parked = (true, [0x01#8, 0x01#8])
      ∧ noticed 0 (causeEnters .mgmtCut (clear .held)) = (true, [0x02#8, 0x03#8, 0x0C#8])
      ∧ noticed 0 (causeEnters .grip (clear .held)) = (false, [])
      ∧ noticed 0 slip = (true, [0x00#8, 0x01#8, 0x13#8]) ∧ noticed 1 slip = (true, [0x13#8])
      ∧ noticed 1 (rampEvent .mgmtRamp (clear .held)) = (true, [0x14#8])
      ∧ noticed 5 (causeEnters .mgmtCut (busyU (playingIn .playing none)))
        = (true, [0x03#8, 0x04#8, 0x01#8, 0x03#8, 0x00#8, 0x00#8, 0x00#8])
      ∧ noticed 9 (causeEnters .mgmtCut (busyU (recordingIn .recording .recording)))
        = (true, [0x03#8, 0x01#8, 0x00#8, 0x00#8, 0x00#8, 0x00#8, 0x00#8]) := by decide +kernel

/-- A cause that leaves: the last CUT-category cause in CUT, one of two, and one in RUN. -/
theorem witness_of_a_cause_that_leaves :
    let s (st : StopState) (present : FlagSet 21) : State :=
      (inState st).withStop { (inState st).stop with present := present }
    let one := (FlagSet.empty 21).set 10 true
    ((s .cut one).stop.present[Cause.linkD.code] = true ∧ (s .cut one).stop.state = .cut
        ∧ ∀ d : Fin 21, d.val < 14 → (one.set 10 false)[d] = false)
      ∧ (∃ d : Fin 21, d.val < 14 ∧ ((one.set 0 true).set 10 false)[d] = true)
      ∧ (s .run one).stop.state ≠ .cut ∧ (s .cut one).stop.present[Cause.unconfigured.code] = false := by
  decide +kernel

theorem witness_StopRequestsAct :
    (∀ b ∈ [(0x00#8 : Byte), 0x01#8, 0x02#8, 0xFF#8], ∀ st ∈ [StopState.run, .ramp, .held, .cut, .parked],
      Takes (asking 0x03#8 [b] (inState st)) ⟨0x2A#8, 0x03#8, [b]⟩ (asked (inState st)))
      ∧ Takes (asking 0x04#8 [] (inState .cut)) ⟨0x2A#8, 0x04#8, []⟩ (asked (inState .cut))
      ∧ (asking 0x03#8 [0x01#8] (inState .run)).stop.present[Cause.mgmtCut.code] = false
      ∧ (causeEnters .mgmtCut (inState .run)).stop.present[Cause.mgmtCut.code] = true
      ∧ (asking 0x03#8 [0x00#8] (inState .run)).stop.state = .run
      ∧ (asking 0x03#8 [0x00#8] (inState .cut)).stop.state = .cut
      ∧ Instr.rampTimeout ≠ .stop ∧ Instr.rampTimeout ≠ .clearStop ∧ Instr.rampTimeout ≠ .coldReset
      ∧ Instr.rampTimeout ≠ .warmReset := by
  refine ⟨fun b _ st _ => takes_asking _ _ _ rfl rfl (Nat.zero_lt_succ 3), takes_asking _ _ _ rfl rfl (Nat.zero_lt_succ 3), ?_⟩
  decide +kernel

theorem witness_HeldParkAndWakeAct :
    (∀ st ∈ [StopState.run, .ramp, .held, .cut, .parked],
      Takes (asking 0x06#8 [] (inState st)) ⟨0x2A#8, 0x06#8, []⟩ (asked (inState st))
        ∧ Takes (asking 0x07#8 [] (inState st)) ⟨0x2A#8, 0x07#8, []⟩ (asked (inState st)))
      ∧ (asking 0x06#8 [] (inState .held)).stop.state = .held
      ∧ (∀ k : Fin 17, (inState .held).notices.config.wake[k] = true →
        (inState .held).notices.entries[k].pending = false)
      ∧ (let n := (noteOccurrence 16 [0x00#8] (busyU (inState .held))).notices
        n.entries[16].pending = true
          ∧ ({ n with config := { n.config with wake := (FlagSet.empty 17).set 16 true } }).config.wake[16] = true)
      ∧ (asking 0x07#8 [] (inState .parked)).stop.state = .parked
      ∧ ((waking (inState .parked)).stop.state = .parked ∧ (waking (inState .parked)).notices.config.wake[16] = true
        ∧ (waking (inState .parked)).notices.entries[16].pending = false)
      ∧ (inState .parked).notices.config.wake[0] = false := by
  refine ⟨fun st _ => ⟨takes_asking _ _ _ rfl rfl (Nat.zero_lt_succ 3), takes_asking _ _ _ rfl rfl (Nat.zero_lt_succ 3)⟩, ?_⟩
  decide +kernel

/-- PARK with source 0 in the wake set: parked, and woken at once by its own notice. -/
theorem witness_of_a_park_that_wakes :
    let s := asking 0x06#8 [] (busyU (waking (inState .held)))
    (∀ k : Fin 17, s.notices.config.wake[k] = true → s.notices.entries[k].pending = false)
      ∧ s.notices.config.wake[0] = true ∧ (after .park s).stop.state = .held
      ∧ noticed 0 (after .park s) = (true, [0x04#8, 0x02#8, 0x1A#8])
      ∧ noticed 16 (after .park s) = (true, [0x01#8, 0x00#8])
      ∧ noticed 0 (after .park (asking 0x06#8 [] (busyU (inState .held)))) = (true, [0x02#8, 0x04#8, 0x18#8])
      ∧ noticed 0 (after .wake (asking 0x07#8 [] (busyU (inState .parked)))) = (true, [0x04#8, 0x02#8, 0x19#8]) := by
  decide +kernel

theorem witness_RampsEnd :
    let s := causeEnters .consoleStop (inState .run)
    let t : State := { s with stop := { s.stop with entryCycle := some 10 } }
    (s.stop.state = .ramp ∧ IsDue s.stop.rampTimer (s.withTimebase 5000).timebase)
      ∧ (inState .run).stop.state ≠ .ramp
      ∧ ¬IsDue s.stop.rampTimer (s.withTimebase 4999).timebase ∧ t.stop.entryCycle = some 10
      ∧ 32768 ≤ ((9 : CycleNo) - 10).toNat ∧ ((10 : CycleNo) - 10).toNat ≤ 32767
      ∧ (∃ j : Fin 7, (t.stop.standstill.set 6 true)[j] = false)
      ∧ (∀ j : Fin 7, (((Vector.replicate 7 true).set 3 false).set 3 true)[j] = true) := by
  simp only [isDue_iff]
  decide +kernel

/-- A RAMP_TIMEOUT acts where the ramp timer is due, and not a millisecond before. -/
theorem test_ramp_timeout_when_due :
    let s := causeEnters .consoleStop (inState .run)
    (after .rampTimeout (s.withTimebase 4999)).stop.state = .ramp
      ∧ (after .rampTimeout (s.withTimebase 5000)).stop.state = .cut := by decide +kernel

theorem witness_GesturesRearm :
    (confirming.stop.state = .held ∧ confirming.stop.detector.state = .confirm
        ∧ confirming.stop.gesture.confirm ≤ confirming.stop.detector.count + 1)
      ∧ (∀ c : Fin 21, confirming.stop.present[c] = false)
      ∧ (∀ k : Fin 7, confirming.pose.entries[k.val].present = true
        ∧ confirming.pose.axes[k.val].softMin ≤ confirming.pose.entries[k.val].position
        ∧ confirming.pose.entries[k.val].position ≤ confirming.pose.axes[k.val].softMax)
      ∧ (busyD confirming).spine.sendingD.isSome = true ∧ (busyD confirming).inTest = false
      ∧ (∃ c : Fin 21, (inState .held).stop.present[c] = true) ∧ (inState .run).stop.state ≠ .held
      ∧ (let g : Gesture := ⟨.single, 15, 15, 1⟩
        g.confirm ≤ 1 ∧ g.kind = .single ∧ ({ confirming.stop with detector := ⟨.gap, 3⟩ }).detector.state = .gap)
      ∧ ¬confirming.stop.gesture.confirm ≤ 23 + 1
      ∧ ({ confirming.stop with detector := ⟨.pulse, 15⟩ }).gesture.pulseMax < 15 + 1
      ∧ ({ confirming.stop with detector := ⟨.pulse, 14⟩ }).detector.count + 1 ≤ confirming.stop.gesture.pulseMax
      ∧ ({ confirming.stop with detector := ⟨.gap, 15⟩ }).gesture.gapMax < 15 + 1
      ∧ ({ confirming.stop with detector := ⟨.gap, 14⟩ }).detector.count + 1 ≤ confirming.stop.gesture.gapMax
      ∧ (inState .held).pose.entries[0].present = false
      ∧ ¬(({ confirming.pose with entries := confirming.pose.entries.set 6 ⟨true, 1, 0, .ready, 0, 0⟩ }).entries[6].position
        ≤ confirming.pose.axes[6].softMax)
      ∧ (⟨.double, 15, 15, 25⟩ : Gesture).kind = .double ∧ (⟨.single, 15, 15, 25⟩ : Gesture).kind = .single := by
  decide +kernel

theorem witness_CrewStopLinesAct :
    let s := (after (.crewStopChannelChange 3 .a .opened) State.reset).withTimebase 50
    let t := after (.discrepancyWindowExpiry 3) s
    (State.reset.stop.lines[3].a = .closed ∧ State.reset.stop.lines[3].b = .closed)
      ∧ IsDue s.stop.lines[3].window s.timebase ∧ Mirrors s (.lineFault 3) false
      ∧ ¬IsDue (s.withTimebase 49).stop.lines[3].window (s.withTimebase 49).timebase
      ∧ t.stop.lines[3].latch = .awaitStop
      ∧ (after (.crewStopChannelChange 3 .b .opened) t).stop.lines[3].latch = .awaitClear := by
  simp only [Mirrors, isDue_iff]
  decide +kernel

/-- Notice 4 of a line fault: line 3, channel a open, channel b closed. -/
theorem test_notice_of_a_line_fault :
    noticed 4
        (after (.discrepancyWindowExpiry 3)
          ((after (.crewStopChannelChange 3 .a .opened) (busyU State.reset)).withTimebase 50))
      = (true, [0x03#8, 0x00#8, 0x01#8]) := by decide +kernel

theorem witness_SubstitutesAreOriginated :
    let cyc := after (.cycReceived 5 cycBlocks (cycFrame 1 true []).wire) State.reset
    let s := cyc.withTimebase 105
    let t := (after (.syncTimerExpiry cycBlocks) s).withTimebase 125
    IsDue s.stop.syncTimer s.timebase ∧ ¬IsDue cyc.stop.syncTimer (cyc.withTimebase 104).timebase
      ∧ IsDue t.stop.substituteTimer t.timebase ∧ ¬IsDue t.stop.substituteTimer (t.withTimebase 124).timebase
      ∧ (cyc.spine.receivingU = [] ∧ 1 ≤ cyc.stop.config.syncTimeout ∧ (cycFrame 2 true []).kind = .cyc
        ∧ (cycFrame 2 true []).payload.length = 12) := by
  simp only [isDue_iff]
  decide +kernel

/-- A CYC taken ahead of a sync timer's expiry that waits: the timer restarts and does not expire (R117). -/
theorem test_cyc_ahead_of_the_sync_expiry :
    let s := (after (.cycReceived 5 cycBlocks (cycFrame 1 true []).wire) State.reset).withTimebase 105
    let late := after (.cycReceived 105 cycBlocks (cycFrame 2 true []).wire) s
    Mirrors (after (.syncTimerExpiry cycBlocks) late) .syncLost false
      ∧ Mirrors (after (.syncTimerExpiry cycBlocks) s) .syncLost true := by
  simp only [Mirrors]
  decide +kernel

theorem witness_InputsAndLampsChange :
    (∀ x ∈ [(Pattern.b025, 500, 3500), (.b4, 125, 125)],
      x ∈ [(Pattern.b025, 500, 3500), (.b05, 500, 1500), (.b1, 500, 500), (.b2, 250, 250), (.b4, 125, 125)])
      ∧ (let l := Lamp.take 100 .b025 State.reset.stop.red
        l.pattern = .b025 ∧ l.phase = .running 100 500 ∧ 100 + 500 ≤ (State.reset.withTimebase 600).timebase
          ∧ (State.reset.withTimebase 599).timebase < 100 + 500)
      ∧ State.reset.stop.amber.pattern = .off ∧ State.reset.stop.red.pattern = .on
      ∧ State.reset.stop.red.phase.isRunning = false ∧ State.reset.stop.red.pattern ≠ .b025 := by decide +kernel

/-- A crane whose RESET is answered and transmitted, with take 3 LOADING. -/
def resetDue : State :=
  (withTake (oneSample .loading) State.reset).withMgmt { State.reset.mgmt with reset := .transmitted }

theorem witness_WarmResetKeepsAndClears :
    resetDue.mgmt.reset = .transmitted
      ∧ (State.reset.mgmt.reset ≠ .transmitted ∧ State.reset.spine.sendingU.any (·.ofReset) = false)
      ∧ ({ State.reset.spine with sendingU := some ⟨⟨.rpy, 62, [1, 0]⟩, true⟩ } : Spine).sendingU.any (·.ofReset) = true := by
  decide +kernel

/-- A warm reset with a frame in reception on D and another frame than the RESET reply in transmission, or that reply. -/
theorem witness_of_the_frames_at_a_warm_reset :
    let s := busyU { resetDue with spine := { resetDue.spine with receivingD := [0x03#8] } }
    let reply := { s with spine := { s.spine with sendingU := some ⟨⟨.rpy, 62#8, [0x2A#8, 0x00#8]⟩, true⟩ } }
    s.mgmt.reset = .transmitted ∧ (after .warmReset s).spine.sendingU = s.spine.sendingU
      ∧ (after .warmReset s).spine.receivingD = [0x03#8] ∧ (after .warmReset reply).spine.sendingU = none
      ∧ (after .warmReset s).stop.red = ⟨.on, true, .stopped⟩ := by decide +kernel

theorem witness_WarmResetErasesLoadingTakes :
    TakesAgree resetDue ∧ warmResetDue resetDue = true ∧ resetDue.store.takes[3].state = .loading := by
  refine ⟨⟨?_, ?_, ?_, ?_, ?_, fun e h => (nomatch h), ?_, ?_⟩, ?_, ?_⟩ <;> decide +kernel

/-- A crane whose RESET is answered and transmitted, with take 3 in RECORDING. -/
theorem witness_of_a_recording_at_a_warm_reset :
    let s := (recordingIn .recording .recording).withMgmt { State.reset.mgmt with reset := .transmitted }
    TakesAgree s ∧ warmResetDue s = true ∧ s.recorder.state = .recording ∧ s.recorder.take = some 3 := by
  refine ⟨⟨?_, ?_, ?_, ?_, ?_, fun e h => (nomatch h), ?_, ?_⟩, ?_, ?_, ?_⟩ <;> decide +kernel

/-- A port in ACQUIRING that takes a bad frame, and the runs and windows below their ends. -/
theorem witness_of_the_frames_counted :
    let r := State.reset.link.d
    (portD .acquiring).link.d.state = .acquiring ∧ (portD .acquiring).spine.receiving .d = []
      ∧ receive .d (cycFrame 1 true []).wire = .judged (.bad .kind)
      ∧ (after (.badFrame .d (cycFrame 1 true []).wire false) (portD .acquiring)).link.d.state = .down
      ∧ (busyU State.reset).spine.sendingU.isSome = true
      ∧ (r.state = .down ∧ ({ r with goodRun := 6 }).goodRun < 7)
      ∧ ((portD .degraded).link.d.state = .degraded ∧ ({ r with windowFrames := 1022 }).windowFrames < 1023
        ∧ ({ r with badRun := 2 }).badRun < 3) := by decide +kernel

theorem witness_PortStatesChange :
    let r := State.reset.link.d
    (r.state = .down ∧ 7 ≤ ({ r with goodRun := 7 }).goodRun) ∧ (portD .up).link.d.state ≠ .down
      ∧ IsDue ({ r with linkUpTimer := .running 0 100 }).linkUpTimer (State.reset.withTimebase 100).timebase
      ∧ ¬IsDue ({ r with linkUpTimer := .running 0 100 }).linkUpTimer (State.reset.withTimebase 99).timebase
      ∧ (let q : PortRecord := { r with state := .up, badRun := 3, windowFrames := 1023, windowErrors := 16 }
        (withD q).link.d.state = .up ∧ 3 ≤ (withD q).link.d.badRun ∧ (withD q).link.d.windowFrames = 1023
          ∧ (withD q).stop.config.highError ≤ (withD q).link.d.windowErrors)
      ∧ (let q : PortRecord :=
          { r with state := .degraded, badRun := 2, windowFrames := 1023, windowErrors := 14, holdPassed := true }
        (withD q).link.d.state = .degraded ∧ (withD q).link.d.badRun < 3
          ∧ (withD q).link.d.windowErrors + 1 < (withD q).stop.config.highError ∧ (withD q).link.d.holdPassed = true)
      ∧ ({ r with windowFrames := 1022 }).windowFrames < 1023
      ∧ IsDue ({ r with holdTimer := .running 0 1000 }).holdTimer (State.reset.withTimebase 1000).timebase
      ∧ ¬IsDue r.holdTimer (State.reset.withTimebase 1000).timebase
      ∧ State.reset.link.u.state ≠ .test ∧ (portD .test).link.d.state = .test := by
  simp only [isDue_iff]
  decide +kernel

theorem witness_LinkTestsRun :
    (∀ s ∈ [State.reset, inState .run, portD .test],
      Takes (asking 0x1B#8 [] s) ⟨0x2A#8, 0x1B#8, []⟩ (asked s) ∧ Takes (asking 0x1C#8 [] s) ⟨0x2A#8, 0x1C#8, []⟩ (asked s))
      ∧ (State.reset.stop.state = .cut ∧ State.reset.link.d.state ≠ .test) ∧ (inState .run).stop.state ≠ .cut
      ∧ (portD .test).link.d.state = .test ∧ State.reset.link.test.checking = false
      ∧ (after .linkTestStart (asking 0x1B#8 [] State.reset)).link.test.checking = true := by
  refine ⟨?_, by decide +kernel⟩
  simp only [List.mem_cons, List.not_mem_nil, or_false]
  rintro s (rfl | rfl | rfl) <;>
    exact ⟨takes_asking _ _ _ rfl rfl (Nat.zero_lt_succ 3), takes_asking _ _ _ rfl rfl (Nat.zero_lt_succ 3)⟩

/-- Notice 13 of the start and of the stop of a link test, and the first bits of the pattern, which the register of ones
gives: zeros. -/
theorem test_notices_of_a_link_test :
    noticed 13 (after .linkTestStart (asking 0x1B#8 [] (busyU State.reset))) = (true, [0x01#8, 0x00#8, 0x04#8, 0x06#8])
      ∧ noticed 13 (after .linkTestStop (asking 0x1C#8 [] (busyU (portD .test))))
        = (true, [0x01#8, 0x04#8, 0x00#8, 0x07#8])
      ∧ patternStep 0x7FFF#15 = 0x7FFE#15 ∧ patternStep 0x4000#15 = 0x0001#15 := by decide +kernel

theorem witness_ReadsAnswerTheirRecords :
    ∀ selector index : Byte, ∀ clear : Bool,
      Takes (asking 0x01#8 [selector, index, flagByte clear] State.reset) (readRequest 0x2A#8 selector index clear)
        (asked State.reset) := fun _ _ _ => takes_asking _ _ _ rfl rfl (Nat.zero_lt_succ 3)

/-- Bytes by hand (R23): numbers, sets at their first and last member, a free page list, and how many bytes the pose and the
evaluation take. -/
theorem witness_of_the_bytes_of_records :
    (natBE 3 16777215 = [0xFF#8, 0xFF#8, 0xFF#8] ∧ (16777215 : Nat) < 2 ^ (8 * 3))
      ∧ (intBE 3 (-1048575) = [0xF0#8, 0x00#8, 0x01#8] ∧ -(2 ^ (8 * 3)) ≤ (-1048575 : Int))
      ∧ (let m : FlagSet 10 := ((FlagSet.empty 10).set 0 true).set 9 true
        (∀ k : Fin 10, (513 : Nat).testBit k.val = m[k]) ∧ axisSetBytes m = [0x02#8, 0x01#8])
      ∧ (let m : FlagSet 21 := ((FlagSet.empty 21).set 0 true).set 20 true
        (∀ c : Fin 21, (1048577 : Nat).testBit c.val = m[c]) ∧ causeSetBytes m = [0x10#8, 0x00#8, 0x01#8])
      ∧ freeCountBytes [7, 300] = [0x00#8, 0x02#8, 0x01#8, 0x00#8, 0x07#8, 0x01#8, 0x01#8, 0x2C#8]
      ∧ (poseBytes State.reset.pose).length = 10 * 12 + 1 + 3 + 2 + 1 + 2 + 16 + 12 + 13
      ∧ (evaluationBytes Evaluation.initial).length = 1 + 3 + 13 + 13 + 49 + 8 + 24 + 1 + 2 := by decide +kernel

theorem witness_ReadsOfCounts :
    ∀ index : Byte, ∀ clear : Bool,
      Takes (asking 0x01#8 [0x13#8, index, flagByte clear] State.reset) (readRequest 0x2A#8 0x13#8 index clear)
        (asked State.reset) := fun _ _ => takes_asking _ _ _ rfl rfl (Nat.zero_lt_succ 3)

/-- A WRITE taken in a state without a reply waiting. -/
theorem takes_write (selector index : Byte) (record : List Byte) (s : State) (he : s.mgmt.erasing = none)
    (hr : s.mgmt.reset = .none) (hl : s.mgmt.replies.length < 4) :
    Takes (asking 0x02#8 (selector :: index :: record) s) (writeRequest 0x2A#8 selector index record) (asked s) :=
  takes_asking _ _ _ he hr hl

/-- The crane with its configuration locked. -/
def locked (s : State) : State := s.withMgmt { s.mgmt with locked := true }

theorem witness_LockedWritesAct :
    (∀ selector index : Byte, ∀ record : List Byte, ∀ s ∈ [State.reset, locked State.reset, inState .run],
      Takes (asking 0x02#8 (selector :: index :: record) s) (writeRequest 0x2A#8 selector index record) (asked s))
      ∧ State.reset.mgmt.locked = false ∧ (locked State.reset).mgmt.locked = true ∧ (inState .run).stop.state = .run
      ∧ readAxisRecord 1 (axisRecordBytes 1 swing) = some swing ∧ axisInRange 1 swing = true
      ∧ readAxisRecord 7 (axisRecordBytes 7 focus) = some focus ∧ axisInRange 7 focus = true
      ∧ readAxisRecord 1 (axisRecordBytes 1 { swing with stepMax := 0 }) = some { swing with stepMax := 0 }
      ∧ axisInRange 1 { swing with stepMax := 0 } = false
      ∧ readGeometry (geometryBytes workedPose.geometry) = some workedPose.geometry
      ∧ geometryInRange workedPose.geometry = true
      ∧ (readZone (zoneBytes Zone.initial)).isSome = true
      ∧ (readZone (zoneBytes Zone.initial)).map zoneInRange = some true
      ∧ (readZone (zoneBytes { Zone.initial with factor := 17 })).map zoneInRange = some false
      ∧ readStopConfig (stopConfigBytes StopConfig.initial) = some StopConfig.initial
      ∧ stopConfigInRange StopConfig.initial = true
      ∧ stopConfigInRange { StopConfig.initial with degradeFactor := 0 } = false
      ∧ (portD .degraded).link.d.state = .degraded
      ∧ readGesture (gestureBytes Gesture.initial) = some Gesture.initial ∧ gestureInRange Gesture.initial = true
      ∧ gestureInRange { Gesture.initial with confirm := 0 } = false
      ∧ readLampMap (lampMapBytes defaultLampMap) = some defaultLampMap := by
  refine ⟨fun _ _ _ s hs => ?_, by decide +kernel⟩
  simp only [List.mem_cons, List.not_mem_nil, or_false] at hs
  obtain rfl | rfl | rfl := hs <;> exact takes_write _ _ _ _ rfl rfl (Nat.zero_lt_succ 3)

/-- The bounds of R40, R43, R61, R118 and R122, each met and each exceeded by one. -/
theorem witness_of_the_ranges :
    (stopConfigInRange ⟨10, 100, 5, 1, 1, 1, 1⟩ = true ∧ stopConfigInRange ⟨9, 100, 5, 1, 1, 1, 1⟩ = false)
      ∧ (let r : AxisRecord :=
          ⟨true, 0, 1, 1048575, 65535, 1023, 15, 16777215, 7, 65535, 16, -65535, 24⟩
        axisInRange 3 r = true ∧ axisInRange 3 { r with unitMultiplier := 65536 } = false
          ∧ axisInRange 3 { r with unitMultiplier := 0 } = false ∧ axisInRange 4 { r with unitMultiplier := 0 } = true
          ∧ axisInRange 6 { r with standstill := 1024 } = false ∧ axisInRange 7 { r with standstill := 1024 } = true
          ∧ axisInRange 7 { r with softMax := 0 } = false)
      ∧ (let g : Geometry := { valid := true, pivot := ⟨-100000, 100000, 0⟩, headDrop := 2000, headRadius := 3000 }
        geometryInRange g = true ∧ geometryInRange { g with headDrop := 2001 } = false
          ∧ geometryInRange { g with pivot := ⟨-100001, 0, 0⟩ } = false)
      ∧ (let z : Zone := { Zone.initial with kind := .crew, band := 5000 }
        zoneInRange ⟨z, 7⟩ = true ∧ zoneInRange ⟨z, 8⟩ = false ∧ zoneInRange ⟨{ z with kind := .soft }, 8⟩ = true
          ∧ (⟨z, 7⟩ : ZoneBody).stored.presence = some 7 ∧ zoneInRange ⟨{ z with band := 5001 }, 7⟩ = false)
      ∧ (gestureInRange ⟨.single, 63, 63, 255⟩ = true ∧ gestureInRange ⟨.single, 64, 63, 255⟩ = false) := by
  decide +kernel

theorem witness_UnlockedWritesAct :
    (∀ selector index : Byte, ∀ record : List Byte,
      Takes (asking 0x02#8 (selector :: index :: record) State.reset) (writeRequest 0x2A#8 selector index record)
        (asked State.reset))
      ∧ (∀ n ∈ [10000, 10001], readSubject (subjectBytes ⟨⟨1, 2, 3⟩, n⟩) = some ⟨⟨1, 2, 3⟩, n⟩)
      ∧ readCueSlot [0x00#8] = some ⟨[], none, 0⟩
      ∧ readCueSlot (0x08#8 :: (List.replicate 8 0x7E#8 ++ [CueAction.mark.code]))
        = some ⟨List.replicate 8 0x7E#8, some .mark, 0⟩
      ∧ State.reset.cues[7].pattern = []
      ∧ (State.reset.cues.set 7 ⟨[0x7E#8], some .mark, 0⟩)[7].pattern ≠ []
      ∧ readNoticeConfig (noticeConfigBytes NoticeConfig.initial) = some NoticeConfig.initial
      ∧ readThresholds (thresholdsBytes ⟨0, 0, 0, 0, 0, 0, 65535⟩) = some ⟨0, 0, 0, 0, 0, 0, 65535⟩ := by
  refine ⟨fun _ _ _ => takes_write _ _ _ _ rfl rfl (Nat.zero_lt_succ 3), by decide +kernel⟩

/-- R194: the special values of the order code and of the express source, each at its bound. -/
theorem test_notice_configuration_of_R194 :
    let order (order express : Byte) (wake : Nat) : Option Nat :=
      (readNoticeConfig ([order, 0x01#8, 0x01#8, 0x01#8, 0x01#8, express] ++ natBE 3 wake)).map (·.order)
    order 0x00#8 0x11#8 0 = some 1 ∧ order 0x01#8 0x10#8 0 = some 1 ∧ order 0x06#8 0x00#8 (2 ^ 17 - 1) = some 6
      ∧ order 0x07#8 0x11#8 0 = some 1 ∧ order 0x08#8 0x11#8 0 = none ∧ order 0x01#8 0x12#8 0 = none
      ∧ order 0x01#8 0x11#8 (2 ^ 17) = none := by decide +kernel

theorem witness_UnknownAndIllFormedRequestsAreAnswered :
    (∀ code : Byte, ∀ body : List Byte,
      Takes (asking code body State.reset) ⟨0x2A#8, code, body⟩ (asked State.reset))
      ∧ 0x1E ≤ (0x1E#8 : Byte).toNat ∧ 0x18 ≤ (0x18#8 : Byte).toNat ∧ 0x0B ≤ (0x0B#8 : Byte).toNat
      ∧ readGeometry [] = none ∧ readStopConfig [] = none ∧ readGesture [] = none ∧ readLampMap [] = none
      ∧ readNoticeConfig [] = none ∧ readThresholds [] = none := by
  refine ⟨fun _ _ => takes_asking _ _ _ rfl rfl (Nat.zero_lt_succ 3), by decide +kernel⟩

/-- The other ill-formed bodies, each at the bound of its range. -/
theorem witness_of_ill_formed_bodies :
    32 ≤ (0x20#8 : Byte).toNat ∧ (0x06#8 : Byte).toNat < 7 ∧ 10 ≤ (0x0A#8 : Byte).toNat
      ∧ (7 ≤ (0x09#8 : Byte).toNat ∧ (0x09#8 : Byte).toNat < 7 + 3) ∧ ([0x02#8] : List Byte) ≠ [0x00#8]
      ∧ ([0x02#8] : List Byte) ≠ [0x01#8] ∧ readAxisRecord 1 [] = none ∧ readZone [] = none ∧ readSubject [] = none
      ∧ readCueSlot [0x09#8] = none ∧ readCueSlot [0x01#8, 0x7E#8, 0x07#8] = none
      ∧ readLoadBegin [0x03#8, 0x00#8, 0x02#8, 0x00#8, 0x00#8, 0x00#8] = none
      ∧ readLoadPage [0x03#8, 0x01#8, 0x01#8, 0x00#8, 0x00#8, 0x00#8] = none ∧ readCurveLoad [0x07#8] = none
      ∧ ([] : List Byte).length ≠ 1 ∧ ([0x03#8, 0x00#8] : List Byte).length ≠ 3
      ∧ (natBE 2 (2 ^ 10) = [0x04#8, 0x00#8] ∧ natBE 2 (2 ^ 16 - 1) = [0xFF#8, 0xFF#8]) := by decide +kernel

/-- An ARM_RECORD whose mask names axis 10 is INVALID where one that names axis 9 is taken to its tests (R23). -/
theorem test_mask_with_a_bit_that_names_no_axis :
    let result (body : List Byte) := ((after .armRecord (asking 0x0A#8 body (busyU State.reset))).mgmt.replies.map (·.result))
    result [0x00#8, 0x04#8, 0x00#8] = [.invalid] ∧ result [0x00#8, 0x02#8, 0x00#8] = [.refused] := by decide +kernel

theorem witness_SetScaleStoresTheTrim :
    (∀ v ∈ [(0x00#8 : Byte), 0x01#8, 0x10#8, 0x11#8, 0xFF#8],
      Takes (asking 0x05#8 [v] State.reset) ⟨0x2A#8, 0x05#8, [v]⟩ (asked State.reset))
      ∧ exec .rampTimeout State.reset = .next State.reset ∧ Instr.rampTimeout ≠ .setScale
      ∧ (let s := { State.reset with env := { State.reset.env with scale := ⟨16, 16, 1, 1⟩ } }
        s.env.scale.trim = 1 ∧ ScaleAgrees s) := by
  refine ⟨fun _ _ => takes_asking _ _ _ rfl rfl (Nat.zero_lt_succ 3), rfl, by decide, rfl, rfl⟩

theorem witness_LockAndResetRequestsAct :
    (∀ code ∈ [(0x08#8 : Byte), 0x09#8, 0x1D#8],
      Takes (asking code [] State.reset) ⟨0x2A#8, code, []⟩ (asked State.reset))
      ∧ State.reset.pins.serviceKey = false
      ∧ (after (.serviceKeyChange true) State.reset).pins.serviceKey = true
      ∧ (Instr.readAxis ∈ requestRows ∧ Instr.reset ∈ requestRows ∧ requestRows.length = 63)
      ∧ (let full : Mgmt := { State.reset.mgmt with replies := List.replicate 4 ⟨0x01#8, .ok, [], false⟩ }
        4 ≤ full.replies.length ∧ ({ full with erasing := some ⟨0x01#8, 3⟩ } : Mgmt).erasing.isSome = true
          ∧ resetDue.mgmt.reset ≠ .none)
      ∧ State.reset.mgmt.requests = [] ∧ (⟨0x2A#8, 0x08#8, []⟩ : Request).row ≠ .unlockConfig := by
  refine ⟨fun _ _ => takes_asking _ _ _ rfl rfl (Nat.zero_lt_succ 3), by decide +kernel⟩

theorem witness_ClearNoticeClears :
    (∀ n ∈ [0, 2 ^ 17 - 1, 2 ^ 17, 2 ^ 24 - 1],
      Takes (asking 0x1A#8 (natBE 3 n) State.reset) ⟨0x2A#8, 0x1A#8, natBE 3 n⟩ (asked State.reset))
      ∧ (2 ^ 17 - 1).testBit 16 = true ∧ (0).testBit 0 = false
      ∧ State.reset.notices.entries[(16 : Fin 17)].pending = false := by
  refine ⟨fun _ _ => takes_asking _ _ _ rfl rfl (Nat.zero_lt_succ 3), by decide⟩

theorem witness_RecorderRequestsAct :
    (∀ body : List Byte, ∀ s ∈ [inState .run, swinging, recordingIn .armed .empty, recordingIn .recording .recording],
      Takes (asking 0x0A#8 body s) ⟨0x2A#8, 0x0A#8, body⟩ (asked s)
        ∧ Takes (asking 0x0B#8 [] s) ⟨0x2A#8, 0x0B#8, []⟩ (asked s))
      ∧ (∀ k : Fin 10, (FlagSet.empty 10)[k] = false) ∧ (∃ k : Fin 10, ((FlagSet.empty 10).set 1 true)[k] = true)
      ∧ swinging.gate.last[1] = some 131072 ∧ swinging.stop.state = .run ∧ swinging.recorder.state = .idle
      ∧ swinging.store.takes[31].state = .empty ∧ swinging.player.take = none
      ∧ ((inState .run).gate.last[1] = none ∧ (inState .run).pose.entries[1].present = false)
      ∧ (((FlagSet.empty 10).set 9 true)[lensAxis 2] = true ∧ (inState .run).lens.curves[2].valid = false)
      ∧ ((recordingIn .armed .empty).recorder.take = some 3 ∧ (recordingIn .armed .empty).recorder.state = .armed)
      ∧ (recordingIn .recording .recording).recorder.state = .recording
      ∧ ((recordingIn .recording .recording).store.writeSample 3
        (recordingIn .recording .recording).recorder.sample).isSome = true
      ∧ ({ (recordingIn .recording .recording).store with free := [] }).writeSample 3
        (recordingIn .recording .recording).recorder.sample = none := by
  refine ⟨?_, by decide +kernel⟩
  simp only [List.mem_cons, List.not_mem_nil, or_false]
  rintro body s (rfl | rfl | rfl | rfl) <;>
    exact ⟨takes_asking _ _ _ rfl rfl (Nat.zero_lt_succ 3), takes_asking _ _ _ rfl rfl (Nat.zero_lt_succ 3)⟩

/-- Notice 9 of an arming and of a recording that STOP_RECORD ends. -/
theorem test_notices_of_stop_record :
    noticed 9 (after .stopRecord (asking 0x0B#8 [] (busyU (recordingIn .armed .empty))))
        = (true, [0x03#8, 0x00#8, 0x00#8, 0x00#8, 0x00#8, 0x00#8, 0x00#8])
      ∧ noticed 9 (after .stopRecord (asking 0x0B#8 [] (busyU (recordingIn .recording .recording))))
        = (true, [0x03#8, 0x00#8, 0x00#8, 0x00#8, 0x01#8, 0x00#8, 0x01#8]) := by decide +kernel

theorem witness_SamplesAreWritten :
    let st := (withTake { Take.initial with mask := (FlagSet.empty 10).set 1 true } State.reset).store
    (Memory.wf st.words = true ∧ [(5 : Int)].length = st.takes[3].mask.size ∧ 1 ≤ st.takes[3].mask.size)
      ∧ st.takes[3].samples % st.takes[3].perPage = 0
      ∧ st.takes[3].samples = st.takes[3].chain.length * st.takes[3].perPage
      ∧ st.free = 0 :: (List.range 3072).tail
      ∧ ({ st with free := [] }).free = []
      ∧ (oneSample .recording).samples % (oneSample .recording).perPage ≠ 0 := by decide +kernel

theorem witness_TakeRequestsAct :
    (∀ code : Byte, ∀ body : List Byte,
      ∀ s ∈ [State.reset, withTake (oneSample .closed) State.reset, withTake (oneSample .loading) State.reset,
        withTake { oneSample .closed with chain := [] } State.reset, withTake (oneSample .recording) State.reset],
      Takes (asking code body s) ⟨0x2A#8, code, body⟩ (asked s))
      ∧ (let s := withTake (oneSample .closed) State.reset
        s.store.takes[3].state = .closed ∧ s.store.takes[3].locked = false ∧ s.store.takes[3].chain = 0 :: []
          ∧ s.store.takes[3].chain[0]? = some 0 ∧ s.recorder.take = none ∧ s.player.take = none)
      ∧ (let s := after .erase (asking 0x0C#8 [0x03#8] (withTake (oneSample .closed) State.reset))
        s.mgmt.erasing = some ⟨0x2A#8, 3⟩ ∧ s.store.takes[3].chain = 0 :: [])
      ∧ State.reset.mgmt.erasing = none ∧ State.reset.store.takes[3].state = .empty
      ∧ (let s := withTake { oneSample .loading with samples := 64, isOpen := true } State.reset
        s.store.takes[3].state = .loading ∧ s.store.takes[3].isOpen = true ∧ s.store.takes[3].perPage = 64
          ∧ Memory.wf s.store.words = true ∧ s.store.free ≠ [])
      ∧ (readLoadPage (0x03#8 :: 0x40#8 :: 0x40#8 :: (List.replicate 64 (intBE 4 5)).flatten)).map (·.words.length)
        = some 64
      ∧ (readLoadBegin [0x03#8, 0x00#8, 0x02#8, 0x00#8, 0x00#8, 0x00#8, 0x00#8]).isSome = true := by
  refine ⟨?_, by decide +kernel⟩
  simp only [List.mem_cons, List.not_mem_nil, or_false]
  rintro code body s (rfl | rfl | rfl | rfl | rfl) <;> exact takes_asking _ _ _ rfl rfl (Nat.zero_lt_succ 3)

theorem witness_PlayerRequestsAct :
    (∀ code : Byte, ∀ body : List Byte,
      ∀ s ∈ [State.reset, playingIn .ready none, playingIn .suspended (some .playing), playingIn .holding none,
        withTake (oneSample .closed) (inState .run)],
      Takes (asking code body s) ⟨0x2A#8, code, body⟩ (asked s))
      ∧ (let s := withTake (oneSample .closed) (inState .run)
        s.player.state = .idle ∧ s.stop.state = .run ∧ s.store.takes[3].state = .closed
          ∧ s.store.takes[3].samples = 1 ∧ s.store.takes[3].mask[7] = false
          ∧ ∀ i : Fin 3, s.store.takes[3].mask[lensAxis i] = false)
      ∧ ((((FlagSet.empty 10).set 8 true)[lensAxis 1] = true) ∧ State.reset.lens.curves[1].valid = false)
      ∧ (playingIn .ready none).player.state = .ready
      ∧ ((playingIn .suspended (some .playing)).player.state = .suspended
        ∧ (playingIn .suspended (some .playing)).stop.state = .run)
      ∧ (playingIn .holding none).player.state = .holding ∧ State.reset.player.state = .idle := by
  refine ⟨?_, by decide +kernel⟩
  simp only [List.mem_cons, List.not_mem_nil, or_false]
  rintro code body s (rfl | rfl | rfl | rfl | rfl) <;> exact takes_asking _ _ _ rfl rfl (Nat.zero_lt_succ 3)

/-- Notice 5 of a CUE and of a RELEASE. -/
theorem test_notices_of_the_player :
    noticed 5 (after .cue (asking 0x13#8 [0x03#8] (busyU (withTake (oneSample .closed) (inState .run)))))
        = (true, [0x00#8, 0x01#8, 0x01#8, 0x03#8, 0x00#8, 0x00#8, 0x00#8])
      ∧ noticed 5 (after .release (asking 0x16#8 [] (busyU (playingIn .holding none))))
        = (true, [0x05#8, 0x00#8, 0x00#8, 0x00#8, 0x00#8, 0x00#8, 0x00#8]) := by decide +kernel

theorem witness_LensRequestsAct :
    (∀ code : Byte, ∀ body : List Byte, ∀ s ∈ [State.reset, focusing],
      Takes (asking code body s) ⟨0x2A#8, code, body⟩ (asked s))
      ∧ (let body : List Byte :=
          [0x07#8, 0x41#8, 0x42#8, 0x43#8, 0x44#8, 0x02#8] ++ natBE 3 1000 ++ intBE 4 0 ++ natBE 3 2000 ++ intBE 4 30000
        readCurveLoad body = some (0, #v[0x41#8, 0x42#8, 0x43#8, 0x44#8], [⟨1000, 0⟩, ⟨2000, 30000⟩]))
      ∧ curvePointsOk 0 [⟨1, 0⟩, ⟨16777215, 30000⟩] = true ∧ curvePointsOk 0 [⟨1000, 0⟩] = false
      ∧ curvePointsOk 1 [⟨50, 9⟩, ⟨9999, 8⟩] = true ∧ curvePointsOk 1 [⟨49, 9⟩, ⟨9999, 8⟩] = false
      ∧ curvePointsOk 2 [⟨10, 9⟩, ⟨30000, 8⟩] = true ∧ curvePointsOk 2 [⟨10, 9⟩, ⟨30001, 8⟩] = false
      ∧ curvePointsOk 2 [⟨10, 9⟩, ⟨11, 9⟩] = false
      ∧ State.reset.player.mask[lensAxis 0] = false ∧ State.reset.recorder.state = .idle
      ∧ State.reset.lens.curves[0].valid = false ∧ focusing.lens.curves[0].valid = true
      ∧ focusing.player.mask[7] = false ∧ 4 ≤ (0x04#8 : Byte).toNat ∧ State.reset.lens.follow.on = false := by
  refine ⟨?_, by decide +kernel⟩
  simp only [List.mem_cons, List.not_mem_nil, or_false]
  rintro code body s (rfl | rfl) <;> exact takes_asking _ _ _ rfl rfl (Nat.zero_lt_succ 3)

theorem witness_SinesAndReachAreBounded :
    (256 ≤ 256 ∧ 254 < 255 ∧ 255 < 256 ∧ 63 < 64) ∧ (-16384 : Int) ≤ 16384 ∧ (0 : Int) ≤ 400000 ∧ State.reset.pose.axes[0].unitShift = 0
      ∧ 1 ≤ workedPose.axes[0].unitShift
      ∧ ((0 : Int) ≤ 8192 ∧ (8192 : Int) < 65536 ∧ (65536 : Int) ∣ unitValue workedPose.axes[1] 131072 - 8192) := by
  decide +kernel

theorem witness_FollowDistanceIsExact :
    844424829468675 < 2 ^ 52
      ∧ followDistance ⟨2147483647, 2147483647, 2147483647⟩ ⟨-2147483648, -2147483648, -2147483648⟩ = 29058988
      ∧ State.reset.lens.follow.on = false ∧ (turnFollowOn 1 focusing).lens.follow.on = true
      ∧ (clampInt 1 16777215 6001 > 6000 ∧ ¬clampInt 1 16777215 6000 > 6000) := by decide +kernel

theorem witness_TranslationsKeepToTheCurve :
    curvePointsOk 0 [⟨1000, 0⟩, ⟨2000, 30000⟩, ⟨3500, 41000⟩, ⟨6000, 52000⟩] = true
      ∧ curvePointsOk 0 [⟨1000, 52000⟩, ⟨6000, 0⟩] = true := by decide +kernel

/-- Interpolation in the first segment of the worked curve, and of a curve that falls. -/
theorem witness_of_an_interpolation :
    let c : Curve := { Curve.initial with points := [⟨1000, 0⟩, ⟨2000, 30000⟩, ⟨3500, 41000⟩, ⟨6000, 52000⟩] }
    let d : Curve := { Curve.initial with points := [⟨1000, 52000⟩, ⟨6000, 0⟩] }
    2 + 1 < c.points.length ∧ ((c.at 2).user : Int) ≤ 3500 ∧ (3500 : Int) ≤ (c.at 3).user
      ∧ (c.at 0).count < (c.at 3).count ∧ (d.at 1).count < (d.at 0).count
      ∧ (min (d.at 0).count (d.at 1).count ≤ 26000 ∧ 26000 ≤ max (d.at 0).count (d.at 1).count) := by decide +kernel

theorem witness_ProjectionAndSweptBox :
    0 < 8 ∧ 0 < stopDistance 125 8 ∧ swing.softMin ≤ swing.softMax
      ∧ ((⟨131072, 0⟩ : Motion).velocity = 0 ∧ swing.softMin ≤ 131072 ∧ 131072 ≤ swing.softMax)
      ∧ (0 < (⟨60000, 125⟩ : Motion).velocity ∧ (⟨25000, -40⟩ : Motion).velocity < 0)
      ∧ ((7019 : Int) - 6419).natAbs ≤ 600 := by decide

theorem witness_EvaluationsAct :
    let z : Zone := ⟨true, .crew, ⟨⟨5000, 3000, 0⟩, ⟨10000, 6000, 4000⟩⟩, some 7, 1500, 4⟩
    z.box.holds ⟨5000, 3000, 0⟩ ∧ z.enabled = true ∧ z.kind = .crew ∧ z.presence = some 7
      ∧ (after (.presenceInputChange 7 true) State.reset).pins.presence[7] = true
      ∧ (evaluate 5 workedMotions ⟨6419, 3919, 3646⟩
          { State.reset with
            pose := workedPose
            env := { State.reset.env with zones := State.reset.env.zones.set 23 { z with kind := .obstacle } } }
        ).env.evaluation.zones[23] = .intrude := by
  refine ⟨by simp [Box.holds], ?_⟩
  decide +kernel

/-- Notice 2 of a zone that becomes INTRUDE. -/
theorem test_notice_of_a_zone :
    noticed 2
        (evaluate 5 workedMotions ⟨6419, 3919, 3646⟩
          (busyU
            { State.reset with
              pose := workedPose
              env :=
                { State.reset.env with
                  zones :=
                    State.reset.env.zones.set 23
                      ⟨true, .obstacle, ⟨⟨5000, 3000, 0⟩, ⟨10000, 6000, 4000⟩⟩, none, 1500, 4⟩ } }))
      = (true, [0x17#8, 0x00#8, 0x00#8, 0x02#8, 0x00#8, 0x05#8]) := by decide +kernel

theorem witness_of_the_frame_of_ZONE :
    exec .rampTimeout State.reset = .next State.reset
      ∧ (∀ order bytes, Instr.rampTimeout ≠ .fbkReceived order bytes) ∧ (∀ bytes, Instr.rampTimeout ≠ .rpyReceived bytes)
      ∧ (∀ bytes cut, Instr.rampTimeout ≠ .badFrame .d bytes cut) ∧ Instr.rampTimeout ≠ .coldReset
      ∧ Instr.rampTimeout ≠ .warmReset :=
  ⟨rfl, fun _ _ => nofun, fun _ => nofun, fun _ _ => nofun, nofun, nofun⟩

theorem witness_CuePatternsFire :
    let s := State.reset.withCues (State.reset.cues.set 7 ⟨[0x7E#8, 0x00#8, 0x21#8], some .mark, 0⟩)
    let at2 := setProgress 7 2 s
    ((s.cues[7].pattern ≠ [] ∧ s.cues[7].action = some .mark ∧ (∀ j : Fin 8, j ≠ 7 → s.cues[j].pattern = []))
      ∧ s.cues[7].progress = 0 ∧ s.cues[7].pattern[0]? = some 0x7E#8 ∧ s.cues[7].pattern.head? = some 0x7E#8
      ∧ (at2.cues[7].pattern[at2.cues[7].progress]? = some 0x21#8 ∧ 2 + 1 = at2.cues[7].pattern.length)
      ∧ s.cues[7].progress + 1 < s.cues[7].pattern.length
      ∧ ¬((0x21#8 : Byte) = 0x00#8 ∨ (0x21#8 : Byte) = 0x7E#8)
      ∧ (∀ code body, ∀ st ∈ [State.reset, inState .run],
        Takes (asking code body st) ⟨0x2A#8, code, body⟩ (asked st)))
      ∧ List.Forall₂ (fun x b => x = 0x00#8 ∨ x = b) s.cues[7].pattern [0x7E#8, 0x55#8, 0x21#8] := by
  refine ⟨⟨by decide, by decide, by decide, by decide, by decide, by decide, by decide, fun code body st hs => ?_⟩, ?_⟩
  · simp only [List.mem_cons, List.not_mem_nil, or_false] at hs
    obtain rfl | rfl := hs <;> exact takes_asking _ _ _ rfl rfl (Nat.zero_lt_succ 3)
  · exact .cons (.inr rfl) (.cons (.inl rfl) (.cons (.inr rfl) .nil))

theorem witness_PlayingIsPaced :
    (playingIn .playing none).player.take = some 3 ∧ (playingIn .playing none).player.state = .playing
      ∧ (playingIn .playing none).store.takes[3].samples = 1 ∧ (playingIn .playing none).recorder.state = .idle
      ∧ (∀ g ∈ [1, 4], 1 ≤ g ∧ g ≤ 4) ∧ (playingIn .holding none).player.state = .holding
      ∧ (playingIn .suspended none).player.take = some 3
      ∧ ((playingIn .ready none).player.state = .ready ∧ (playingIn .ready none).player.goPending = false)
      ∧ ((goPlay (playingIn .ready none)).2.player.goPending = true
        ∧ (goPlay (playingIn .ready none)).2.player.state = .ready)
      ∧ (playingIn .cueing none).player.state = .cueing := by decide +kernel

/-- The reset state with a command waiting meets every invariant that a statement takes as its premise, and steps. -/
theorem witness_of_the_invariants :
    let s := State.reset.withPending [.crewStopChannelChange 0 .a .opened]
    ((CutStands s ∧ PresentSetAgrees s) ∧ (DriveEnableAgrees s ∧ TripSetAgrees s ∧ TimersAgree s ∧ LampsAgree s)
      ∧ (LimitsHeld s ∧ CutForgets s) ∧ PagesConserved s ∧ TakesAgree s
      ∧ (PortsAgree s ∧ MemoryCanonical s ∧ QueuesBounded s ∧ AgesBounded s ∧ ScaleAgrees s ∧ RingsBounded s
        ∧ SlotsAgree s) ∧ StaleAgrees s)
      ∧ step s = .next (after (.crewStopChannelChange 0 .a .opened) State.reset) := by
  unfold CutStands DriveEnableAgrees TripSetAgrees LampsAgree LimitsHeld CutForgets PagesConserved MemoryCanonical
    QueuesBounded AgesBounded ScaleAgrees RingsBounded SlotsAgree StaleAgrees
  refine ⟨⟨⟨by decide, ?_⟩, ⟨by decide, ⟨by decide, by decide⟩, ⟨by decide, by decide, by decide, by decide⟩,
    ⟨by decide +kernel, by decide, by decide⟩⟩, ⟨?_, by intro _; decide⟩, ?_, ?_, ?_, by decide⟩, rfl⟩
  · refine ⟨?_, ?_, ?_, ?_, ?_, ?_, ?_, ?_, ?_, nofun, ?_, ?_, ?_, ?_⟩ <;> simp only [Mirrors] <;> decide
  · intro k
    refine ⟨by revert k; decide, fun v h => ?_⟩
    have none_valid : ∀ k : Fin 10, State.reset.gate.last[k] = none := by decide
    exact absurd (h.symm.trans (none_valid k)) (by simp)
  · have h : State.reset.store.takes.toList.flatMap (·.chain) = [] := by decide
    have free : State.reset.store.free = List.range 3072 := by simp only [State.reset]
    rw [← free]
    exact List.Perm.of_eq ((congrArg (State.reset.store.free ++ ·) h).trans (List.append_nil _))
  · refine ⟨?_, ?_, ?_, ?_, ?_, fun e h => (nomatch h), ?_, ?_⟩ <;> decide
  · refine ⟨⟨?_, ?_, by decide⟩, by decide, by decide, by decide, by decide, by decide, by unfold CueSlot.Agrees; decide⟩
    · constructor <;> decide
    · constructor <;> decide

/-- The premise of the chain lengths: the reset state, and one with takes in RECORDING and LOADING. -/
theorem witness_of_the_chains :
    let recording := recordingIn .recording .recording
    let loading :=
      withTake { oneSample .loading with samples := 64, isOpen := true } (State.reset.withPending [.rampTimeout])
    (ChainsAgree State.reset ∧ ChainsAgree recording ∧ ChainsAgree loading)
      ∧ step loading = .next (withTake { oneSample .loading with samples := 64, isOpen := true } State.reset)
      ∧ (TakesAgree recording ∧ TakesAgree loading) := by
  refine ⟨⟨?_, ?_, ?_⟩, rfl, ?_, ?_⟩
  · constructor <;> decide +kernel
  · constructor <;> decide +kernel
  · constructor <;> decide +kernel
  · refine ⟨?_, ?_, ?_, ?_, ?_, fun e h => (nomatch h), ?_, ?_⟩ <;> decide +kernel
  · refine ⟨?_, ?_, ?_, ?_, ?_, fun e h => (nomatch h), ?_, ?_⟩ <;> decide +kernel

/-- Each lamp condition of RUN. -/
theorem witness_of_the_lamp_conditions :
    (inState .run).lampCondition = .runIdle ∧ (playingIn .playing none).lampCondition = .playing
      ∧ (recordingIn .recording .recording).lampCondition = .recording
      ∧ ({ inState .run with
          pose :=
            { State.reset.pose with
              entries := State.reset.pose.entries.set 6 ⟨true, 0, -1, .ready, 0, 0⟩ } } : State).lampCondition = .runMoving
      ∧ ({ inState .run with
          env :=
            { State.reset.env with
              evaluation :=
                { Evaluation.initial with zones := (Vector.replicate 24 .clear).set 23 .approach } } } : State).lampCondition
        = .zoneApproach := by decide +kernel

theorem witness_LockedConfigurationStands :
    (locked State.reset).mgmt.locked = true
      ∧ exec .rampTimeout (locked State.reset) = .next (locked State.reset) ∧ Instr.rampTimeout ≠ .coldReset := by
  refine ⟨rfl, rfl, by decide⟩

end Sys2Proof.Tests
end

section
/-! PROOFS. The product with one rounding of R58. -/

namespace Sys2Proof.Machine

/-- The product with one rounding is the only integer in R58's rounding interval, whose lower end, the half, is
included: halves round up, for negative products too. -/
theorem scaled_eq_iff (v c q : Int) :
    scaled v c = q ↔ 16384 * q ≤ v * c + 8192 ∧ v * c + 8192 < 16384 * (q + 1) := by
  rw [scaled, Int.ediv_eq_iff_of_pos (by decide)]
  omega

/-- A whole multiple of 16,384 leaves no remainder, so the half added before the division is floored away (R58). -/
theorem scaled_mul_16384 (v k : Int) : scaled v (16384 * k) = v * k := by
  rw [scaled_eq_iff, Int.mul_left_comm v]
  omega

/-- Settles O45: the quotient lies in its own rounding interval, and the three exact points are whole multiples of
16,384. -/
theorem scaledProductRounds : Obligations.ScaledProductRounds := by
  intro v c
  obtain ⟨lower, upper⟩ := (scaled_eq_iff v c (scaled v c)).mp rfl
  refine ⟨lower, upper, ?one, ?zero, ?minusOne⟩
  case one => simpa using scaled_mul_16384 v 1
  case zero => simpa using scaled_mul_16384 v 0
  case minusOne => simpa using scaled_mul_16384 v (-1)

end Sys2Proof.Machine
end

section
/-! PROOFS. The answers of requests keep what every branch of them keeps. -/

namespace Sys2Proof.Machine

@[simp] theorem accept_state (s : State) : (accept s).state = s := rfl
@[simp] theorem refuse_state (r : Result) (s : State) : (refuse r s).state = s := rfl
@[simp] theorem answerOf_state (t : Result × State) : (answerOf t).state = t.2 := rfl

/-- A request that the command of a row takes is one that the Management Unit may take. -/
theorem takes_of_takeRequest {row : Instr} {s s' : State} {r : Request} (h : takeRequest row s = some (r, s')) :
    Takes s r s' := by
  unfold takeRequest at h
  split at h
  next => cases h
  next head rest queue =>
    split at h
    next start =>
      obtain ⟨rfl, rfl⟩ := Prod.mk.inj (Option.some.inj h)
      obtain ⟨idle, noReset, room⟩ :
          s.mgmt.erasing = none ∧ s.mgmt.reset = .none ∧ s.mgmt.replies.length < requestLimit := by
        simpa [Mgmt.canStart, and_assoc] using start.1
      exact ⟨idle, noReset, room, rest, queue, rfl⟩
    next => cases h

/-- The take of a request leaves the record of the Envelope Unit. -/
theorem Takes.env {s s' : State} {r : Request} (h : Takes s r s') : s'.env = s.env := by
  obtain ⟨rest, -, rfl⟩ := h.head
  rfl

section
variable {α : Type} {field : State → α}

/-- Whatever the request, its answer leaves a field of the state as it stands. -/
def AnswersKeep (field : State → α) (run : Request → State → Answer) : Prop :=
  ∀ (r : Request) (s : State), field (run r s).state = field s

theorem unknownAnswer_keeps : AnswersKeep field unknownAnswer := by
  intro r s
  unfold unknownAnswer
  split <;> rfl

theorem withoutBody_keeps {run : State → Answer} (h : ∀ s, field (run s).state = field s) :
    AnswersKeep field (withoutBody run) := by
  intro r s
  unfold withoutBody
  split
  · exact h s
  · rfl

theorem withBody_keeps {β : Type} {reader : List Byte → Option β} {run : β → State → Answer}
    (h : ∀ b s, field (run b s).state = field s) : AnswersKeep field (withBody reader run) := by
  intro r s
  unfold withBody
  split
  · exact h _ s
  · rfl

theorem runRead_keeps {β : Type} {index : Byte → Option β} {record : β → State → List Byte}
    {after : β → Bool → State → State} (h : ∀ i clear s, field (after i clear s) = field s) :
    AnswersKeep field (runRead index record after) := by
  intro r s
  unfold runRead
  split
  next =>
    split
    next => rfl
    next =>
      split
      next => exact h _ _ s
      next => rfl
  next => rfl

theorem runReadOnly_keeps {β : Type} {index : Byte → Option β} {record : β → State → List Byte} :
    AnswersKeep field (runReadOnly index record) :=
  runRead_keeps fun _ _ _ => rfl

theorem runWrite_keeps {β γ : Type} {index : Byte → Option β} {reader : β → List Byte → Option γ}
    {write : β → γ → State → Answer} (h : ∀ i v s, field (write i v s).state = field s) :
    AnswersKeep field (runWrite index reader write) := by
  intro r s
  unfold runWrite
  split
  next =>
    split
    next => rfl
    next =>
      split
      next => exact h _ _ s
      next => rfl
  next => rfl

/-- The command of a request keeps a field that its answer, the take of the request and the reply keep. -/
theorem execute_keeps {row : Instr} {run : Request → State → Answer}
    (take : ∀ {s s' : State} {r : Request}, Takes s r s' → field s' = field s)
    (reply : ∀ tag result body s, field (appendReply tag result body false s) = field s)
    (answer : AnswersKeep field run) (s : State) : field (execute row run s) = field s := by
  obtain ⟨-, same⟩ | ⟨r, s', taken, replied⟩ := execute_cases row run s
  · rw [same]
  · rw [replied, reply, answer, take (takes_of_takeRequest taken)]

end

end Sys2Proof.Machine
end

section
/-! PROOFS. What requests do to the Envelope Unit: all but a few leave its record as it stands. -/

namespace Sys2Proof.Machine

/-! ## WRITE -/

@[simp] theorem writeAxis_env (k r s) : (writeAxis k r s).state.env = s.env := by
  unfold writeAxis
  repeat' split
  all_goals simp

@[simp] theorem writeGeometry_env (g s) : (writeGeometry g s).state.env = s.env := by
  unfold writeGeometry
  repeat' split
  all_goals simp

@[simp] theorem writeGesture_env (g s) : (writeGesture g s).state.env = s.env := by
  unfold writeGesture unlessLocked
  repeat' split
  all_goals simp

@[simp] theorem writeLampMap_env (m s) : (writeLampMap m s).state.env = s.env := by
  unfold writeLampMap unlessLocked
  split <;> simp

@[simp] theorem writeSubject_env (k p s) : (writeSubject k p s).state.env = s.env := by
  unfold writeSubject
  split <;> simp

@[simp] theorem writeCueSlot_env (n c s) : (writeCueSlot n c s).state.env = s.env := by
  unfold writeCueSlot
  split <;> simp

@[simp] theorem writeNoticeConfig_env (c s) : (writeNoticeConfig c s).state.env = s.env := rfl

@[simp] theorem writeThresholds_env (t s) : (writeThresholds t s).state.env = s.env := rfl

/-! ## What a READ clears -/

@[simp] theorem afterReadPort_env (p clear s) : (afterReadPort p clear s).env = s.env := by
  unfold afterReadPort
  cases p <;> cases clear <;> rfl

@[simp] theorem clearEndReached_env (s) : (clearEndReached s).env = s.env := rfl

@[simp] theorem clearGateCounts_env (clear s) : (clearGateCounts clear s).env = s.env := by
  cases clear <;> rfl

@[simp] theorem clearRequestDrops_env (clear s) : (clearRequestDrops clear s).env = s.env := by
  cases clear <;> rfl

/-! ## The remaining requests -/

@[simp] theorem runStop_env (m s) : (runStop m s).state.env = s.env := by
  cases m <;> simp [runStop]

@[simp] theorem runPark_env (s) : (runPark s).state.env = s.env := by
  unfold runPark
  repeat' split
  all_goals simp

@[simp] theorem runWake_env (s) : (runWake s).state.env = s.env := by
  unfold runWake
  split <;> simp

@[simp] theorem runUnlock_env (s) : (runUnlock s).state.env = s.env := by
  unfold runUnlock
  split <;> simp

@[simp] theorem runLockTake_env (t s) : (runLockTake t s).state.env = s.env := by
  unfold runLockTake
  split <;> simp

@[simp] theorem runUnlockTake_env (t s) : (runUnlockTake t s).state.env = s.env := rfl

@[simp] theorem runLoadBegin_env (b s) : (runLoadBegin b s).state.env = s.env := by
  unfold runLoadBegin
  dsimp only
  split <;> simp

@[simp] theorem runLoadPage_env (b s) : (runLoadPage b s).state.env = s.env := by
  unfold runLoadPage
  dsimp only
  repeat' split
  all_goals simp

@[simp] theorem runLoadEnd_env (t s) : (runLoadEnd t s).state.env = s.env := by
  unfold runLoadEnd
  dsimp only
  split <;> simp

@[simp] theorem runReadPage_env (t o s) : (runReadPage t o s).state.env = s.env := by
  unfold runReadPage
  dsimp only
  repeat' split
  all_goals simp

@[simp] theorem runCurveLoad_env (i c p s) : (runCurveLoad i c p s).state.env = s.env := by
  unfold runCurveLoad
  repeat' split
  all_goals simp

@[simp] theorem runFollowOff_env (s) : (runFollowOff s).state.env = s.env := by
  unfold runFollowOff
  split <;> simp

@[simp] theorem runClearNotice_env (set s) : (runClearNotice set s).state.env = s.env := rfl

@[simp] theorem eraseRequest_env (s) : (eraseRequest s).env = s.env := by
  unfold eraseRequest
  split
  next => rfl
  next r s' taken =>
    rw [← (takes_of_takeRequest taken).env]
    repeat' split
    all_goals simp

@[simp] theorem resetRequest_env (s) : (resetRequest s).env = s.env := by
  unfold resetRequest
  split
  next => rfl
  next r s' taken =>
    rw [← (takes_of_takeRequest taken).env]
    split <;> simp

end Sys2Proof.Machine
end

section
/-! PROOFS. SET_SCALE and the trim component of the speed scale (R75, R76). The trim stands through every operation that
changes the record of the Envelope Unit, and so through every command but SET_SCALE and the resets. -/

namespace Sys2Proof.Machine

/-! ## The trim through evaluations and the pose set (R51 to R53, R64 to R73) -/

@[simp] theorem State.setScale_trim (s : State) (c : SpeedScale) : (s.setScale c).env.scale.trim = c.trim := rfl

@[simp] theorem evaluate_trim (c m p s) : (evaluate c m p s).env.scale.trim = s.env.scale.trim := by
  simp [evaluate]

@[simp] theorem skipPose_trim (s) : (skipPose s).env.scale.trim = s.env.scale.trim := rfl

@[simp] theorem completePose_trim (e c m s) : (completePose e c m s).env.scale.trim = s.env.scale.trim := by
  unfold completePose
  repeat' split
  all_goals simp

@[simp] theorem captureAxis_trim (e c k m s) : (captureAxis e c k m s).env.scale.trim = s.env.scale.trim := by
  unfold captureAxis
  dsimp only
  split <;> simp

@[simp] theorem poseSetTake_trim (e k c m s) : (poseSetTake e k c m s).env.scale.trim = s.env.scale.trim := by
  unfold poseSetTake
  dsimp only
  repeat' split
  all_goals simp

@[simp] theorem poseFeedback_trim (e k f s) : (poseFeedback e k f s).env.scale.trim = s.env.scale.trim := by
  unfold poseFeedback
  dsimp only
  split <;> simp

/-! ## The trim through changes of port state (R25 to R32, R37, R39, R122) -/

@[simp] theorem handLink_trim (s) : (handLink s).env.scale.trim = s.env.scale.trim := by
  simp [handLink]

@[simp] theorem changePort_trim (p r new why s) : (changePort p r new why s).env.scale.trim = s.env.scale.trim := by
  cases p <;> simp [changePort]

@[simp] theorem endWindow_trim (p e r s) : (endWindow p e r s).env.scale.trim = s.env.scale.trim := by
  unfold endWindow
  dsimp only
  repeat' split
  all_goals simp

@[simp] theorem countWindow_trim (p e r s) : (countWindow p e r s).env.scale.trim = s.env.scale.trim := by
  unfold countWindow
  dsimp only
  split <;> simp

@[simp] theorem linkGood_trim (p s) : (linkGood p s).env.scale.trim = s.env.scale.trim := by
  unfold linkGood
  dsimp only
  repeat' split
  all_goals simp

@[simp] theorem linkBadState_trim (p s) : (linkBadState p s).env.scale.trim = s.env.scale.trim := by
  unfold linkBadState
  dsimp only
  repeat' split
  all_goals simp

@[simp] theorem linkBad_trim (p why s) : (linkBad p why s).env.scale.trim = s.env.scale.trim := by
  simp [linkBad]

@[simp] theorem signalLost_trim (p s) :
    (Sys2Proof.Machine.signalLost p s).env.scale.trim = s.env.scale.trim := by
  unfold Sys2Proof.Machine.signalLost
  dsimp only
  split <;> simp

@[simp] theorem linkUpExpiry_trim (p s) : (linkUpExpiry p s).env.scale.trim = s.env.scale.trim := by
  unfold linkUpExpiry
  dsimp only
  split <;> simp

@[simp] theorem startTest_trim (s) : (startTest s).2.env.scale.trim = s.env.scale.trim := by
  unfold startTest
  split <;> simp

@[simp] theorem stopTest_trim (s) : (stopTest s).2.env.scale.trim = s.env.scale.trim := by
  unfold stopTest
  split <;> simp

/-! ## The trim through the frames at a port (R3, R10) -/

@[simp] theorem fbkTaken_trim (e k x s b) : (fbkTaken e k x s b).env.scale.trim = s.env.scale.trim := by
  unfold fbkTaken
  repeat' split
  all_goals simp

@[simp] theorem foldl_fbkTaken_trim (e k x s) (l : List FbkBlock) :
    (l.foldl (fbkTaken e k x) s).env.scale.trim = s.env.scale.trim := by
  induction l generalizing s with
  | nil => rfl
  | cons b rest ih => rw [List.foldl_cons, ih, fbkTaken_trim]

@[simp] theorem fbkArrives_trim (o f s) : (fbkArrives o f s).env.scale.trim = s.env.scale.trim := by
  unfold fbkArrives
  dsimp only
  split <;> simp

@[simp] theorem goodFrame_trim (c o p f s) : (goodFrame c o p f s).env.scale.trim = s.env.scale.trim := by
  unfold goodFrame
  dsimp only
  split <;> simp

@[simp] theorem badFrameAt_trim (p why s) : (badFrameAt p why s).env.scale.trim = s.env.scale.trim := by
  cases p <;> simp [badFrameAt]

@[simp] theorem frameBytes_trim (c o p bs cut s) : (frameBytes c o p bs cut s).env.scale.trim = s.env.scale.trim := by
  unfold frameBytes
  dsimp only
  repeat' split
  all_goals simp

/-! ## The trim through the requests that change the Envelope Unit (R62, R77, R122) -/

@[simp] theorem clearSkipped_trim (clear s) : (clearSkipped clear s).env.scale.trim = s.env.scale.trim := by
  cases clear <;> rfl

@[simp] theorem writeZone_trim (z b s) : (writeZone z b s).state.env.scale.trim = s.env.scale.trim := by
  unfold writeZone unlessLocked
  repeat' split
  all_goals simp

@[simp] theorem putStopConfig_trim (c s) : (putStopConfig c s).env.scale.trim = s.env.scale.trim := by
  unfold putStopConfig
  dsimp only
  split <;> simp

@[simp] theorem writeStopConfig_trim (c s) : (writeStopConfig c s).state.env.scale.trim = s.env.scale.trim := by
  unfold writeStopConfig unlessLocked
  repeat' split
  all_goals simp

/-- A request whose answer leaves the trim leaves it, taken and replied to. -/
theorem nexts_execute_trim {row : Instr} {run : Request → State → Answer}
    (answer : AnswersKeep (fun s => s.env.scale.trim) run) (s : State) :
    Nexts (.next (execute row run s)) fun t => t.env.scale.trim = s.env.scale.trim :=
  ⟨_, rfl, execute_keeps (fun taken => by simp [taken.env]) (by simp) answer s⟩

/-! ## The trim through every command but SET_SCALE and the resets (R76) -/

/-- Every command but SET_SCALE and the two resets has a next state, and the trim stands in it: an event goes through
the operations above, and a request through its answer. -/
theorem exec_keeps_trim (i : Instr) (s : State) (noSet : i ≠ .setScale) (noCold : i ≠ .coldReset)
    (noWarm : i ≠ .warmReset) : Nexts (exec i s) fun t => t.env.scale.trim = s.env.scale.trim := by
  cases i with
  | coldReset | warmReset | setScale => contradiction
  | cycReceived | setReceived | fbkReceived | mgtReceived | rpyReceived | badFrame => exact ⟨_, rfl, by simp⟩
  | signalLost | signalRegained | linkUpTimerExpiry | degradeHoldTimerExpiry | linkTestBitReceived =>
    exact ⟨_, rfl, by simp⟩
  | gestureComplete | pulseMaximumExceeded | gapMaximumExceeded => exact ⟨_, rfl, by split <;> simp⟩
  | eightGood | badRun | discrepancyWindowExpiry => exact ⟨_, rfl, by split <;> simp⟩
  | window port judged => exact ⟨_, rfl, by cases judged <;> dsimp only <;> split_ifs <;> simp⟩
  | uTransmitComplete | dTransmitComplete | erasePageReturn | erase | reset => exact ⟨_, rfl, by simp⟩
  | syncTimerExpiry | substituteTimerExpiry | rampTimeout | crewStopChannelChange => exact ⟨_, rfl, by simp⟩
  | presenceInputChange | serviceKeyChange => exact ⟨_, rfl, rfl⟩
  | lampPatternPeriod lamp => cases lamp <;> exact ⟨_, rfl, rfl⟩
  | unknownRequest | writeReadOnlySelector => exact nexts_execute_trim unknownAnswer_keeps s
  | readAxis | readGeometry | readZone | readStopConfig | readGesture | readLampMap | readCurve | readSubject
  | readCueSlot | readNoticeConfig | readThresholds | readPose | readSpeedScale | readStopStatus | readPlayer
  | readRecorder | readTake | readFreeCount | readNotices => exact nexts_execute_trim runReadOnly_keeps s
  | readEvaluation | readPort | readLensStatus | readGateCounters | readMgmtCounters =>
    exact nexts_execute_trim (runRead_keeps (by simp)) s
  | writeAxis | writeGeometry | writeZone | writeStopConfig | writeGesture | writeLampMap | writeSubject
  | writeCueSlot | writeNoticeConfig | writeThresholds => exact nexts_execute_trim (runWrite_keeps (by simp)) s
  | stop | armRecord | lockTake | unlockTake | loadBegin | loadPage | loadEnd | readPage | cue | curveLoad | followOn
  | clearNotice => exact nexts_execute_trim (withBody_keeps (by simp)) s
  | clearStop | park | wake | lockConfig | unlockConfig | stopRecord | go | resume | release | followOff
  | linkTestStart | linkTestStop => exact nexts_execute_trim (withoutBody_keeps (by simp)) s

/-! ## SET_SCALE (R76) -/

/-- The clamp to 1..16 case by case: only 0 lies below, and 17 is the first value above. -/
theorem clampScale_eq (v : Nat) : clampScale v = if v = 0 then 1 else if 17 ≤ v then 16 else v := by
  unfold clampScale
  split_ifs <;> omega

/-- The answer to a SET_SCALE that carries one byte is that of its value. -/
theorem withBody_setScale (tag code v : Byte) (s : State) :
    withBody (fun bs => finished (readNat 1 bs)) runSetScale ⟨tag, code, [v]⟩ s = runSetScale v.toNat s := by
  simp [withBody, readNat, finished, beNat]

/-- SET_SCALE stores the clamped value as the trim, with the effective scale recomputed, and replies with it. -/
theorem exec_setScale {s s' : State} {tag v : Byte} (h : Takes s ⟨tag, 0x05#8, [v]⟩ s') :
    Replies .setScale s tag .ok [u8 (clampScale v.toNat)]
      (s'.setScale { s'.env.scale with trim := clampScale v.toNat }) := by
  have run := execute_of_takes (withBody (fun bs => finished (readNat 1 bs)) runSetScale) h rfl
  rw [withBody_setScale] at run
  exact congrArg Host.Outcome.next run

/-! ## The least step (R76, R89) -/

/-- Trim 1 with the other two components at least 1 leaves an effective scale of 1. -/
theorem effective_of_trim_one {s : State} (agrees : ScaleAgrees s) (trim : s.env.scale.trim = 1)
    (zone : 1 ≤ s.env.scale.zone) (link : 1 ≤ s.env.scale.link) : s.env.scale.effective = 1 := by
  rw [agrees, SpeedScale.minimum, trim]
  omega

/-- A CONSOLE setpoint moves a motion axis by its step maximum scaled in sixteenths, and by 1 at least (R89). -/
theorem gateStep_console {k : Axis} (motion : k.val ≤ 6) (s : State) :
    gateStep .console k s = max 1 (s.pose.axes[k].stepMax * s.env.scale.effective / 16) := by
  simp [gateStep, isMotion, motion]

/-- Settles O37: SET_SCALE answers with the clamped value and stores it, every other command is followed through the
operations that change the Envelope Unit, and an effective scale of 1 gives the sixteenth part of the step maximum. -/
theorem setScaleStoresTheTrim : Obligations.SetScaleStoresTheTrim := by
  refine ⟨?stores, ?stands, ?leastStep⟩
  case stores =>
    intro s s' tag v taken
    dsimp only
    rw [← clampScale_eq, ← taken.env]
    exact exec_setScale taken
  case stands =>
    intro i s t next noSet noCold noWarm
    obtain ⟨t', next', stands⟩ := exec_keeps_trim i s noSet noCold noWarm
    obtain rfl : t' = t := by simpa [next] using next'.symm
    exact stands
  case leastStep =>
    intro s k trim agrees zone link motion
    rw [gateStep_console motion, effective_of_trim_one agrees trim zone link, Nat.mul_one]

end Sys2Proof.Machine
end

section
/-! PROOFS. A warm reset at the Take Store (R152, R190): the recording under way is closed INTERRUPTED, then every
LOADING take is emptied and its pages returned. -/

namespace Sys2Proof.Machine

/-! ## Another record for a take -/

@[simp] theorem Store.setTake_words (st : Store) (t : Fin 32) (r : Take) : (st.setTake t r).words = st.words := rfl
@[simp] theorem Store.setTake_free (st : Store) (t : Fin 32) (r : Take) : (st.setTake t r).free = st.free := rfl

theorem Store.setTake_takes (st : Store) (t : Fin 32) (r : Take) (k : Fin 32) :
    (st.setTake t r).takes[k] = if t = k then r else st.takes[k] := by
  simp [Store.setTake, Vector.getElem_set, Fin.ext_iff]

/-! ## The end of a recording (R156) -/

@[simp] theorem closeRecorder_recorder (e : EndReason) (s : State) :
    (closeRecorder e s).recorder = Recorder.initial := by
  unfold closeRecorder
  split <;> rfl

@[simp] theorem closeRecorder_words (e : EndReason) (s : State) :
    (closeRecorder e s).store.words = s.store.words := by
  unfold closeRecorder
  split <;> rfl

@[simp] theorem closeRecorder_free (e : EndReason) (s : State) : (closeRecorder e s).store.free = s.store.free := by
  unfold closeRecorder
  split <;> rfl

/-- The end of a recording closes the take being recorded and leaves every other take. -/
theorem closeRecorder_takes (e : EndReason) (s : State) (k : Fin 32) :
    (closeRecorder e s).store.takes[k] =
      if s.recorder.state = .recording ∧ s.recorder.take = some k then
        { s.store.takes[k] with state := .closed, endReason := some e }
      else s.store.takes[k] := by
  unfold closeRecorder
  split
  next t recording held =>
    simp only [State.withRecorder_store, State.withStore_store, Store.setTake_takes, recording, held, true_and,
      Option.some.injEq]
    split
    next same => rw [same]
    next => rfl
  next other =>
    simp only [State.withRecorder_store]
    exact (if_neg fun ⟨recording, held⟩ => other k recording held).symm

theorem TakesAgree.recorded_ne_loading {s : State} (agree : TakesAgree s) {k : Fin 32}
    (recording : s.recorder.state = .recording) (held : s.recorder.take = some k) :
    s.store.takes[k].state ≠ .loading :=
  ne_of_eq_of_ne (agree.recording k recording held) (by decide)

/-- The take being recorded is not LOADING, so the end of the recording changes no LOADING take. -/
theorem closeRecorder_takes_of_loading {s : State} (agree : TakesAgree s) (e : EndReason) {k : Fin 32}
    (loading : s.store.takes[k].state = .loading) : (closeRecorder e s).store.takes[k] = s.store.takes[k] := by
  rw [closeRecorder_takes, if_neg fun ⟨recording, held⟩ => agree.recorded_ne_loading recording held loading]

/-- The end of a recording leaves the same takes LOADING: the one it changes is RECORDING before and CLOSED after. -/
theorem closeRecorder_loading_iff {s : State} (agree : TakesAgree s) (e : EndReason) (k : Fin 32) :
    (closeRecorder e s).store.takes[k].state = .loading ↔ s.store.takes[k].state = .loading := by
  refine ⟨fun after => ?_, fun before => by rwa [closeRecorder_takes_of_loading agree e before]⟩
  rw [closeRecorder_takes] at after
  split at after
  · cases after
  · exact after

/-! ## The erasure of the LOADING takes (R152) -/

/-- The pages that the erasure of a take returns if it is LOADING, in chain order (R152). -/
def Store.loadingPages (st : Store) (t : Fin 32) : List Nat :=
  if st.takes[t].state = .loading then st.takes[t].chain else []

@[simp] theorem Store.eraseLoading_words (st : Store) (t : Fin 32) : (st.eraseLoading t).words = st.words := by
  unfold Store.eraseLoading
  split <;> rfl

@[simp] theorem Store.eraseLoading_free (st : Store) (t : Fin 32) :
    (st.eraseLoading t).free = st.free ++ st.loadingPages t := by
  unfold Store.eraseLoading Store.loadingPages
  split <;> simp

theorem Store.eraseLoading_takes (st : Store) (t k : Fin 32) :
    (st.eraseLoading t).takes[k] =
      if t = k ∧ st.takes[k].state = .loading then Take.initial else st.takes[k] := by
  unfold Store.eraseLoading
  by_cases same : t = k
  · subst same
    simp only [true_and]
    split
    next => rw [Store.setTake_takes, if_pos rfl]
    next => rfl
  · rw [if_neg (same ∘ And.left)]
    split
    next => rw [Store.setTake_takes, if_neg same]
    next => rfl

/-- The erasure of a take leaves the pages that another LOADING take returns. -/
theorem Store.eraseLoading_loadingPages_of_ne (st : Store) {t k : Fin 32} (other : t ≠ k) :
    (st.eraseLoading t).loadingPages k = st.loadingPages k := by
  simp only [Store.loadingPages, Store.eraseLoading_takes, other, false_and, if_false]

@[simp] theorem Store.foldl_eraseLoading_words (ts : List (Fin 32)) (st : Store) :
    (ts.foldl Store.eraseLoading st).words = st.words := by
  induction ts generalizing st with
  | nil => rfl
  | cons t rest ih => rw [List.foldl_cons, ih, Store.eraseLoading_words]

/-- Takes erased one after the other, none twice, return their pages in that order. -/
theorem Store.foldl_eraseLoading_free {ts : List (Fin 32)} (once : ts.Nodup) (st : Store) :
    (ts.foldl Store.eraseLoading st).free = st.free ++ ts.flatMap st.loadingPages := by
  induction ts generalizing st with
  | nil => simp
  | cons t rest ih =>
    obtain ⟨fresh, restOnce⟩ := List.nodup_cons.mp once
    have later : rest.flatMap (st.eraseLoading t).loadingPages = rest.flatMap st.loadingPages :=
      List.flatMap_congr fun k mem => st.eraseLoading_loadingPages_of_ne fun same => fresh (same ▸ mem)
    rw [List.foldl_cons, ih restOnce, later, Store.eraseLoading_free, List.append_assoc, List.flatMap_cons]

theorem Store.foldl_eraseLoading_takes (ts : List (Fin 32)) (st : Store) (k : Fin 32) :
    (ts.foldl Store.eraseLoading st).takes[k] =
      if k ∈ ts ∧ st.takes[k].state = .loading then Take.initial else st.takes[k] := by
  induction ts generalizing st with
  | nil => simp
  | cons t rest ih =>
    rw [List.foldl_cons, ih, Store.eraseLoading_takes]
    by_cases same : t = k
    · by_cases loading : st.takes[k].state = .loading
      · simp only [same, loading, and_self, if_true, List.mem_cons_self, ite_self]
      · simp only [loading, and_false, if_false]
    · simp only [same, false_and, if_false, List.mem_cons, Ne.symm same, false_or]

@[simp] theorem eraseLoadings_words (st : Store) : (eraseLoadings st).words = st.words :=
  Store.foldl_eraseLoading_words _ st

theorem eraseLoadings_free (st : Store) :
    (eraseLoadings st).free = st.free ++ (List.finRange 32).flatMap st.loadingPages :=
  Store.foldl_eraseLoading_free (List.nodup_finRange 32) st

theorem eraseLoadings_takes (st : Store) (k : Fin 32) :
    (eraseLoadings st).takes[k] = if st.takes[k].state = .loading then Take.initial else st.takes[k] := by
  simp only [eraseLoadings, Store.foldl_eraseLoading_takes, List.mem_finRange, true_and]

/-! ## The warm reset (R152, R190) -/

theorem warmReset_store (s : State) : (warmReset s).store = eraseLoadings (closeRecorder .interrupted s).store := by
  simp [warmReset]

theorem warmReset_recorder (s : State) : (warmReset s).recorder = Recorder.initial := by
  simp [warmReset]

theorem exec_warmReset_of_due {s : State} (due : warmResetDue s = true) :
    exec .warmReset s = .next (warmReset s) :=
  congrArg Host.Outcome.next (if_pos due)

/-- The end of the recording leaves the pages that the erasure of the LOADING takes then returns. -/
theorem closeRecorder_loadingPages {s : State} (agree : TakesAgree s) (e : EndReason) (k : Fin 32) :
    (closeRecorder e s).store.loadingPages k = s.store.loadingPages k := by
  unfold Store.loadingPages
  simp only [closeRecorder_loading_iff agree]
  split
  next loading => rw [closeRecorder_takes_of_loading agree e loading]
  next => rfl

theorem warmReset_free {s : State} (agree : TakesAgree s) :
    (warmReset s).store.free = s.store.free ++ (List.finRange 32).flatMap s.store.loadingPages := by
  rw [warmReset_store, eraseLoadings_free, closeRecorder_free,
    List.flatMap_congr fun k _ => closeRecorder_loadingPages agree .interrupted k]

theorem warmReset_takes {s : State} (agree : TakesAgree s) (k : Fin 32) :
    (warmReset s).store.takes[k] =
      if s.store.takes[k].state = .loading then Take.initial else (closeRecorder .interrupted s).store.takes[k] := by
  simp only [warmReset_store, eraseLoadings_takes, closeRecorder_loading_iff agree]

/-- Settles O29: the take being recorded is not LOADING, so closing it leaves what the erasure empties and returns; the
erasure then follows the takes in ascending number. -/
theorem warmResetErasesLoadingTakes : Obligations.WarmResetErasesLoadingTakes := by
  intro s agree due
  refine ⟨warmReset s, exec_warmReset_of_due due, warmReset_free agree, ?words, warmReset_recorder s, fun k => ?_⟩
  case words => rw [warmReset_store, eraseLoadings_words, closeRecorder_words]
  · rw [warmReset_takes agree]
    refine ⟨fun loading => if_pos loading, fun recording held => ?closed, fun notLoading other => ?stands⟩
    case closed =>
      rw [if_neg (agree.recorded_ne_loading recording held), closeRecorder_takes, if_pos ⟨recording, held⟩]
    case stands => rw [if_neg notLoading, closeRecorder_takes, if_neg (not_and_or.mpr other)]

end Sys2Proof.Machine
end

section
/-! PROOFS. CLEAR_NOTICE (R192): the body read as a set of sources, the answer to it, and the entries after it. -/

namespace Sys2Proof.Machine

/-! ## The body: a set of notice sources in three bytes (R23) -/

/-- A number laid out in n bytes is read as its low n bytes, with nothing left of the body. -/
theorem readNat_natBE (n x : Nat) : readNat n (natBE n x) = some (x % 256 ^ n, []) := by
  simp [readNat, List.take_of_length_le, beNat_natBE]

/-- The sources that the bits of a number name. -/
def sourcesOfBits (n : Nat) : FlagSet 17 := Vector.ofFn fun k : Fin 17 => n.testBit k.val

@[simp] theorem sourcesOfBits_getElem (n : Nat) (k : Fin 17) : (sourcesOfBits n)[k] = n.testBit k.val := by
  simp [sourcesOfBits]

/-- The three bytes of a number are a set of sources just where no bit of it names a number outside 0..16. -/
theorem readSourceSet_natBE {n : Nat} (fits : n < 2 ^ 24) :
    readSourceSet (natBE 3 n) = if n < 2 ^ 17 then some (sourcesOfBits n, []) else none := by
  have whole : readNat 3 (natBE 3 n) = some (n, []) := by rw [readNat_natBE, Nat.mod_eq_of_lt (b := 256 ^ 3) fits]
  simp only [readSourceSet, whole, sourcesOfBits]

/-! ## The reply (R185) -/

/-- CLEAR_NOTICE replies with the answer to its body, and leaves the state of that answer. -/
theorem replies_clearNotice {s s' : State} {tag : Byte} {body : List Byte} {a : Answer}
    (taken : Takes s ⟨tag, 0x1A#8, body⟩ s')
    (answer : withBody (fun bs => finished (readSourceSet bs)) runClearNotice ⟨tag, 0x1A#8, body⟩ s' = a) :
    Replies .clearNotice s tag a.result a.body a.state := by
  subst answer
  exact congrArg Host.Outcome.next (execute_of_takes _ taken rfl)

/-- A CLEAR_NOTICE whose body is a set of sources is answered OK and clears that set. -/
theorem replies_clearNotice_of_read {s s' : State} {tag : Byte} {body : List Byte} {set : FlagSet 17}
    (taken : Takes s ⟨tag, 0x1A#8, body⟩ s') (read : readSourceSet body = some (set, [])) :
    Replies .clearNotice s tag .ok [] (runClearNotice set s').state :=
  replies_clearNotice (a := runClearNotice set s') taken (by simp only [withBody, read, finished])

/-- A CLEAR_NOTICE whose body is no set of sources is answered INVALID and changes nothing. -/
theorem replies_clearNotice_of_unread {s s' : State} {tag : Byte} {body : List Byte}
    (taken : Takes s ⟨tag, 0x1A#8, body⟩ s') (unread : readSourceSet body = none) :
    Replies .clearNotice s tag .invalid [] s' :=
  replies_clearNotice (a := refuse .invalid s') taken (by simp only [withBody, unread, finished])

/-! ## The entries (R191, R192, R195) -/

@[simp] theorem NoticeEntry.cleared_pending (e : NoticeEntry) : e.cleared.pending = false := rfl
@[simp] theorem NoticeEntry.cleared_sent (e : NoticeEntry) : e.cleared.sent = false := rfl
@[simp] theorem NoticeEntry.cleared_count (e : NoticeEntry) : e.cleared.count = 0 := rfl
@[simp] theorem NoticeEntry.cleared_detail (e : NoticeEntry) : e.cleared.detail = [] := rfl

/-- CLEAR_NOTICE clears the entries of the named sources and leaves the others. -/
theorem runClearNotice_entries (set : FlagSet 17) (s : State) (k : Fin 17) :
    (runClearNotice set s).state.notices.entries[k] =
      if set[k] then s.notices.entries[k].cleared else s.notices.entries[k] := by
  simp [runClearNotice]

/-- CLEAR_NOTICE changes nothing but the entries. -/
theorem runClearNotice_state (set : FlagSet 17) (s : State) :
    (runClearNotice set s).state =
      { s with notices := { s.notices with entries := (runClearNotice set s).state.notices.entries } } := rfl

/-- The take of a request leaves the record of the notices. -/
theorem Takes.notices {s s' : State} {r : Request} (h : Takes s r s') : s'.notices = s.notices := by
  obtain ⟨rest, -, rfl⟩ := h.head
  rfl

/-- A source that is not pending is not eligible (R195). -/
theorem Notices.eligible_of_not_pending {a : Notices} {k : Fin 17} (idle : a.entries[k].pending = false) :
    a.eligible k = false := by
  simp only [Notices.eligible, idle, Bool.false_and]

/-- The occurrence of a source that is not pending is a first one, whatever its entry held (R191). -/
theorem NoticeEntry.occur_of_not_pending {e : NoticeEntry} (idle : e.pending = false) (latched : Bool)
    (timecode : Timecode) (detail : List Byte) :
    e.occur latched timecode detail = ⟨true, false, 0, timecode, detail⟩ := by
  simp [NoticeEntry.occur, idle]

/-- Settles O39: a number from 2^17 on is no set of sources, and one below is the set of its bits, whose entries the
request clears; an entry that is not pending is not eligible, and its next occurrence starts it anew. -/
theorem clearNoticeClears : Obligations.ClearNoticeClears := by
  refine ⟨fun s s' tag n taken => ⟨fun outside fits => ?invalid, fun inside => ?cleared⟩, fun a k idle => ?first⟩
  case invalid =>
    exact replies_clearNotice_of_unread taken ((readSourceSet_natBE fits).trans (if_neg (Nat.not_lt.mpr outside)))
  case cleared =>
    have read : readSourceSet (natBE 3 n) = some (sourcesOfBits n, []) := by
      rw [readSourceSet_natBE (inside.trans (by decide)), if_pos inside]
    have replied := replies_clearNotice_of_read taken read
    rw [runClearNotice_state, taken.notices] at replied
    refine ⟨_, replied, fun k => ?_⟩
    rw [runClearNotice_entries, sourcesOfBits_getElem, taken.notices]
    exact ⟨fun named => by simp [named], fun other => by simp [other]⟩
  case first =>
    exact ⟨Notices.eligible_of_not_pending idle, NoticeEntry.occur_of_not_pending idle _⟩

end Sys2Proof.Machine
end

section
/-! PROOFS. What every command keeps, once: a property kept by the few operations that change the records behind it is
kept by every operation composed of them. -/

namespace Sys2Proof.Machine

/-! ## The records that most operations leave -/

/-- The records and fields of which the invariants of the stop supervision, the gate, the queues, the take store, the
recorder and the player speak are the same in two states, and what the records beside them keep to, they still do: the
lamps to their condition, the ports to their states, the slots to their form, the scale to its components, the entries
to their ages. -/
structure SameCore (s t : State) : Prop where
  axes : t.pose.axes = s.pose.axes
  forward : t.spine.forward = s.spine.forward
  queueD : t.spine.queueD = s.spine.queueD
  gate : t.gate = s.gate
  state : t.stop.state = s.stop.state
  driveEnable : t.stop.driveEnable = s.stop.driveEnable
  present : t.stop.present = s.stop.present
  trip : t.stop.trip = s.stop.trip
  rampTimer : t.stop.rampTimer = s.stop.rampTimer
  standstill : t.stop.standstill = s.stop.standstill
  detector : t.stop.detector = s.stop.detector
  store : t.store = s.store
  recorder : t.recorder = s.recorder
  player : t.player = s.player
  mgmt : t.mgmt = s.mgmt
  lamps : LampsAgree s → LampsAgree t
  ports : PortsAgree s → PortsAgree t
  slots : SlotsAgree s → SlotsAgree t
  scale : ScaleAgrees s → ScaleAgrees t
  ages : AgesBounded s → AgesBounded t

/-- A property that the operations shared by the blocks keep, each in the circumstances in which it is used. -/
structure Kept (P : State → Prop) : Prop where
  other : ∀ {s t}, SameCore s t → P s → P t
  occur : ∀ {s} k d, P s → P (noteOccurrence k d s)
  brake : ∀ {s} a, P s → P (offerBrake a s)
  decel : ∀ {s} k n, P s → P (offerDecel k n s)
  forward : ∀ {s} f, s.spine.forward.length < queueLimit → P s →
    P (opportunityU (s.withSpine { s.spine with forward := s.spine.forward ++ [f] }))
  queueD : ∀ {s} f, s.spine.queueD.length < queueLimit → P s →
    P (opportunityD (s.withSpine { s.spine with queueD := s.spine.queueD ++ [f] }))
  wakes : ∀ {s} r, s.stop.state = .parked → P s → P (enterHeld r s)
  stands : ∀ {s} r, s.stop.state = .ramp → P s → P (enterHeld r s)
  judged : ∀ {s} set, s.stop.state = .ramp → P s → P (s.withStop { s.stop with standstill := set })
  enters : ∀ {s} c, P s → P (causeEnters c s)
  leaves : ∀ {s} c, P s → P (causeLeaves c s)
  clears : ∀ {s}, P s → P (judgeCut s)
  ramps : ∀ {s} c, c.isCut = false → P s → P (rampEvent c s)
  timesOut : ∀ {s}, s.stop.state = .ramp → P s → P (rampTimedOut s)
  ends : ∀ {s t} e, s.recorder.take = some t → P s → P (endRecording e s)
  sample : ∀ {s t st}, s.recorder.state = .recording → s.recorder.take = some t →
    s.store.writeSample t s.recorder.sample = some st → P s → P (s.withStore st)
  recorder : ∀ {s} r, r.state = s.recorder.state → r.take = s.recorder.take → r.mask = s.recorder.mask → P s →
    P (s.withRecorder r)
  starts : ∀ {s t} c tc, s.recorder.state = .armed → s.recorder.take = some t → P s → P (startRecording t c tc s)
  arms : ∀ {s} t m, P s → P (armRecord t m s).2
  enterPlayer : ∀ {s} new, s.player.state ≠ .idle → new ≠ .idle → P s → P (enterPlayer new s)
  player : ∀ {s} p, p.state = s.player.state → p.take = s.player.take → p.mask = s.player.mask →
    p.rings = s.player.rings → P s → P (s.withPlayer p)
  ring : ∀ {s} k v c, P s →
    P (s.withPlayer { s.player with rings := s.player.rings.set k.val (ringTake s.player.rings[(k : Axis)] c v) })
  cues : ∀ {s} t, P s → P (cueTake t s).2
  resumes : ∀ {s}, P s → P (resumePlay s).2
  releases : ∀ {s}, P s → P (releasePlay s).2
  counts : ∀ {s} g, g.last = s.gate.last → P s → P (s.withGate g)
  forwards : ∀ {s src k} asked step, acceptance src k s = .accepted → P s →
    P (s.withGate
      { s.gate with
        last := s.gate.last.set k.val
          (some (slew (lastOrSeed k s) (s.pose.axes[k].clampTarget asked) step)) })

/-! ## Changes outside those records -/

section
variable {s : State}

/-- The judgement of the lamps reads the stop record, whether the latest evaluation finds a zone not CLEAR, whether an
axis moves, and the states of the player and the recorder. -/
theorem LampsAgree.of_same {t : State} (stop : t.stop = s.stop)
    (approach : t.env.evaluation.anyNotClear = s.env.evaluation.anyNotClear) (moving : t.pose.moving = s.pose.moving)
    (recorder : t.recorder.state = s.recorder.state) (player : t.player.state = s.player.state) (h : LampsAgree s) :
    LampsAgree t := by
  have condition : t.lampCondition = s.lampCondition := by
    simp only [State.lampCondition, stop, approach, moving, recorder, player]
  simpa only [LampsAgree, condition, stop] using h

/-- The lamps judged again agree with their condition. -/
theorem lampsAgree_refreshLamps (s : State) : LampsAgree (refreshLamps s) := by
  have take : ∀ (l : Lamp) now p, (l.take now p).pattern = p := by
    intro l now p
    unfold Lamp.take
    split
    next same => exact same
    next =>
      unfold Lamp.begin
      split <;> rfl
  exact ⟨rfl, take _ _ _, take _ _ _⟩

/-- Whether the ports keep to their states is told by the two port records. -/
theorem PortsAgree.of_ports {t : State} (u : t.link.u = s.link.u) (d : t.link.d = s.link.d) (h : PortsAgree s) :
    PortsAgree t :=
  ⟨u ▸ h.u, d ▸ h.d, u ▸ h.notTest⟩

/-- Another record of the Link Supervisor whose ports keep to their states where they did. -/
theorem sameCore_withLink {x : Link} (ports : PortsAgree s → PortsAgree (s.withLink x)) : SameCore s (s.withLink x) :=
  ⟨rfl, rfl, rfl, rfl, rfl, rfl, rfl, rfl, rfl, rfl, rfl, rfl, rfl, rfl, rfl, id, ports, id, id, id⟩

theorem sameCore_withCycle (x) : SameCore s (s.withCycle x) :=
  ⟨rfl, rfl, rfl, rfl, rfl, rfl, rfl, rfl, rfl, rfl, rfl, rfl, rfl, rfl, rfl, id, .of_ports rfl rfl, id, id, id⟩

theorem sameCore_withLens (x) : SameCore s (s.withLens x) :=
  ⟨rfl, rfl, rfl, rfl, rfl, rfl, rfl, rfl, rfl, rfl, rfl, rfl, rfl, rfl, rfl, id, .of_ports rfl rfl, id, id, id⟩

/-- Other cue slots that keep to their form where they did. -/
theorem sameCore_withCues {x} (slots : SlotsAgree s → SlotsAgree (s.withCues x)) : SameCore s (s.withCues x) :=
  ⟨rfl, rfl, rfl, rfl, rfl, rfl, rfl, rfl, rfl, rfl, rfl, rfl, rfl, rfl, rfl, id, .of_ports rfl rfl, slots, id, id⟩

theorem sameCore_withPins (x) : SameCore s (s.withPins x) :=
  ⟨rfl, rfl, rfl, rfl, rfl, rfl, rfl, rfl, rfl, rfl, rfl, rfl, rfl, rfl, rfl, id, .of_ports rfl rfl, id, id, id⟩

theorem sameCore_withTimebase (x) : SameCore s (s.withTimebase x) :=
  ⟨rfl, rfl, rfl, rfl, rfl, rfl, rfl, rfl, rfl, rfl, rfl, rfl, rfl, rfl, rfl, id, .of_ports rfl rfl, id, id, id⟩

theorem sameCore_withNotices (x) : SameCore s (s.withNotices x) :=
  ⟨rfl, rfl, rfl, rfl, rfl, rfl, rfl, rfl, rfl, rfl, rfl, rfl, rfl, rfl, rfl, id, .of_ports rfl rfl, id, id, id⟩

theorem sameCore_withPending (x) : SameCore s (s.withPending x) :=
  ⟨rfl, rfl, rfl, rfl, rfl, rfl, rfl, rfl, rfl, rfl, rfl, rfl, rfl, rfl, rfl, id, .of_ports rfl rfl, id, id, id⟩

/-- Another record of the Envelope Unit with the scale as it stands, whose evaluation finds a zone not CLEAR just where
it did. -/
theorem sameCore_withEnv {x : Envelope} (approach : x.evaluation.anyNotClear = s.env.evaluation.anyNotClear)
    (scale : x.scale = s.env.scale) : SameCore s (s.withEnv x) :=
  ⟨rfl, rfl, rfl, rfl, rfl, rfl, rfl, rfl, rfl, rfl, rfl, rfl, rfl, rfl, rfl, .of_same rfl approach rfl rfl rfl,
    .of_ports rfl rfl, id, fun h => by rwa [ScaleAgrees, State.withEnv_env, scale], id⟩

/-- Another record of the Pose Unit with the axis records, and with every moving axis, as they stand, and the ages of the
entries bounded where they were. -/
theorem sameCore_withPose {x : Pose} (axes : x.axes = s.pose.axes) (moving : x.moving = s.pose.moving)
    (ages : AgesBounded s → AgesBounded (s.withPose x)) : SameCore s (s.withPose x) :=
  ⟨axes, rfl, rfl, rfl, rfl, rfl, rfl, rfl, rfl, rfl, rfl, rfl, rfl, rfl, rfl, .of_same rfl rfl moving rfl rfl,
    .of_ports rfl rfl, id, id, ages⟩

/-- Another record of the Stop Supervisor with the stop state, what follows it, both cause sets, the lamp map, the lamp
condition and the patterns of the lamps as they stand. -/
theorem sameCore_withStop {x : Stop}
    (same :
      x =
        { s.stop with
          lines := x.lines, config := x.config, gesture := x.gesture, amber := x.amber, red := x.red
          entryCycle := x.entryCycle, syncTimer := x.syncTimer, substituteTimer := x.substituteTimer
          gripHeld := x.gripHeld, consoleStop := x.consoleStop })
    (amber : x.amber.pattern = s.stop.amber.pattern) (red : x.red.pattern = s.stop.red.pattern) :
    SameCore s (s.withStop x) := by
  rw [same]
  refine ⟨rfl, rfl, rfl, rfl, rfl, rfl, rfl, rfl, rfl, rfl, rfl, rfl, rfl, rfl, rfl, fun h => ?_, .of_ports rfl rfl, id, id, id⟩
  exact ⟨h.1, amber.trans h.2.1, red.trans h.2.2⟩

theorem sameCore_setReceiving (p bs) : SameCore s (s.withSpine (s.spine.setReceiving p bs)) := by
  cases p <;> exact ⟨rfl, rfl, rfl, rfl, rfl, rfl, rfl, rfl, rfl, rfl, rfl, rfl, rfl, rfl, rfl, id, .of_ports rfl rfl, id, id, id⟩

theorem sameCore_setScale (c) : SameCore s (s.setScale c) :=
  ⟨rfl, rfl, rfl, rfl, rfl, rfl, rfl, rfl, rfl, rfl, rfl, rfl, rfl, rfl, rfl, id, .of_ports rfl rfl, id, fun _ => rfl, id⟩

theorem sameCore_refreshLamps : SameCore s (refreshLamps s) :=
  ⟨rfl, rfl, rfl, rfl, rfl, rfl, rfl, rfl, rfl, rfl, rfl, rfl, rfl, rfl, rfl, fun _ => lampsAgree_refreshLamps s,
    .of_ports rfl rfl, id, id, id⟩

/-- Another lamp map, by which the lamps are judged again. -/
theorem sameCore_lampMap (m) : SameCore s (refreshLamps (s.withStop { s.stop with lampMap := m })) :=
  ⟨rfl, rfl, rfl, rfl, rfl, rfl, rfl, rfl, rfl, rfl, rfl, rfl, rfl, rfl, rfl, fun _ => lampsAgree_refreshLamps _,
    .of_ports rfl rfl, id, id, id⟩

/-- The counters of a port are no part of what its state asks of it. -/
theorem PortRecord.Agrees.withCounters {r : PortRecord} (h : r.Agrees) (errored unknownKind queueDrops : Nat) :
    { r with errored, unknownKind, queueDrops : PortRecord }.Agrees :=
  ⟨h.window, h.frames, h.goodRun, h.lockHeld, h.linkUp, h.hold, h.passed⟩

theorem PortsAgree.port (h : PortsAgree s) (p) : (s.link.port p).Agrees := by
  cases p
  · exact h.u
  · exact h.d

theorem PortsAgree.port_u_state (h : PortsAgree s) {p} (u : p = .u) : (s.link.port p).state ≠ .test := by
  subst u
  exact h.notTest

/-- Another record for a port that keeps to its state, outside TEST on U. -/
theorem PortsAgree.setPort (h : PortsAgree s) {p : Port} {r : PortRecord} (agrees : r.Agrees)
    (notTest : p = .u → r.state ≠ .test) : PortsAgree (s.withLink (s.link.setPort p r)) := by
  cases p
  · exact ⟨agrees, h.d, notTest rfl⟩
  · exact ⟨h.u, agrees, h.notTest⟩

/-- Another record for a port in the state in which it is. -/
theorem PortsAgree.setPort_still (h : PortsAgree s) {p : Port} {r : PortRecord} (agrees : r.Agrees)
    (state : r.state = (s.link.port p).state) : PortsAgree (s.withLink (s.link.setPort p r)) :=
  h.setPort agrees fun u => state ▸ h.port_u_state u

theorem sameCore_setCounter (p c v) : SameCore s (s.setCounter p c v) := by
  cases c with
  | errored | unknownKind | queueDrops =>
    exact sameCore_withLink fun h => h.setPort_still (PortRecord.Agrees.withCounters (h.port p) _ _ _) rfl
  | sequence => exact sameCore_withCycle _

end

/-! ## The acceptance tests and the counts of the gate -/

theorem acceptance_withGate {src k g} {s : State} (same : g.last = s.gate.last) :
    acceptance src k (s.withGate g) = acceptance src k s := by
  have lens : lensFaulted (s.withGate g) k = lensFaulted s k := rfl
  simp only [acceptance, lens, State.withGate_pose, State.withGate_stop, State.withGate_lens, State.withGate_player,
    State.withGate_gate, same]

theorem lastOrSeed_withGate {k g} {s : State} (same : g.last = s.gate.last) :
    lastOrSeed k (s.withGate g) = lastOrSeed k s := by
  simp only [lastOrSeed, State.withGate_pose, State.withGate_gate, same]

/-! ## The player's record through its own operations -/

@[simp] theorem enterPlayer_player (p s) : (enterPlayer p s).player = { s.player with state := p } := by
  simp [enterPlayer]

/-- A setpoint at the gate changes only the rings and the clamped flag of the player. -/
theorem submit_player (src k v c s) :
    (submit src k v c s).player =
      { s.player with
        rings := (submit src k v c s).player.rings, clamped := (submit src k v c s).player.clamped } := by
  unfold submit
  split
  · rfl
  · rfl
  · unfold gateAccepted composeSet clampReport ringObserve
    dsimp only
    repeat' split
    all_goals simp

@[simp] theorem submit_player_fields (src k v c s) :
    (submit src k v c s).player.state = s.player.state ∧ (submit src k v c s).player.take = s.player.take
      ∧ (submit src k v c s).player.mask = s.player.mask ∧ (submit src k v c s).player.index = s.player.index
      ∧ (submit src k v c s).player.peaks = s.player.peaks := by
  rw [submit_player]
  exact ⟨rfl, rfl, rfl, rfl, rfl⟩

/-- Setpoints at the gate, one after another, leave the player's state, take, mask, index and peaks. -/
theorem foldl_submit_player {β : Type} (src : Source) (axis : β → Axis) (value : State → β → Int) (c : CycleNo)
    (l : List β) (s : State) :
    let t := l.foldl (fun u b => submit src (axis b) (value u b) c u) s
    t.player.state = s.player.state ∧ t.player.take = s.player.take ∧ t.player.mask = s.player.mask
      ∧ t.player.index = s.player.index ∧ t.player.peaks = s.player.peaks := by
  induction l generalizing s with
  | nil => exact ⟨rfl, rfl, rfl, rfl, rfl⟩
  | cons b rest ih => simpa using ih (submit src (axis b) (value s b) c s)

@[simp] theorem submitSample_player (src i c s) :
    (submitSample src i c s).player.state = s.player.state ∧ (submitSample src i c s).player.take = s.player.take
      ∧ (submitSample src i c s).player.mask = s.player.mask
      ∧ (submitSample src i c s).player.index = s.player.index
      ∧ (submitSample src i c s).player.peaks = s.player.peaks := by
  unfold submitSample
  split
  · exact foldl_submit_player src id (fun u k => u.store.sampleValue _ k i) c _ s
  · simp

/-! ## The ports at each change of their records (R25 to R30) -/

/-- A timer that is due runs. -/
theorem Timer.isRunning_of_due {t : Timer} {now : Nat} (due : t.due now = true) : t.isRunning = true := by
  cases t <;> simp_all [Timer.due, Timer.isRunning]

/-- The record of a port that goes down, or into TEST. -/
theorem PortRecord.dropped_agrees (r : PortRecord) (b : Nat) {new : PortState} (low : new = .down ∨ new = .test) :
    ({ r.dropped with state := new, badRun := b, lockHeld := r.lockHeld && new.isUp } : PortRecord).Agrees := by
  obtain rfl | rfl := low <;>
  exact ⟨fun _ => ⟨rfl, rfl⟩, by simp [dropped], by simp [dropped], by simp, rfl, by simp [dropped, Timer.isRunning],
    by simp [dropped]⟩

namespace PortRecord.Agrees
variable {r : PortRecord}

/-- A port that stays in its state, with its window at an end. -/
theorem cleared (h : r.Agrees) : ({ r with windowFrames := 0, windowErrors := 0 } : PortRecord).Agrees :=
  ⟨fun _ => ⟨rfl, rfl⟩, by simp, h.goodRun, h.lockHeld, h.linkUp, h.hold, h.passed⟩

/-- A frame counted in the window of a port that is UP or DEGRADED. -/
theorem counted (h : r.Agrees) (up : r.state.isUp = true) (errors : Nat) {frames : Nat} (few : frames < 1024) :
    ({ r with windowFrames := frames, windowErrors := errors } : PortRecord).Agrees :=
  ⟨fun down => by simp [up] at down, few, h.goodRun, h.lockHeld, h.linkUp, h.hold, h.passed⟩

theorem runs (h : r.Agrees) (n : Nat) (few : n < 8) : ({ r with goodRun := n } : PortRecord).Agrees :=
  ⟨h.window, h.frames, few, h.lockHeld, h.linkUp, h.hold, h.passed⟩

theorem runsBad (h : r.Agrees) (n : Nat) : ({ r with badRun := n } : PortRecord).Agrees :=
  ⟨h.window, h.frames, h.goodRun, h.lockHeld, h.linkUp, h.hold, h.passed⟩

/-- A READ sets lock-held by the state. -/
theorem locked (h : r.Agrees) : ({ r with lockHeld := r.state.isUp } : PortRecord).Agrees :=
  ⟨h.window, h.frames, h.goodRun, id, h.linkUp, h.hold, h.passed⟩

theorem signals (h : r.Agrees) (b : Bool) : ({ r with signal := b } : PortRecord).Agrees :=
  ⟨h.window, h.frames, h.goodRun, h.lockHeld, h.linkUp, h.hold, h.passed⟩

/-- Outside DEGRADED the hold timer does not run and hold passed is clear. -/
theorem hold_idle (h : r.Agrees) (other : r.state ≠ .degraded) : r.holdTimer.isRunning = false ∧ r.holdPassed = false :=
  ⟨Bool.eq_false_iff.mpr fun runs => other (h.hold runs).1, Bool.eq_false_iff.mpr fun passed => other (h.passed passed)⟩

/-- The eighth good frame in a row takes DOWN to ACQUIRING. -/
theorem acquires (h : r.Agrees) (down : r.state = .down) (now duration : Nat) :
    ({ r with
      state := .acquiring, goodRun := 0, linkUpTimer := .running now duration
      lockHeld := r.lockHeld && PortState.isUp .acquiring } : PortRecord).Agrees := by
  obtain ⟨hold, passed⟩ := h.hold_idle (by simp [down])
  exact ⟨fun _ => h.window (by simp [down, PortState.isUp]), h.frames, by simp, by simp [PortState.isUp], rfl,
    by simp [hold], by simp [passed]⟩

/-- The link-up timer, which runs in ACQUIRING alone, takes the port to UP. -/
theorem rises (h : r.Agrees) {now : Nat} (due : r.linkUpTimer.due now = true) :
    ({ r.risen with state := .up, lockHeld := r.risen.lockHeld && PortState.isUp .up } : PortRecord).Agrees := by
  have acquiring : r.state = .acquiring := eq_of_beq (h.linkUp.symm.trans (Timer.isRunning_of_due due))
  obtain ⟨hold, -⟩ := h.hold_idle (by simp [acquiring])
  exact ⟨fun _ => ⟨rfl, rfl⟩, by simp [risen], h.goodRun, fun _ => rfl, rfl, by simp [risen, hold], by simp [risen]⟩

/-- A bad window takes UP to DEGRADED. -/
theorem degrades (h : r.Agrees) (up : r.state = .up) (now duration : Nat) :
    ({ r with
      state := .degraded, windowFrames := 0, windowErrors := 0, holdPassed := false, holdTimer := .running now duration
      lockHeld := r.lockHeld && PortState.isUp .degraded } : PortRecord).Agrees :=
  ⟨fun _ => ⟨rfl, rfl⟩, by simp, h.goodRun, fun _ => rfl, h.linkUp.trans (by rw [up]; rfl), fun _ => ⟨rfl, rfl⟩, by simp⟩

/-- A good window after the hold takes DEGRADED to UP. -/
theorem recovers (h : r.Agrees) (degraded : r.state = .degraded) (passed : r.holdPassed = true) :
    ({ r with
      state := .up, windowFrames := 0, windowErrors := 0, holdPassed := false
      lockHeld := r.lockHeld && PortState.isUp .up } : PortRecord).Agrees := by
  have idle : r.holdTimer.isRunning = false := Bool.eq_false_iff.mpr fun runs => by simpa [passed] using (h.hold runs).2
  exact ⟨fun _ => ⟨rfl, rfl⟩, by simp, h.goodRun, fun _ => rfl, h.linkUp.trans (by rw [degraded]; rfl), by simp [idle],
    by simp⟩

/-- The hold timer, which runs in DEGRADED alone, passes. -/
theorem passes (h : r.Agrees) {now : Nat} (due : r.holdTimer.due now = true) :
    ({ r with holdPassed := true, holdTimer := .stopped } : PortRecord).Agrees :=
  ⟨h.window, h.frames, h.goodRun, h.lockHeld, h.linkUp, by simp [Timer.isRunning],
    fun _ => (h.hold (Timer.isRunning_of_due due)).1⟩

/-- The end of a link test takes TEST to DOWN. -/
theorem stopsTest (h : r.Agrees) (test : r.state = .test) :
    ({ r with state := .down, goodRun := 0, lockHeld := r.lockHeld && PortState.isUp .down } : PortRecord).Agrees := by
  obtain ⟨hold, passed⟩ := h.hold_idle (by simp [test])
  exact ⟨fun _ => h.window (by simp [test, PortState.isUp]), h.frames, by simp, by simp [PortState.isUp],
    h.linkUp.trans (by rw [test]; rfl), by simp [hold], by simp [passed]⟩

end PortRecord.Agrees

/-! ## The cue slots at a cue byte (R179) -/

theorem CueSlot.Agrees.progress_lt {c : CueSlot} (h : c.Agrees) (enabled : 0 < c.pattern.length) :
    c.progress < c.pattern.length := by
  unfold CueSlot.Agrees at h
  rw [if_neg (List.ne_nil_of_length_pos enabled)] at h
  exact h.2.2

theorem CueSlot.Agrees.advance_le {c : CueSlot} (h : c.Agrees) (enabled : 0 < c.pattern.length) (b : Byte) :
    c.advance b ≤ c.pattern.length := by
  have := h.progress_lt enabled
  unfold CueSlot.advance
  split_ifs <;> omega

/-- A slot keeps to its form with another progress below its length, or with none. -/
theorem CueSlot.Agrees.withProgress {c : CueSlot} (h : c.Agrees) {p : Nat} (below : p < c.pattern.length ∨ p = 0) :
    ({ c with progress := p } : CueSlot).Agrees := by
  unfold CueSlot.Agrees at h ⊢
  split
  next disabled =>
    rw [if_pos disabled] at h
    simp_all
  next enabled =>
    rw [if_neg enabled] at h
    have := List.length_pos_iff.mpr enabled
    exact ⟨h.1, h.2.1, by dsimp only; omega⟩

/-- Another slot that keeps to its form. -/
theorem SlotsAgree.set {s : State} (h : SlotsAgree s) (n : Fin 8) {c : CueSlot} (agrees : c.Agrees) :
    SlotsAgree (s.withCues (s.cues.set n.val c)) := by
  intro m
  by_cases same : n.val = m.val
  · simpa [← same] using agrees
  · simpa [same] using h m

/-- Another progress of a slot, below its length. -/
theorem SlotsAgree.progress {s : State} (h : SlotsAgree s) (n : Fin 8) {p : Nat} (below : p < s.cues[n].pattern.length) :
    SlotsAgree (setProgress n p s) :=
  h.set n ((h n).withProgress (.inl below))

/-! ## Every operation composed of these keeps the property -/

namespace Kept
variable {P : State → Prop} {s : State}

theorem lamps (h : Kept P) (hs : P s) : P (refreshLamps s) := h.other sameCore_refreshLamps hs

theorem wake (h : Kept P) {w : WakeReason} (parked : s.stop.state = .parked) (hs : P s) : P (wake w s) :=
  h.occur _ _ (h.wakes _ parked hs)

theorem raise (h : Kept P) (k d) (hs : P s) : P (raise k d s) := by
  unfold Machine.raise
  dsimp only
  split
  next wakes =>
    refine h.wake ?_ (h.occur k d hs)
    simp_all
  next => exact h.occur k d hs

theorem bumpCounter (h : Kept P) (p c) (hs : P s) : P (bumpCounter p c s) := by
  unfold Machine.bumpCounter
  dsimp only
  split
  · exact h.raise _ _ (h.other (sameCore_setCounter p c _) hs)
  · exact h.other (sameCore_setCounter p c _) hs

theorem offerForward (h : Kept P) (f) (hs : P s) : P (offerForward f s) := by
  unfold Machine.offerForward
  split
  next room => exact h.forward f room hs
  next => exact h.bumpCounter _ _ hs

theorem offerQueueD (h : Kept P) (f) (hs : P s) : P (offerQueueD f s) := by
  unfold Machine.offerQueueD
  split
  · exact hs
  · split
    next room => exact h.queueD f room hs
    next => exact h.bumpCounter _ _ hs

theorem handOver (h : Kept P) (c b) (hs : P s) : P (handOver c b s) := by
  cases b
  · exact h.leaves c hs
  · exact h.enters c hs

/-! ### The recorder -/

theorem bufferValue (h : Kept P) (k v) (hs : P s) : P (bufferValue k v s) := by
  unfold Machine.bufferValue
  split
  · exact h.recorder _ rfl rfl rfl hs
  · exact hs

/-- Samples written keep the property, and leave the recorder's state, take and mask. -/
theorem writeSamples (h : Kept P) {t} (n : Nat) : ∀ {s : State} (b : Bool), s.recorder.state = .recording →
    s.recorder.take = some t → P s → P (writeSamples t s n b).1
      ∧ (writeSamples t s n b).1.recorder.state = .recording
      ∧ (writeSamples t s n b).1.recorder.take = some t := by
  induction n with
  | zero => exact fun _ recording take hs => ⟨hs, recording, take⟩
  | succ n ih =>
    intro s b recording take hs
    unfold Machine.writeSamples
    split
    next => exact ⟨hs, recording, take⟩
    next st written =>
      have stored := h.sample recording take written hs
      cases b
      · exact ih true recording take stored
      · exact ih true recording take (h.recorder _ rfl rfl rfl stored)

theorem closeSamples (h : Kept P) {t} (d c) (recording : s.recorder.state = .recording)
    (take : s.recorder.take = some t) (hs : P s) : P (closeSamples t d c s) := by
  have := h.writeSamples (1 + min (d - 1) 3) false recording take hs
  unfold Machine.closeSamples
  split
  next s' written =>
    rw [written] at this
    exact h.recorder _ rfl rfl rfl this.1
  next s' written =>
    rw [written] at this
    exact h.ends _ this.2.2 this.1

theorem recorderCycle (h : Kept P) (c) (hs : P s) : P (recorderCycle c s) := by
  unfold Machine.recorderCycle
  split
  next recording take openCycle =>
    dsimp only
    split
    · exact h.closeSamples _ _ recording take hs
    · exact hs
  next => exact hs

theorem recorderObserve (h : Kept P) (k v c) (hs : P s) : P (recorderObserve k v c s) := by
  unfold Machine.recorderObserve
  split
  next => exact h.bufferValue k v hs
  next =>
    split
    · dsimp only
      split
      · exact h.bufferValue k v (h.recorderCycle c hs)
      · exact h.recorderCycle c hs
    · exact hs
  next => exact hs

theorem recorderArrival (h : Kept P) (c tc) (hs : P s) : P (recorderArrival c tc s) := by
  unfold Machine.recorderArrival
  split
  next armed take => exact h.starts c tc armed take hs
  next => exact h.recorderCycle c hs
  next => exact hs

theorem ends_any (h : Kept P) (e) (hs : P s) : P (endRecording e s) := by
  cases take : s.recorder.take with
  | none => simpa only [endRecording, take] using hs
  | some t => exact h.ends e take hs

theorem stopRecording (h : Kept P) (hs : P s) : P (stopRecording s) := by
  unfold Machine.stopRecording
  split
  next recording take =>
    have := h.writeSamples 1 false recording take hs
    split
    next written => rw [written] at this; exact h.ends_any _ this.1
    next written => rw [written] at this; exact h.ends_any _ this.1
  next => exact h.ends_any _ hs
  next => exact hs

theorem stopRecord (h : Kept P) (hs : P s) : P (stopRecord s).2 := by
  unfold Machine.stopRecord
  split
  · exact hs
  · exact h.stopRecording hs

/-! ### The gate -/

theorem ringObserve (h : Kept P) (src k v c) (hs : P s) : P (ringObserve src k v c s) := by
  unfold Machine.ringObserve
  split
  · exact h.ring k v c hs
  · exact hs

theorem clampReport (h : Kept P) (src k c) (hs : P s) : P (clampReport src k c s) := by
  unfold Machine.clampReport
  split
  · exact h.raise _ _ (h.player _ rfl rfl rfl rfl hs)
  · exact hs

theorem composeSet (h : Kept P) {src k} (v c step) (accepted : acceptance src k s = .accepted) (hs : P s) :
    P (composeSet src k (slew (lastOrSeed k s) (s.pose.axes[k].clampTarget v) step) c s) :=
  h.ringObserve _ _ _ _ (h.recorderObserve _ _ _ (h.offerQueueD _ (h.forwards v step accepted hs)))

theorem gateAccepted (h : Kept P) {src k} (v c) (accepted : acceptance src k s = .accepted) (hs : P s) :
    P (gateAccepted src k v c s) := by
  have counted : ∀ g : Gate, g.last = s.gate.last →
      P (Machine.composeSet src k (slew (lastOrSeed k s) (s.pose.axes[k].clampTarget v) (gateStep src k s)) c
        (s.withGate g)) := fun g same => by
    have composed := h.composeSet v c (gateStep src k s) ((acceptance_withGate same).trans accepted)
      (h.counts g same hs)
    rwa [lastOrSeed_withGate same] at composed
  unfold Machine.gateAccepted
  dsimp only
  split
  · exact h.clampReport _ _ _ (counted _ rfl)
  · exact h.composeSet v c _ accepted hs

theorem submit (h : Kept P) (src k v c) (hs : P s) : P (submit src k v c s) := by
  unfold Machine.submit
  split
  next => exact h.counts _ rfl hs
  next => exact h.counts _ rfl hs
  next accepted => exact h.gateAccepted v c accepted hs

theorem gateRefusal (h : Kept P) (hs : P s) : P (gateRefusal s) := h.counts _ rfl hs

/-! ### The lenses -/

theorem translate (h : Kept P) (i u) (hs : P s) : P (translate i u s).1 := by
  unfold Machine.translate
  dsimp only
  split
  · exact h.other (sameCore_withLens _) hs
  · exact hs

theorem lensSetpoint (h : Kept P) (i v c) (hs : P s) : P (lensSetpoint i v c s) := by
  unfold Machine.lensSetpoint
  split
  · exact h.other (sameCore_withLens _) hs
  · split
    · exact h.submit _ _ _ _ (h.translate i v hs)
    · exact h.gateRefusal hs

theorem followSubmission (h : Kept P) (p c) (hs : P s) : P (followSubmission p c s) := by
  unfold Machine.followSubmission
  split
  · exact h.submit _ _ _ _ (h.other (sameCore_withLens _) (h.translate _ _ hs))
  · exact hs

theorem followOn (h : Kept P) (k) (hs : P s) : P (followOn k s).2 := by
  unfold Machine.followOn
  split
  · exact hs
  · exact h.other (sameCore_withLens _) hs

theorem lensFeedback (h : Kept P) (i f) (hs : P s) : P (lensFeedback i f s) := by
  unfold Machine.lensFeedback
  split
  · split
    · exact hs
    · exact h.raise _ _ (h.other (sameCore_withLens _) hs)
  · exact h.other (sameCore_withLens _) hs
  · exact hs

theorem judgeStale (h : Kept P) (i) (hs : P s) : P (judgeStale i s) := by
  unfold Machine.judgeStale
  dsimp only
  split
  · exact h.raise _ _ (h.other (sameCore_withLens _) hs)
  · split
    · exact h.other (sameCore_withLens _) hs
    · exact hs

/-! ### The player -/

theorem foldl {β : Type} {f : State → β → State} (step : ∀ {u} b, P u → P (f u b)) (l : List β) :
    ∀ {s : State}, P s → P (l.foldl f s) := by
  induction l with
  | nil => exact id
  | cons b rest ih => exact fun hs => ih (step b hs)

theorem submitSample (h : Kept P) (src i c) (hs : P s) : P (submitSample src i c s) := by
  unfold Machine.submitSample
  split
  · exact foldl (fun k hu => h.submit src k _ c hu) _ hs
  · exact hs

theorem playSample (h : Kept P) (i c) (playing : s.player.state ≠ .idle) (hs : P s) : P (playSample i c s) := by
  unfold Machine.playSample
  split
  · dsimp only
    have submitted := fun n => h.submitSample .player n c hs
    split
    · refine h.raise _ _ (h.enterPlayer .holding ?_ (by decide) (h.player _ rfl rfl rfl rfl (submitted _)))
      simpa using playing
    · exact h.player _ rfl rfl rfl rfl (submitted _)
  · exact hs

theorem playerArrival (h : Kept P) (c g) (hs : P s) : P (playerArrival c g s) := by
  unfold Machine.playerArrival
  split
  next => exact h.submitSample _ _ _ hs
  next ready =>
    split
    · refine h.playSample _ _ (by simp) (h.enterPlayer .playing ?_ (by decide) (h.player _ rfl rfl rfl rfl hs))
      simp [ready]
    · exact h.submitSample _ _ _ hs
  next playing =>
    split
    · exact h.playSample _ _ (by simp [playing]) hs
    · exact hs
  next => exact hs

theorem playerFeedback (h : Kept P) (k f) (hs : P s) : P (playerFeedback k f s) := by
  unfold Machine.playerFeedback
  split
  · split
    next cueing =>
      unfold judgeInPosition
      split
      · split
        · exact h.enterPlayer .ready (by simp [cueing]) (by decide) hs
        · exact hs
      · exact hs
    next =>
      unfold followCheck
      split
      · exact hs
      · dsimp only
        have peaked : ∀ v, P (s.withPlayer { s.player with peaks := v }) := fun _ => h.player _ rfl rfl rfl rfl hs
        split
        · exact h.raise _ _ (h.ramps .follow rfl (peaked _))
        · exact peaked _
    next => exact hs
  · exact hs

theorem goPlay (h : Kept P) (hs : P s) : P (goPlay s).2 := by
  unfold Machine.goPlay
  split
  · exact h.player _ rfl rfl rfl rfl hs
  · exact hs

/-! ### The Pose Unit and the Envelope Unit -/

theorem judgeFeedback (h : Kept P) (k) (hs : P s) : P (judgeFeedback k s) := by
  unfold Machine.judgeFeedback
  split
  · exact h.judgeStale _ hs
  · exact h.handOver _ _ hs

theorem judgeConfigured (h : Kept P) (hs : P s) : P (judgeConfigured s) := h.handOver _ _ hs

theorem aged_moving (p : Pose) :
    ({ p with entries := Vector.ofFn fun k : Fin 10 => PoseEntry.aged p.entries[k] } : Pose).moving = p.moving := by
  unfold Pose.moving
  congr 1
  funext k
  simp only [Fin.getElem_fin, Vector.getElem_ofFn]
  unfold PoseEntry.aged
  split <;> rfl

theorem aged_bounded (h : AgesBounded s) :
    AgesBounded (s.withPose { s.pose with entries := Vector.ofFn fun k : Fin 10 => PoseEntry.aged s.pose.entries[k] }) := by
  intro k
  obtain ⟨bound, absent⟩ := h k
  simp only [State.withPose_pose, Fin.getElem_fin, Vector.getElem_ofFn] at bound absent ⊢
  unfold PoseEntry.aged satInc
  split
  next present => exact ⟨by dsimp only; split <;> omega, by simp [present]⟩
  next => exact ⟨bound, absent⟩

theorem poseArrival (h : Kept P) (hs : P s) : P (poseArrival s) :=
  foldl (fun k hu => h.judgeFeedback k hu) _ (h.other (sameCore_withPose rfl (aged_moving _) aged_bounded) hs)

/-! ### The Stop Supervisor -/

theorem judgeStandstill (h : Kept P) (k c) (hs : P s) : P (judgeStandstill k c s) := by
  unfold Machine.judgeStandstill
  split
  next ramp _ =>
    split
    · dsimp only
      split
      · exact h.stands _ (by simpa using ramp) (h.judged _ ramp hs)
      · exact h.judged _ ramp hs
    · exact hs
  next => exact hs

theorem stopFeedback (h : Kept P) (k f) (hs : P s) : P (stopFeedback k f s) := by
  unfold Machine.stopFeedback
  split
  · exact h.lamps (h.judgeStandstill _ _ (h.handOver _ _ hs))
  · exact hs

theorem lineChange (h : Kept P) (n c l) (hs : P s) : P (lineChange n c l s) := by
  unfold Machine.lineChange
  dsimp only
  split
  · exact hs
  · split
    · exact h.leaves _ (h.handOver _ _ (h.other (sameCore_withStop rfl rfl rfl) hs))
    · exact h.handOver _ _ (h.other (sameCore_withStop rfl rfl rfl) hs)

theorem lineFault (h : Kept P) (n) (hs : P s) : P (lineFault n s) :=
  h.raise _ _ (h.enters _ (h.other (sameCore_withStop rfl rfl rfl) hs))

theorem syncRestart (h : Kept P) (hs : P s) : P (syncRestart s) :=
  h.leaves _ (h.other (sameCore_withStop rfl rfl rfl) hs)

theorem rampExpiry (h : Kept P) (hs : P s) : P (rampExpiry s) := by
  unfold Machine.rampExpiry
  split
  next due => exact h.timesOut due.1 hs
  next => exact hs

/-! ### The Link Supervisor -/

theorem handLink (h : Kept P) (hs : P s) : P (handLink s) := h.other (sameCore_setScale _) (h.handOver _ _ hs)

theorem changePort (h : Kept P) {p r new} (why)
    (agrees : PortsAgree s → ({ r with state := new, lockHeld := r.lockHeld && new.isUp } : PortRecord).Agrees)
    (notTest : p = .u → new ≠ .test) (hs : P s) : P (changePort p r new why s) := by
  have raised := fun d => h.raise 13 d
    (h.other (sameCore_withLink fun hp => hp.setPort (agrees hp) notTest) hs)
  cases p
  · exact raised _
  · exact h.handLink (raised _)

theorem endWindow (h : Kept P) (p n) {r : PortRecord} (agrees : PortsAgree s → r.Agrees)
    (state : r.state = (s.link.port p).state) (hs : P s) : P (endWindow p n r s) := by
  have still := fun (hp : PortsAgree s) =>
    hp.setPort_still (p := p) (r := { r with windowFrames := 0, windowErrors := 0 }) (agrees hp).cleared state
  unfold Machine.endWindow
  dsimp only
  split
  next up =>
    split
    · exact h.changePort _ (fun hp => (agrees hp).degrades up _ _) (by simp) hs
    · exact h.other (sameCore_withLink still) hs
  next degraded =>
    split
    next good =>
      exact h.changePort _ (fun hp => (agrees hp).recovers degraded (by simp_all)) (by simp) hs
    next => exact h.other (sameCore_withLink still) hs
  next => exact h.other (sameCore_withLink still) hs

theorem countWindow (h : Kept P) (p n) {r : PortRecord} (agrees : PortsAgree s → r.Agrees)
    (state : r.state = (s.link.port p).state) (up : r.state.isUp = true) (hs : P s) : P (countWindow p n r s) := by
  unfold Machine.countWindow
  dsimp only
  split
  · exact h.endWindow _ _ agrees state hs
  next open_ =>
    exact h.other (sameCore_withLink fun hp => hp.setPort_still ((agrees hp).counted up _ (by omega)) state) hs

theorem linkGood (h : Kept P) (p) (hs : P s) : P (linkGood p s) := by
  unfold Machine.linkGood
  dsimp only
  split
  next down =>
    split
    · exact h.changePort _ (fun hp => (hp.port p).acquires down _ _) (by simp) hs
    · exact h.other (sameCore_withLink fun hp => hp.setPort_still ((hp.port p).runs _ (by omega)) rfl) hs
  next => exact hs
  next up => exact h.countWindow _ _ (fun hp => (hp.port p).runsBad 0) rfl (by simp [up, PortState.isUp]) hs
  next up => exact h.countWindow _ _ (fun hp => (hp.port p).runsBad 0) rfl (by simp [up, PortState.isUp]) hs
  next => exact hs

theorem countBad (h : Kept P) (p why) (hs : P s) : P (countBad p why s) := by
  unfold Machine.countBad
  dsimp only
  split
  · exact h.bumpCounter _ _ (h.bumpCounter _ _ hs)
  · exact h.bumpCounter _ _ hs

theorem linkBadState (h : Kept P) (p) (hs : P s) : P (linkBadState p s) := by
  have inUp (up : (s.link.port p).state.isUp = true) (b : Prop) [Decidable b] :
      P (if b then Machine.changePort p { (s.link.port p).dropped with badRun := (s.link.port p).badRun + 1 } .down .badRun s
        else Machine.countWindow p 1 { s.link.port p with badRun := (s.link.port p).badRun + 1 } s) := by
    split
    · exact h.changePort _ (fun _ => PortRecord.dropped_agrees _ _ (.inl rfl)) (by simp) hs
    · exact h.countWindow _ _ (fun hp => (hp.port p).runsBad _) rfl up hs
  unfold Machine.linkBadState
  dsimp only
  split
  · exact h.other (sameCore_withLink fun hp => hp.setPort_still ((hp.port p).runs 0 (by omega)) rfl) hs
  · exact h.changePort _ (fun _ => PortRecord.dropped_agrees _ _ (.inl rfl)) (by simp) hs
  next up => exact inUp (by simp [up, PortState.isUp]) _
  next up => exact inUp (by simp [up, PortState.isUp]) _
  · exact hs

theorem linkBad (h : Kept P) (p why) (hs : P s) : P (linkBad p why s) := h.linkBadState p (h.countBad p why hs)

theorem signalLost (h : Kept P) (p) (hs : P s) : P (signalLost p s) := by
  have received := h.other (sameCore_setReceiving p []) hs
  have down : ∀ r : PortRecord, ({ r.dropped with state := .down, lockHeld := r.lockHeld && PortState.isUp .down } :
    PortRecord).Agrees := fun r => PortRecord.dropped_agrees r _ (.inl rfl)
  unfold Machine.signalLost
  dsimp only
  split
  · exact h.other (sameCore_withLink fun hp => hp.setPort_still (((hp.port p).signals false).runs 0 (by omega)) rfl) received
  · exact h.changePort _ (fun _ => down _) (by simp) received
  · exact h.changePort _ (fun _ => down _) (by simp) received
  · exact h.changePort _ (fun _ => down _) (by simp) received
  · exact h.other (sameCore_withLink (.of_ports rfl rfl))
      (h.other (sameCore_withLink fun hp => hp.setPort_still ((hp.port p).signals false) rfl) received)

theorem signalRegained (h : Kept P) (p) (hs : P s) : P (signalRegained p s) := by
  have signals := h.other (sameCore_withLink fun hp => hp.setPort_still ((hp.port p).signals true) rfl) hs
  unfold Machine.signalRegained
  dsimp only
  split
  · exact h.other (sameCore_withLink (.of_ports rfl rfl)) signals
  · exact signals

theorem linkUpExpiry (h : Kept P) (p) (hs : P s) : P (linkUpExpiry p s) := by
  unfold Machine.linkUpExpiry
  dsimp only
  split
  next due => exact h.changePort _ (fun hp => (hp.port p).rises due) (by simp) hs
  next => exact hs

theorem holdExpiry (h : Kept P) (p) (hs : P s) : P (holdExpiry p s) := by
  unfold Machine.holdExpiry
  dsimp only
  split
  next due => exact h.other (sameCore_withLink fun hp => hp.setPort_still ((hp.port p).passes due) rfl) hs
  next => exact hs

theorem testBit (h : Kept P) (b) (hs : P s) : P (testBit b s) := by
  unfold Machine.testBit
  dsimp only
  repeat' split
  all_goals first | exact hs | exact h.other (sameCore_withLink (.of_ports rfl rfl)) hs

theorem stopTest (h : Kept P) (hs : P s) : P (stopTest s).2 := by
  unfold Machine.stopTest
  split
  next testing =>
    have test : s.link.d.state = .test := by simpa [State.inTest] using testing
    exact h.changePort (p := .d) (r := { s.link.d with goodRun := 0 }) (new := .down) .testStop
      (fun hp => hp.d.stopsTest test) (by simp)
      (h.other (sameCore_withLink (.of_ports rfl rfl)) hs)
  next => exact hs

/-! ### The Cue Matcher -/

theorem fire (h : Kept P) (n a) (hs : P s) : P (fire n a s) := by
  refine h.raise _ _ ?_
  cases a with
  | recStart t m => exact h.arms t m hs
  | recStop => exact h.stopRecord hs
  | cue t => exact h.cues t hs
  | go => exact h.goPlay hs
  | release => exact h.releases hs
  | subject k => exact h.followOn k hs
  | mark => exact hs

theorem updateSlot (h : Kept P) (b n) (hs : P s) : P (updateSlot b s n) := by
  unfold Machine.updateSlot
  dsimp only
  split
  · exact hs
  next _ _ _ _ pattern =>
    have moved : ∀ p, (SlotsAgree s → p < s.cues[n].pattern.length) → P (setProgress n p s) := fun p below =>
      h.other (sameCore_withCues fun slots => slots.progress n (below slots)) hs
    have first : 0 < s.cues[n].pattern.length := by simp only [pattern, List.length_cons, Nat.zero_lt_succ]
    split
    · split
      · exact h.fire _ _ (moved _ fun _ => first)
      · exact moved _ fun _ => first
    next shorter => exact moved _ fun slots => by have := (slots n).advance_le first b; omega

theorem cueArrival (h : Kept P) (cues) (hs : P s) : P (cueArrival cues s) :=
  foldl (fun _ hu => foldl (fun n hv => h.updateSlot _ n hv) _ hu) _ hs

end Kept

/-! ## The pose set and the evaluations -/

/-- A property that the shared operations keep, and besides them a new pose entry and a new evaluation: the lamps, which
are judged from both, agree with neither until they are judged again. -/
structure KeptPose (P : State → Prop) : Prop where
  kept : Kept P
  entered : ∀ {s} (k : Axis) f, P s → P (s.withPose { s.pose with entries := s.pose.entries.set k.val (entryOf f) })
  evaluated : ∀ {s} e c, P s → P ((s.withEnv { s.env with evaluation := e }).setScale c)

namespace KeptPose
variable {P : State → Prop} {s : State}

theorem evaluate (h : KeptPose P) (c m p) (hs : P s) : P (evaluate c m p s) := by
  refine h.kept.lamps (Kept.foldl (fun z hu => ?_) _ (h.kept.handOver _ _ (h.evaluated _ _ hs)))
  split
  · exact hu
  · exact h.kept.raise _ _ hu

theorem completePose (h : KeptPose P) (e c m) (hs : P s) : P (completePose e c m s) := by
  unfold Machine.completePose
  split
  · dsimp only
    split
    · exact h.kept.followSubmission _ _ (h.evaluate _ _ _ (h.kept.other (sameCore_withPose rfl rfl id) hs))
    · exact h.evaluate _ _ _ (h.kept.followSubmission _ _ (h.kept.other (sameCore_withPose rfl rfl id) hs))
  · exact h.kept.other (sameCore_withPose rfl rfl id) hs

theorem captureAxis (h : KeptPose P) (e c k m) (hs : P s) : P (captureAxis e c k m s) := by
  unfold Machine.captureAxis
  dsimp only
  split
  · exact h.completePose _ _ _ (h.kept.other (sameCore_withPose rfl rfl id) hs)
  · exact h.kept.other (sameCore_withPose rfl rfl id) hs

theorem poseSetTake (h : KeptPose P) (e k c m) (hs : P s) : P (poseSetTake e k c m s) := by
  unfold Machine.poseSetTake
  split
  · exact h.kept.other (sameCore_withPose rfl rfl id) hs
  · dsimp only
    split
    · split
      · exact h.captureAxis _ _ _ _ hs
      · exact hs
    · split
      · split
        · exact h.kept.other (sameCore_withPose rfl rfl id) (h.kept.other (sameCore_withEnv rfl rfl) hs)
        · exact h.kept.other (sameCore_withPose rfl rfl id) hs
      · exact hs

theorem poseFeedback (h : KeptPose P) (e k f) (hs : P s) : P (poseFeedback e k f s) := by
  unfold Machine.poseFeedback
  dsimp only
  have entered := h.entered k f hs
  split
  · exact h.kept.judgeFeedback _ (h.poseSetTake _ _ _ _ entered)
  · exact h.kept.judgeFeedback _ entered

end KeptPose

end Sys2Proof.Machine
end

section
/-! PROOFS. From the operations to the commands: a property that the shared operations keep, and the few commands with
changes of their own, is kept by every step. -/

namespace Sys2Proof.Machine

/-! ## Orders of taking -/

/-- An order completed names each block once. -/
theorem completeOrder_perm {α : Type} [DecidableEq α] (l : List α) : ∀ all : List α, (completeOrder all l).Perm all := by
  induction l with
  | nil => exact fun all => .refl all
  | cons b rest ih =>
    intro all
    unfold completeOrder
    split
    next mem => exact ((ih _).cons b).trans (List.perm_cons_erase mem).symm
    next => exact ih all

theorem completeOrder_nodup {α : Type} [DecidableEq α] {all : List α} (once : all.Nodup) (l : List α) :
    (completeOrder all l).Nodup :=
  (completeOrder_perm l all).nodup_iff.mpr once

/-! ## The order in which an FBK is taken -/

theorem flatMap_of_not_mem {l : List FbkBlock} (out : FbkBlock.poseUnit ∉ l) :
    l.flatMap (fun b => if b = .poseUnit then [.poseUnit, .stopSupervisor] else [b]) = l := by
  induction l with
  | nil => rfl
  | cons b rest ih =>
    obtain ⟨other, outside⟩ := List.ne_and_not_mem_of_not_mem_cons out
    rw [List.flatMap_cons, ih outside, if_neg other.symm]
    rfl

/-- The Pose Unit takes an FBK once, and the Stop Supervisor after it. -/
theorem poseBeforeStop_split {l : List FbkBlock} (once : l.Nodup) (pose : .poseUnit ∈ l) (stop : .stopSupervisor ∈ l) :
    ∃ before after : List FbkBlock, poseBeforeStop l = before ++ .poseUnit :: after
      ∧ .poseUnit ∉ before ∧ .poseUnit ∉ after ∧ .stopSupervisor ∈ after := by
  unfold poseBeforeStop
  split
  next =>
    have mem : FbkBlock.poseUnit ∈ l.erase .stopSupervisor := (List.mem_erase_of_ne (by decide)).mpr pose
    obtain ⟨before, after, split, fresh⟩ := List.eq_append_cons_of_mem mem
    have onceSplit := split ▸ once.erase FbkBlock.stopSupervisor
    have rest : FbkBlock.poseUnit ∉ after :=
      (List.nodup_cons.mp (List.nodup_append.mp onceSplit).2.1).1
    refine ⟨before, .stopSupervisor :: after, ?_, fresh, by simp [rest], .head _⟩
    rw [split, List.flatMap_append, List.flatMap_cons, flatMap_of_not_mem fresh, flatMap_of_not_mem rest]
    rfl
  next later =>
    obtain ⟨before, after, split, fresh⟩ := List.eq_append_cons_of_mem pose
    have onceSplit := split ▸ once
    have rest : FbkBlock.poseUnit ∉ after := (List.nodup_cons.mp (List.nodup_append.mp onceSplit).2.1).1
    refine ⟨before, after, split, fresh, rest, ?_⟩
    by_contra out
    have early : FbkBlock.stopSupervisor ∈ before := by
      rw [split] at stop
      simpa [out] using stop
    rw [split, List.idxOf_append_of_mem early, List.idxOf_append_of_notMem fresh, List.idxOf_cons_self] at later
    exact later (by simpa using List.idxOf_lt_length_of_mem early)

/-! ## Arrivals -/

/-- A property `P` that the shared operations keep, and that a step of the gesture detector leads to another, `R`, which
they keep too: `R` is `P` for an invariant, and says what a re-arm leaves where a re-arm breaks `P`. -/
structure Leads (P R : State → Prop) : Prop where
  kept : Kept P
  after : Kept R
  weaken : ∀ {s}, P s → R s
  gesture : ∀ {s} grip, s.stop.state = .held → P s → R (gestureStep grip s)

namespace Leads
variable {P R : State → Prop} {s : State}

/-- An arrival at the Stop Supervisor: the causes that it hands over, then the gesture detector's step. -/
theorem stopArrival (h : Leads P R) (u grip console step) (hs : P s) : R (stopArrival u grip console step s) := by
  have k := h.kept
  unfold Machine.stopArrival
  dsimp only
  have synced : P (if u = true then Machine.syncRestart s else s) := by
    split
    · exact k.syncRestart hs
    · exact hs
  generalize (if u = true then Machine.syncRestart s else s) = s1 at synced ⊢
  have slipped : P (if (s1.stop.state == .run && u && slips step) = true then Machine.rampEvent .slip s1 else s1) := by
    split
    · exact k.ramps _ rfl synced
    · exact synced
  generalize (if (s1.stop.state == .run && u && slips step) = true then Machine.rampEvent .slip s1 else s1) = s2
    at slipped ⊢
  have judged := k.handOver .consoleStop console (k.handOver .grip (!grip)
    (k.other (sameCore_withStop (x := { s2.stop with gripHeld := grip, consoleStop := console })
      rfl rfl rfl) slipped))
  split
  next held => exact h.gesture _ held judged
  next => exact h.weaken judged

end Leads

namespace Kept
variable {P : State → Prop} {s : State}

/-- An arrival at a block other than the Stop Supervisor. -/
theorem cycTaken (h : Kept P) (a) {b : CycBlock} (other : b ≠ .stopSupervisor) (hs : P s) : P (cycTaken a s b) := by
  cases b with
  | stopSupervisor => exact absurd rfl other
  | cueMatcher =>
    unfold Machine.cycTaken
    dsimp only
    split
    · exact h.cueArrival _ hs
    · exact hs
  | poseUnit => exact h.poseArrival hs
  | takeRecorder => exact h.recorderArrival _ _ hs
  | takePlayer => exact h.playerArrival _ _ hs

theorem foldl_cycTaken (h : Kept P) (a) (l : List CycBlock) (others : CycBlock.stopSupervisor ∉ l) :
    ∀ {s : State}, P s → P (l.foldl (Machine.cycTaken a) s) := by
  induction l with
  | nil => exact id
  | cons b rest ih =>
    obtain ⟨other, others⟩ := List.ne_and_not_mem_of_not_mem_cons others
    exact fun hs => ih others (h.cycTaken a other.symm hs)

end Kept

namespace Leads
variable {P R : State → Prop} {s : State}

/-- The blocks take an arrival, the Stop Supervisor once at most. -/
theorem foldl_cycTaken (h : Leads P R) (a) (l : List CycBlock) (once : l.Nodup) :
    ∀ {s : State}, P s → R (l.foldl (cycTaken a) s) := by
  induction l with
  | nil => exact h.weaken
  | cons b rest ih =>
    intro s hs
    obtain ⟨fresh, once⟩ := List.nodup_cons.mp once
    by_cases stop : b = .stopSupervisor
    · subst stop
      exact h.after.foldl_cycTaken a rest fresh (h.stopArrival _ _ _ _ hs)
    · exact ih once (h.kept.cycTaken a stop hs)

theorem dispatchCyc (h : Leads P R) (parked order f a) (hs : P s) : R (dispatchCyc parked order f a s) := by
  have once : (completeOrder cycBlocks order).Nodup := completeOrder_nodup (by decide) order
  unfold Machine.dispatchCyc
  dsimp only
  split
  · exact h.foldl_cycTaken a _ once hs
  · exact h.foldl_cycTaken a _ once (h.kept.offerQueueD f hs)

theorem cycArrives (h : Leads P R) (parked order f) (hs : P s) : R (cycArrives parked order f s) := by
  unfold Machine.cycArrives
  dsimp only
  split
  · exact h.dispatchCyc _ _ _ _ (h.kept.other (sameCore_withCycle _) (h.kept.bumpCounter _ _ hs))
  · exact h.dispatchCyc _ _ _ _ (h.kept.other (sameCore_withCycle _) hs)

theorem originate (h : Leads P R) (order) (hs : P s) : R (originate order s) :=
  h.dispatchCyc _ _ _ _ (h.kept.other (sameCore_withCycle _) hs)

theorem pace (h : Kept R) (hs : R s) : R (pace s) := h.other (sameCore_withStop rfl rfl rfl) hs

theorem syncExpiry (h : Leads P R) (o) (hs : P s) : R (syncExpiry o s) := by
  unfold Machine.syncExpiry
  split
  · exact pace h.after (h.originate _ (h.kept.enters _
      (h.kept.other (sameCore_withStop rfl rfl rfl) hs)))
  · exact h.weaken hs

theorem substituteExpiry (h : Leads P R) (o) (hs : P s) : R (substituteExpiry o s) := by
  unfold Machine.substituteExpiry
  split
  · exact pace h.after (h.originate _ hs)
  · exact h.weaken hs

end Leads

namespace Kept
variable {P : State → Prop} {s : State}

theorem setArrives (h : Kept P) (f) (hs : P s) : P (setArrives f s) := by
  unfold Machine.setArrives
  dsimp only
  split
  · exact h.gateRefusal hs
  · split
    · exact h.submit _ _ _ _ hs
    · split
      · split
        · exact h.lensSetpoint _ _ _ hs
        · exact h.gateRefusal hs
      · exact h.gateRefusal hs

theorem resetProgress (h : Kept P) (hs : P s) : P (resetProgress s) :=
  h.other (sameCore_withCues fun slots n => by simpa using (slots n).withProgress (.inr rfl)) hs

theorem badFrameAt (h : Kept P) (p why) (hs : P s) : P (badFrameAt p why s) := by
  cases p
  · exact h.resetProgress (h.linkBad _ _ hs)
  · exact h.linkBad _ _ hs

end Kept

namespace KeptPose
variable {P : State → Prop} {s : State}

theorem fbkTaken (h : KeptPose P) (e k x b) (hs : P s) : P (fbkTaken e k x s b) := by
  cases b with
  | poseUnit => exact h.poseFeedback _ _ _ hs
  | stopSupervisor => exact h.kept.stopFeedback _ _ hs
  | takePlayer => exact h.kept.playerFeedback _ _ hs
  | lensUnit =>
    unfold Machine.fbkTaken
    dsimp only
    split
    · exact h.kept.lensFeedback _ _ hs
    · exact hs

theorem fbkArrives (h : KeptPose P) (o f) (hs : P s) : P (fbkArrives o f s) := by
  unfold Machine.fbkArrives
  dsimp only
  split
  · exact h.kept.offerForward _ hs
  · exact h.kept.offerForward _ (Kept.foldl (fun b hu => h.fbkTaken _ _ _ b hu) _ hs)

end KeptPose

/-! ## The cue slot of a WRITE (R178) -/

theorem finished_eq_some {α : Type} {x : Option (α × List Byte)} {a : α} (h : finished x = some a) : x = some (a, []) := by
  unfold finished at h
  split at h
  · rw [Option.some.inj h]
  · cases h

/-- What a WRITE of a cue slot reads keeps to the form of a slot. -/
theorem readCueSlot_agrees {bs : List Byte} {c : CueSlot} (read : readCueSlot bs = some c) : c.Agrees := by
  unfold readCueSlot at read
  obtain ⟨⟨n, rest⟩, -, read⟩ := Option.bind_eq_some_iff.mp read
  dsimp only at read
  split_ifs at read with long none short
  · obtain rfl := Option.some.inj read
    exact ⟨rfl, rfl⟩
  · obtain ⟨⟨action, rest'⟩, -, read⟩ := Option.bind_eq_some_iff.mp read
    obtain ⟨rfl, -⟩ := Prod.mk.inj (Option.some.inj (finished_eq_some read))
    have length : (rest.take n).length = n := by
      rw [List.length_take]
      omega
    unfold CueSlot.Agrees
    rw [if_neg (List.ne_nil_of_length_pos (by dsimp only; omega))]
    exact ⟨by dsimp only; omega, rfl, by dsimp only; omega⟩

/-- The mask that LOAD_BEGIN carries is not empty (R149). -/
theorem readLoadBegin_mask {bs : List Byte} {b : LoadBody} (read : readLoadBegin bs = some b) :
    FlagSet.isEmpty b.mask = false := by
  have readMask_nonempty : ∀ {bs m rest}, readMask bs = some (m, rest) → FlagSet.isEmpty m = false := by
    intro bs m rest read
    unfold readMask at read
    split at read
    · split at read
      · cases read
      next nonempty =>
        obtain ⟨rfl, -⟩ := Prod.mk.inj (Option.some.inj read)
        simpa using nonempty
    · cases read
  unfold readLoadBegin at read
  obtain ⟨⟨t, bs1⟩, -, read⟩ := Option.bind_eq_some_iff.mp read
  obtain ⟨⟨mask, bs2⟩, masked, read⟩ := Option.bind_eq_some_iff.mp read
  obtain ⟨⟨prints, bs3⟩, -, read⟩ := Option.bind_eq_some_iff.mp read
  obtain ⟨⟨n, bs4⟩, -, read⟩ := Option.bind_eq_some_iff.mp read
  obtain ⟨rfl, -⟩ := Prod.mk.inj (Option.some.inj (finished_eq_some read))
  exact readMask_nonempty masked

/-! ## Commands -/

/-- What the commands do beyond the shared operations. `P` is the property between commands, and `Q` the property while a
request executes, between its take and its reply. -/
structure CommandsKeep (P Q : State → Prop) : Prop where
  kept : Kept P
  running : Kept Q
  fbk : ∀ {s} o f, P s → P (fbkArrives o f s)
  offerRequest : ∀ {s} r, P s → P (offerRequest r s)
  completeU : ∀ {s}, P s → P (completeU s)
  completeD : ∀ {s}, P s → P (completeD s)
  takes : ∀ {s s' r}, Takes s r s' → P s → Q s'
  reply : ∀ {s} tag result body, Q s → P (appendReply tag result body false s)
  resetReply : ∀ {s} tag, Q s → P (appendReply tag .ok [] true (s.withMgmt { s.mgmt with reset := .replying }))
  mgmt : ∀ {s} drops locked, Q s → Q (s.withMgmt { s.mgmt with drops := drops, locked := locked })
  axis : ∀ {s r} {k : Axis}, (r.valid = true → r.softMin < r.softMax) →
    (isMotion k = true → s.stop.state ≠ .run ∧ s.stop.state ≠ .ramp) → Q s →
    Q ((s.withPose { s.pose with axes := s.pose.axes.set k.val (AxisRecord.written s.pose.axes[k] r) }).withGate
      { s.gate with last := s.gate.last.set k.val none })
  gesture : ∀ {s} g, Q s → Q (s.withStop { s.stop with gesture := g, detector := Detector.initial })
  park : ∀ {s}, s.stop.state = .held → Q s → Q (park s)
  testing : ∀ {s}, Q s →
    Q (s.withSpine { s.spine with receivingD := [], brake := none, decel := Vector.replicate 7 none, queueD := [] })
  lockTake : ∀ {s} t, Q s → Q (runLockTake t s).state
  unlockTake : ∀ {s} t, Q s → Q (runUnlockTake t s).state
  loadBegin : ∀ {s} b, FlagSet.isEmpty b.mask = false → Q s → Q (runLoadBegin b s).state
  loadPage : ∀ {s} b, Q s → Q (runLoadPage b s).state
  loadEnd : ∀ {s} t, Q s → Q (runLoadEnd t s).state
  beginErase : ∀ {s} tag t, eraseRefused t s = false → Q s → P (beginErase tag t s)
  pageReturn : ∀ {s}, P s → P (pageReturn s)
  coldReset : ∀ {s}, P s → P (coldReset s)
  warmReset : ∀ {s}, P s → P (warmReset s)

/-- A property that the gesture detector's steps and the re-arm keep. -/
structure Rearms (P : State → Prop) : Prop where
  detector : ∀ {s} d, s.stop.state = .held → P s → P (s.withStop { s.stop with detector := d })
  rearm : ∀ {s}, s.stop.state = .held → rearmRefusal s = none → P s → P (rearm s)

/-- An invariant leads to itself. -/
theorem Kept.leads {P : State → Prop} (h : Kept P) (g : Rearms P) : Leads P P where
  kept := h
  after := h
  weaken := id
  gesture grip held hs := by
    unfold gestureStep
    dsimp only
    split
    · unfold rearmCheck
      split
      next => exact h.raise _ _ (g.detector _ held hs)
      next met => exact g.rearm (by simpa using held) met (g.detector _ held hs)
    · exact g.detector _ held hs

/-- Whatever the request, its answer keeps a property. -/
def AnswersHold (Q : State → Prop) (run : Request → State → Answer) : Prop :=
  ∀ (r : Request) (s : State), Q s → Q (run r s).state

section
variable {Q : State → Prop}

theorem unknownAnswer_holds : AnswersHold Q unknownAnswer := by
  intro r s hs
  unfold unknownAnswer
  split <;> exact hs

theorem withoutBody_holds {run : State → Answer} (h : ∀ {s}, Q s → Q (run s).state) :
    AnswersHold Q (withoutBody run) := by
  intro r s hs
  unfold withoutBody
  split
  · exact h hs
  · exact hs

/-- A request whose meaning keeps a property for every body that the reader reads. -/
theorem withBody_holds_of_read {β : Type} {reader : List Byte → Option β} {run : β → State → Answer}
    (h : ∀ {s b} bs, reader bs = some b → Q s → Q (run b s).state) : AnswersHold Q (withBody reader run) := by
  intro r s hs
  unfold withBody
  split
  next read => exact h _ read hs
  next => exact hs

theorem withBody_holds {β : Type} {reader : List Byte → Option β} {run : β → State → Answer}
    (h : ∀ {s} b, Q s → Q (run b s).state) : AnswersHold Q (withBody reader run) :=
  withBody_holds_of_read fun _ _ hs => h _ hs

theorem runRead_holds {β : Type} {index : Byte → Option β} {record : β → State → List Byte}
    {after : β → Bool → State → State} (h : ∀ {s} i clear, Q s → Q (after i clear s)) :
    AnswersHold Q (runRead index record after) := by
  intro r s hs
  unfold runRead
  repeat' split
  all_goals first | exact hs | exact h _ _ hs

theorem runReadOnly_holds {β : Type} {index : Byte → Option β} {record : β → State → List Byte} :
    AnswersHold Q (runReadOnly index record) :=
  runRead_holds fun _ _ hs => hs

/-- A WRITE whose meaning keeps a property of every record that the reader reads. -/
theorem runWrite_holds_of_read {β γ : Type} {index : Byte → Option β} {reader : β → List Byte → Option γ}
    {write : β → γ → State → Answer} (h : ∀ {s i v} bs, reader i bs = some v → Q s → Q (write i v s).state) :
    AnswersHold Q (runWrite index reader write) := by
  intro r s hs
  unfold runWrite
  split
  · split
    · exact hs
    · split
      next read => exact h _ read hs
      next => exact hs
  · exact hs

theorem runWrite_holds {β γ : Type} {index : Byte → Option β} {reader : β → List Byte → Option γ}
    {write : β → γ → State → Answer} (h : ∀ {s} i v, Q s → Q (write i v s).state) :
    AnswersHold Q (runWrite index reader write) :=
  runWrite_holds_of_read fun _ _ hs => h _ _ hs

theorem unlessLocked_holds {run : State → Answer} (h : ∀ {s}, Q s → Q (run s).state) {s : State} (hs : Q s) :
    Q (unlessLocked run s).state := by
  unfold unlessLocked
  split
  · exact hs
  · exact h hs

end

namespace CommandsKeep
variable {P Q : State → Prop} {s : State}

theorem execute (c : CommandsKeep P Q) {row : Instr} {run : Request → State → Answer} (answer : AnswersHold Q run)
    (hs : P s) : P (execute row run s) := by
  obtain ⟨-, same⟩ | ⟨r, s', taken, replied⟩ := execute_cases row run s
  · rwa [same]
  · rw [replied]
    exact c.reply _ _ _ (answer r s' (c.takes (takes_of_takeRequest taken) hs))

theorem eraseRequest (c : CommandsKeep P Q) (hs : P s) : P (eraseRequest s) := by
  unfold Machine.eraseRequest
  split
  next => exact hs
  next r s' taken =>
    have held := c.takes (takes_of_takeRequest taken) hs
    split
    next => exact c.reply _ _ _ held
    next t _ =>
      split
      next => exact c.reply _ _ _ held
      next accepted => exact c.beginErase _ _ (by simpa using accepted) held

theorem resetRequest (c : CommandsKeep P Q) (hs : P s) : P (resetRequest s) := by
  unfold Machine.resetRequest
  split
  next => exact hs
  next r s' taken =>
    have held := c.takes (takes_of_takeRequest taken) hs
    split
    · exact c.resetReply _ held
    · exact c.reply _ _ _ held

/-! ### Frames -/

theorem goodFrame (c : CommandsKeep P Q) {R : State → Prop} (l : Leads P R) (cyc fbk p f) (hs : P s) :
    R (goodFrame cyc fbk p f s) := by
  have counted := c.kept.linkGood p hs
  unfold Machine.goodFrame
  dsimp only
  split
  · exact l.cycArrives _ _ _ counted
  · exact l.weaken (c.kept.setArrives _ counted)
  · exact l.weaken (c.fbk _ _ counted)
  · refine l.weaken ?_
    unfold mgtArrives
    split
    · exact c.offerRequest _ counted
    · split
      · exact c.kept.offerQueueD _ counted
      · exact c.kept.raise _ _ counted
  · exact l.weaken (c.kept.offerForward _ counted)
  all_goals exact l.weaken counted

theorem frameBytes (c : CommandsKeep P Q) {R : State → Prop} (l : Leads P R) (cyc fbk p bs cut) (hs : P s) :
    R (frameBytes cyc fbk p bs cut s) := by
  have received := fun bs => c.kept.other (sameCore_setReceiving p bs) hs
  unfold Machine.frameBytes
  dsimp only
  split
  · exact l.weaken hs
  · split
    · exact c.goodFrame l _ _ _ _ (received _)
    · exact l.weaken (c.kept.badFrameAt _ _ (received _))
    · split
      · exact l.weaken (c.kept.badFrameAt _ _ (received _))
      · exact l.weaken (received _)

/-! ### Requests -/

theorem putAxis (c : CommandsKeep P Q) {k : Axis} {r : AxisRecord} (ordered : r.valid = true → r.softMin < r.softMax)
    (resting : isMotion k = true → s.stop.state ≠ .run ∧ s.stop.state ≠ .ramp) (hs : Q s) : Q (putAxis k r s) :=
  c.running.judgeConfigured (c.running.judgeFeedback k (c.axis ordered resting hs))

theorem writeAxis (c : CommandsKeep P Q) (k r) (hs : Q s) : Q (writeAxis k r s).state := by
  unfold Machine.writeAxis
  split_ifs with _ moving _ inRange
  any_goals exact hs
  · refine c.putAxis (fun valid => ?_) (fun motion => by simp_all) hs
    have := inRange
    simp only [valid, axisInRange, Bool.true_and, Bool.not_eq_true', Bool.not_eq_false, Bool.and_eq_true,
      decide_eq_true_eq] at this
    tauto

theorem writeGeometry (c : CommandsKeep P Q) (g) (hs : Q s) : Q (writeGeometry g s).state := by
  unfold Machine.writeGeometry
  repeat' split
  any_goals exact hs
  exact c.running.judgeConfigured (c.running.other (sameCore_withPose rfl rfl id) hs)

theorem putStopConfig (c : CommandsKeep P Q) (x) (hs : Q s) : Q (putStopConfig x s) := by
  have stored := c.running.other (sameCore_withStop (x := { s.stop with config := x }) rfl rfl rfl) hs
  unfold Machine.putStopConfig
  dsimp only
  split
  · exact c.running.other (sameCore_setScale _) stored
  · exact stored

theorem afterReadPort (h : Kept Q) (p clear) (hs : Q s) : Q (afterReadPort p clear s) := by
  have read : ∀ a b c, PortsAgree s → PortsAgree (s.withLink (s.link.setPort p
      { s.link.port p with lockHeld := (s.link.port p).state.isUp, errored := a, unknownKind := b, queueDrops := c })) :=
    fun _ _ _ hp => hp.setPort_still ((hp.port p).locked.withCounters _ _ _) rfl
  unfold Machine.afterReadPort
  dsimp only
  split
  · have cleared := h.other (sameCore_withLink (read 0 0 0)) hs
    cases p
    · exact h.other (sameCore_withCycle _) cleared
    · exact h.other (sameCore_withLink (.of_ports rfl rfl)) cleared
  · exact h.other (sameCore_withLink (read _ _ _)) hs

theorem startTest (c : CommandsKeep P Q) (hs : Q s) : Q (startTest s).2 := by
  unfold Machine.startTest
  split
  · exact c.running.changePort (p := .d) (r := s.link.d.testing) (new := .test) .testStart
      (fun _ => PortRecord.dropped_agrees _ _ (.inr rfl)) (by simp)
      (c.running.other (sameCore_withLink (.of_ports rfl rfl)) (c.testing hs))
  · exact hs

/-- Every command leads to the property: an event through the operations, and a request through its answer. -/
theorem exec (c : CommandsKeep P Q) {R : State → Prop} (l : Leads P R) (i : Instr) {t : State} (hs : P s)
    (next : exec i s = .next t) : R t := by
  have h := c.kept
  have r := c.running
  have leads : ∀ {u}, Machine.exec i s = .next u → R u → R t := fun eq hu => by
    obtain rfl := Host.Outcome.next.inj (eq.symm.trans next)
    exact hu
  have out : ∀ {u}, Machine.exec i s = .next u → P u → R t := fun eq hu => leads eq (l.weaken hu)
  cases i with
  | coldReset => exact out rfl (c.coldReset hs)
  | warmReset =>
    refine out rfl ?_
    split
    · exact c.warmReset hs
    · exact hs
  | cycReceived => exact leads rfl (c.frameBytes l _ _ _ _ _ (h.other (sameCore_withTimebase _) hs))
  | setReceived | fbkReceived | mgtReceived | rpyReceived | badFrame => exact leads rfl (c.frameBytes l _ _ _ _ _ hs)
  | gestureComplete | pulseMaximumExceeded | gapMaximumExceeded =>
    refine leads rfl ?_
    split
    next step =>
      refine l.gesture _ ?_ hs
      simp only [completesGesture, exceedsPulse, exceedsGap, Bool.and_eq_true, beq_iff_eq] at step
      tauto
    next => exact l.weaken hs
  | eightGood =>
    refine out rfl ?_
    split
    · exact h.linkGood _ hs
    · exact hs
  | badRun =>
    refine out rfl ?_
    split
    · exact h.linkBad _ _ hs
    · exact hs
  | window p judged =>
    refine out rfl ?_
    repeat' split
    all_goals first | exact hs | exact h.linkGood _ hs | exact h.linkBad _ _ hs
  | signalLost => exact out rfl (h.signalLost _ hs)
  | signalRegained => exact out rfl (h.signalRegained _ hs)
  | linkUpTimerExpiry => exact out rfl (h.linkUpExpiry _ hs)
  | degradeHoldTimerExpiry => exact out rfl (h.holdExpiry _ hs)
  | uTransmitComplete => exact out rfl (c.completeU hs)
  | dTransmitComplete => exact out rfl (c.completeD hs)
  | syncTimerExpiry => exact leads rfl (l.syncExpiry _ hs)
  | substituteTimerExpiry => exact leads rfl (l.substituteExpiry _ hs)
  | rampTimeout => exact out rfl (h.rampExpiry hs)
  | crewStopChannelChange => exact out rfl (h.lineChange _ _ _ hs)
  | discrepancyWindowExpiry =>
    refine out rfl ?_
    split
    · exact h.lineFault _ hs
    · exact hs
  | presenceInputChange | serviceKeyChange => exact out rfl (h.other (sameCore_withPins _) hs)
  | lampPatternPeriod lamp =>
    cases lamp <;> exact out rfl (h.other (sameCore_withStop rfl (by simp) (by simp)) hs)
  | linkTestBitReceived => exact out rfl (h.testBit _ hs)
  | erasePageReturn => exact out rfl (c.pageReturn hs)
  | erase => exact out rfl (c.eraseRequest hs)
  | reset => exact out rfl (c.resetRequest hs)
  | unknownRequest | writeReadOnlySelector => exact out rfl (c.execute unknownAnswer_holds hs)
  | readAxis | readGeometry | readZone | readStopConfig | readGesture | readLampMap | readCurve | readSubject
  | readCueSlot | readNoticeConfig | readThresholds | readPose | readSpeedScale | readStopStatus | readPlayer
  | readRecorder | readTake | readFreeCount | readNotices => exact out rfl (c.execute runReadOnly_holds hs)
  | readEvaluation =>
    refine out rfl (c.execute (runRead_holds fun _ clear hu => ?_) hs)
    cases clear
    · exact hu
    · exact r.other (sameCore_withEnv rfl rfl) hu
  | readPort => exact out rfl (c.execute (runRead_holds fun p clear hu => afterReadPort r p clear hu) hs)
  | readLensStatus => exact out rfl (c.execute (runRead_holds fun _ _ hu => r.other (sameCore_withLens _) hu) hs)
  | readGateCounters =>
    refine out rfl (c.execute (runRead_holds fun _ clear hu => ?_) hs)
    cases clear
    · exact hu
    · exact r.counts _ rfl hu
  | readMgmtCounters =>
    refine out rfl (c.execute (runRead_holds fun _ clear hu => ?_) hs)
    cases clear
    · exact hu
    · exact c.mgmt _ _ hu
  | writeAxis => exact out rfl (c.execute (runWrite_holds fun k x hu => c.writeAxis k x hu) hs)
  | writeGeometry => exact out rfl (c.execute (runWrite_holds fun _ g hu => c.writeGeometry g hu) hs)
  | writeZone =>
    refine out rfl (c.execute (runWrite_holds fun _ _ hu => unlessLocked_holds (fun hv => ?_) hu) hs)
    split
    · exact r.other (sameCore_withEnv rfl rfl) hv
    · exact hv
  | writeStopConfig =>
    refine out rfl (c.execute (runWrite_holds fun _ _ hu => unlessLocked_holds (fun hv => ?_) hu) hs)
    split
    · exact c.putStopConfig _ hv
    · exact hv
  | writeGesture =>
    refine out rfl (c.execute (runWrite_holds fun _ _ hu => unlessLocked_holds (fun hv => ?_) hu) hs)
    split
    · exact c.gesture _ hv
    · exact hv
  | writeLampMap =>
    refine out rfl (c.execute (runWrite_holds fun _ m hu => unlessLocked_holds (fun {s} hv => ?_) hu) hs)
    exact r.other (sameCore_lampMap m) hv
  | writeSubject =>
    refine out rfl (c.execute (runWrite_holds fun _ _ hu => ?_) hs)
    unfold writeSubject
    split
    · exact r.other (sameCore_withLens _) hu
    · exact hu
  | writeCueSlot =>
    refine out rfl (c.execute (runWrite_holds_of_read fun {_ n _} _ read hu => ?_) hs)
    unfold writeCueSlot
    split
    · exact hu
    · exact r.other (sameCore_withCues fun slots => slots.set n (readCueSlot_agrees read)) hu
  | writeNoticeConfig => exact out rfl (c.execute (runWrite_holds fun _ _ hu => r.other (sameCore_withNotices _) hu) hs)
  | writeThresholds => exact out rfl (c.execute (runWrite_holds fun _ _ hu => r.other (sameCore_withLink (.of_ports rfl rfl)) hu) hs)
  | stop =>
    refine out rfl (c.execute (withBody_holds fun mode hu => ?_) hs)
    cases mode
    · exact r.ramps _ rfl hu
    · exact r.enters _ hu
  | clearStop => exact out rfl (c.execute (withoutBody_holds fun hu => r.clears (r.leaves _ hu)) hs)
  | setScale => exact out rfl (c.execute (withBody_holds fun _ hu => r.other (sameCore_setScale _) hu) hs)
  | park =>
    refine out rfl (c.execute (withoutBody_holds fun hu => ?_) hs)
    unfold runPark
    split
    · exact hu
    · split
      · exact hu
      · exact c.park (by simp_all) hu
  | wake =>
    refine out rfl (c.execute (withoutBody_holds fun hu => ?_) hs)
    unfold runWake
    split
    next parked => exact r.wake parked hu
    next => exact hu
  | lockConfig => exact out rfl (c.execute (withoutBody_holds fun hu => c.mgmt _ _ hu) hs)
  | unlockConfig =>
    refine out rfl (c.execute (withoutBody_holds fun hu => ?_) hs)
    unfold runUnlock
    split
    · exact c.mgmt _ _ hu
    · exact hu
  | armRecord => exact out rfl (c.execute (withBody_holds fun b hu => r.arms b.1 b.2 hu) hs)
  | stopRecord => exact out rfl (c.execute (withoutBody_holds fun hu => r.stopRecord hu) hs)
  | lockTake => exact out rfl (c.execute (withBody_holds fun t hu => c.lockTake t hu) hs)
  | unlockTake => exact out rfl (c.execute (withBody_holds fun t hu => c.unlockTake t hu) hs)
  | loadBegin =>
    exact out rfl (c.execute (withBody_holds_of_read fun {_ b} _ read hu => c.loadBegin b (readLoadBegin_mask read) hu) hs)
  | loadPage => exact out rfl (c.execute (withBody_holds fun b hu => c.loadPage b hu) hs)
  | loadEnd => exact out rfl (c.execute (withBody_holds fun t hu => c.loadEnd t hu) hs)
  | readPage =>
    refine out rfl (c.execute (withBody_holds fun b hu => ?_) hs)
    unfold runReadPage
    dsimp only
    repeat' split
    all_goals exact hu
  | cue => exact out rfl (c.execute (withBody_holds fun t hu => r.cues t hu) hs)
  | go => exact out rfl (c.execute (withoutBody_holds fun hu => r.goPlay hu) hs)
  | resume => exact out rfl (c.execute (withoutBody_holds fun hu => r.resumes hu) hs)
  | release => exact out rfl (c.execute (withoutBody_holds fun hu => r.releases hu) hs)
  | curveLoad =>
    refine out rfl (c.execute (withBody_holds fun b hu => ?_) hs)
    unfold runCurveLoad
    dsimp only
    repeat' split
    any_goals exact hu
    exact r.other (sameCore_withLens _) hu
  | followOn => exact out rfl (c.execute (withBody_holds fun k hu => r.followOn k hu) hs)
  | followOff =>
    refine out rfl (c.execute (withoutBody_holds fun hu => ?_) hs)
    unfold runFollowOff
    dsimp only [accept]
    split
    · exact r.other (sameCore_withLens _) hu
    · exact hu
  | clearNotice => exact out rfl (c.execute (withBody_holds fun _ hu => r.other (sameCore_withNotices _) hu) hs)
  | linkTestStart => exact out rfl (c.execute (withoutBody_holds fun hu => c.startTest hu) hs)
  | linkTestStop => exact out rfl (c.execute (withoutBody_holds fun hu => r.stopTest hu) hs)

/-- A property that every command keeps, and of which the waiting commands and the timebase are no part, is kept by every
step. -/
theorem keptByStep (c : CommandsKeep P Q) (g : Rearms P) : KeptByStep P := by
  intro s t hs next
  unfold step at next
  split at next
  · obtain rfl := Host.Outcome.next.inj next
    exact c.kept.other (sameCore_withPending _) (c.kept.other (sameCore_withTimebase _) hs)
  · exact c.exec (c.kept.leads g) _ (c.kept.other (sameCore_withPending _) hs) next

end CommandsKeep

end Sys2Proof.Machine
end

section
/-! PROOFS. Properties of which the stop record is no part: what they must survive to be kept by the operations of the
Stop Supervisor too. -/

namespace Sys2Proof.Machine

/-- The record that CUE gives the player before its notice: CUEING with the take and its mask (R163, R164). -/
def cuedPlayer (t : Fin 32) (mask : FlagSet 10) : Player :=
  { Player.initial with state := .cueing, take := some t, mask := mask }

/-- The record that RESUME gives the player before its notice (R171). -/
def resumedPlayer (p : Player) : Player :=
  { p with state := .cueing, index := resumeIndex p, suspendedFrom := none, rings := Vector.replicate 10 [] }

/-- The record of the take whose recording starts (R155). -/
def startedTake (r : Recorder) (timecode : Timecode) (t : Take) : Take :=
  { t with state := .recording, mask := r.mask, samples := 0, start := timecode, prints := r.prints }

/-- A property of which the stop record is no part, kept by the changes of the other records that the shared operations
make. -/
structure KeptBeside (P : State → Prop) : Prop where
  stop : ∀ {s} x, P s → P (s.withStop x)
  other : ∀ {s t}, SameCore s t → P s → P t
  occur : ∀ {s} k d, P s → P (noteOccurrence k d s)
  brake : ∀ {s} a, P s → P (offerBrake a s)
  decel : ∀ {s} k n, P s → P (offerDecel k n s)
  forward : ∀ {s} f, s.spine.forward.length < queueLimit → P s →
    P (opportunityU (s.withSpine { s.spine with forward := s.spine.forward ++ [f] }))
  queueD : ∀ {s} f, s.spine.queueD.length < queueLimit → P s →
    P (opportunityD (s.withSpine { s.spine with queueD := s.spine.queueD ++ [f] }))
  closes : ∀ {s t} e, s.recorder.take = some t → P s → P (closeRecorder e s)
  sample : ∀ {s t st}, s.recorder.state = .recording → s.recorder.take = some t →
    s.store.writeSample t s.recorder.sample = some st → P s → P (s.withStore st)
  recorder : ∀ {s} r, r.state = s.recorder.state → r.take = s.recorder.take → r.mask = s.recorder.mask → P s →
    P (s.withRecorder r)
  starts : ∀ {s t} c tc, s.recorder.state = .armed → s.recorder.take = some t → P s →
    P ((s.withStore (s.store.setTake t (startedTake s.recorder tc s.store.takes[t]))).withRecorder
      { s.recorder with state := .recording, openCycle := some c, repeats := 0 })
  arms : ∀ {s} r (t : Fin 32), s.recorder.state = .idle → s.store.takes[t].state = .empty → r.state = .armed →
    r.take = some t → FlagSet.isEmpty r.mask = false → P s → P (s.withRecorder r)
  playerState : ∀ {s} new, s.player.state ≠ .idle → new ≠ .idle → P s → P (s.withPlayer { s.player with state := new })
  player : ∀ {s} p, p.state = s.player.state → p.take = s.player.take → p.mask = s.player.mask →
    p.rings = s.player.rings → P s → P (s.withPlayer p)
  ring : ∀ {s} k v c, P s →
    P (s.withPlayer { s.player with rings := s.player.rings.set k.val (ringTake s.player.rings[(k : Axis)] c v) })
  cued : ∀ {s} (t : Fin 32), s.player.state = .idle → s.store.takes[t].state = .closed → P s →
    P (s.withPlayer (cuedPlayer t s.store.takes[t].mask))
  resumed : ∀ {s}, s.player.state = .suspended → P s → P (s.withPlayer (resumedPlayer s.player))
  released : ∀ {s}, P s → P (s.withPlayer Player.initial)
  counts : ∀ {s} g, g.last = s.gate.last → P s → P (s.withGate g)
  forwards : ∀ {s src k} asked step, acceptance src k s = .accepted → P s →
    P (s.withGate
      { s.gate with
        last := s.gate.last.set k.val
          (some (slew (lastOrSeed k s) (s.pose.axes[k].clampTarget asked) step)) })
  forgets : ∀ {s}, P s → P (invalidateLast s)
  reloads : ∀ {s}, (∀ k ∈ motionAxes, withinLimits s.pose k = true) → P s → P (reloadLast s)

namespace KeptBeside
variable {P : State → Prop} {s : State}

theorem lamps (h : KeptBeside P) (hs : P s) : P (refreshLamps s) := h.stop _ hs

theorem changeState (h : KeptBeside P) (st r) (hs : P s) : P (changeState st r s) := h.occur _ _ (h.stop _ hs)

theorem enterHeld (h : KeptBeside P) (r) (hs : P s) : P (enterHeld r s) :=
  h.lamps (h.brake _ (h.changeState _ _ (h.stop _ hs)))

theorem wake (h : KeptBeside P) (w) (hs : P s) : P (wake w s) := h.occur _ _ (h.enterHeld _ hs)

theorem raise (h : KeptBeside P) (k d) (hs : P s) : P (raise k d s) := by
  unfold Machine.raise
  dsimp only
  split
  · exact h.wake _ (h.occur k d hs)
  · exact h.occur k d hs

theorem enterPlayer (h : KeptBeside P) {new} (hs : P (s.withPlayer { s.player with state := new })) :
    P (enterPlayer new s) :=
  h.lamps (h.raise _ _ hs)

theorem endRecording (h : KeptBeside P) (e) (hs : P s) : P (endRecording e s) := by
  unfold Machine.endRecording
  split
  next take => exact h.lamps (h.raise _ _ (h.closes e take hs))
  next => exact hs

theorem leaveRun (h : KeptBeside P) (hs : P s) : P (leaveRun s) := by
  have interrupted : P (interruptRecorder s) := by
    unfold interruptRecorder
    split
    · exact hs
    · exact h.endRecording _ hs
  unfold Machine.leaveRun suspendPlayer
  split
  next suspends =>
    have busy : (interruptRecorder s).player.state ≠ .idle := by
      intro idle
      rw [idle] at suspends
      exact absurd suspends (by decide)
    exact h.enterPlayer (h.playerState .suspended busy (by decide) (h.player _ rfl rfl rfl rfl interrupted))
  next => exact interrupted

theorem enterCut (h : KeptBeside P) (r) (hs : P s) : P (enterCut r s) := by
  have cut := h.brake .engage (h.forgets (h.changeState .cut r (h.stop
    { s.stop with rampTimer := .stopped, standstill := FlagSet.empty 7, detector := Detector.initial } hs)))
  unfold Machine.enterCut
  dsimp only
  split
  · exact h.lamps (h.leaveRun cut)
  · exact h.lamps cut

theorem enterRamp (h : KeptBeside P) (r) (hs : P s) : P (enterRamp r s) :=
  h.lamps (h.leaveRun (Kept.foldl (fun k hu => h.decel k _ hu) _ (h.stop _ (h.changeState _ _ hs))))

theorem joinTrip (h : KeptBeside P) (c) (hs : P s) : P (joinTrip c s) := by
  unfold Machine.joinTrip
  split
  · exact hs
  · exact h.raise _ _ (h.stop _ hs)

theorem joinPresent (h : KeptBeside P) (hs : P s) : P (joinPresent s) :=
  Kept.foldl (fun c hu => h.joinTrip c hu) _ hs

theorem judgeCut (h : KeptBeside P) (hs : P s) : P (judgeCut s) := by
  unfold Machine.judgeCut
  split
  · exact h.enterHeld _ hs
  · exact hs

theorem causeEnters (h : KeptBeside P) (c) (hs : P s) : P (causeEnters c s) := by
  have inserted := h.stop { s.stop with present := FlagSet.insert s.stop.present c.code } hs
  unfold Machine.causeEnters
  dsimp only
  split
  · exact hs
  · split
    · split
      · exact h.joinTrip _ (h.brake _ inserted)
      · split
        · exact h.joinPresent (h.enterCut _ inserted)
        · exact h.joinTrip _ (h.enterCut _ inserted)
    · split
      · exact h.joinPresent (h.enterRamp _ inserted)
      · exact h.judgeCut (h.joinTrip _ inserted)

theorem causeLeaves (h : KeptBeside P) (c) (hs : P s) : P (causeLeaves c s) := by
  unfold Machine.causeLeaves
  split
  · exact h.judgeCut (h.stop _ hs)
  · exact hs

theorem rampEvent (h : KeptBeside P) (c) (hs : P s) : P (rampEvent c s) := by
  unfold Machine.rampEvent
  split
  · exact h.joinTrip _ (h.joinPresent (h.enterRamp _ hs))
  · exact h.joinTrip _ hs

theorem startRecording (h : KeptBeside P) {t} (c tc) (armed : s.recorder.state = .armed)
    (take : s.recorder.take = some t) (hs : P s) : P (startRecording t c tc s) :=
  h.lamps (h.starts c tc armed take hs)

theorem armRecord (h : KeptBeside P) (t m) (hs : P s) : P (armRecord t m s).2 := by
  unfold Machine.armRecord
  split_ifs with noMask run idle empty prints values
  · exact hs
  · exact hs
  · exact hs
  · exact hs
  · exact hs
  · exact hs
  · simp only [ne_eq, not_or, not_not] at idle empty
    exact h.lamps (h.arms _ t idle empty.1 rfl rfl (by simpa using noMask) hs)

theorem cueTake (h : KeptBeside P) (t) (hs : P s) : P (cueTake t s).2 := by
  unfold Machine.cueTake
  dsimp only
  split_ifs with idle run closed samples follow prints
  · exact hs
  · exact hs
  · exact hs
  · exact hs
  · exact hs
  · exact hs
  · have cued := h.cued t (not_not.mp idle) (not_not.mp closed) hs
    exact h.enterPlayer (s := s.withPlayer _) cued

theorem resumePlay (h : KeptBeside P) (hs : P s) : P (resumePlay s).2 := by
  unfold Machine.resumePlay
  split
  next suspended =>
    have resumed := h.resumed suspended.1 hs
    exact h.enterPlayer (s := s.withPlayer _) resumed
  next => exact hs

theorem releasePlay (h : KeptBeside P) (hs : P s) : P (releasePlay s).2 := by
  unfold Machine.releasePlay
  split
  · have released := h.released hs
    exact h.enterPlayer (s := s.withPlayer _) released
  · exact hs

theorem park (h : KeptBeside P) (hs : P s) : P (park s) := h.raise _ _ (h.lamps (h.stop _ hs))

/-- Re-arm is met only with every motion axis within its limits. -/
theorem withinLimits_of_rearm (met : rearmRefusal s = none) : ∀ k ∈ motionAxes, withinLimits s.pose k = true := by
  unfold rearmRefusal at met
  split at met
  · cases met
  · split at met
    · cases met
    · split at met
      · cases met
      next inside => simpa using inside

theorem rearm (h : KeptBeside P) (met : rearmRefusal s = none) (hs : P s) : P (rearm s) := by
  refine h.lamps (h.stop _ (h.reloads ?_ (h.brake _ (h.changeState _ _ (h.stop _ hs)))))
  simpa using withinLimits_of_rearm met

theorem kept (h : KeptBeside P) : Kept P where
  other := h.other
  occur := h.occur
  brake := h.brake
  decel := h.decel
  forward := h.forward
  queueD := h.queueD
  wakes _ _ := h.enterHeld _
  stands _ _ := h.enterHeld _
  judged _ _ := h.stop _
  enters := h.causeEnters
  leaves := h.causeLeaves
  clears := h.judgeCut
  ramps _ _ := h.rampEvent _
  timesOut _ hs := h.joinTrip _ (h.enterCut _ hs)
  ends e _ := h.endRecording e
  sample := h.sample
  recorder := h.recorder
  starts := h.startRecording
  arms := h.armRecord
  enterPlayer new busy play hs := h.enterPlayer (h.playerState new busy play hs)
  player := h.player
  ring := h.ring
  cues := h.cueTake
  resumes := h.resumePlay
  releases := h.releasePlay
  counts := h.counts
  forwards := h.forwards

theorem rearms (h : KeptBeside P) : Rearms P where
  detector _ _ := h.stop _
  rearm _ := h.rearm

end KeptBeside

end Sys2Proof.Machine
end

section
/-! PROOFS. Properties of the page memory, the free page list and the page chains alone: what the page moves keep, every
step keeps. -/

namespace Sys2Proof.Machine

/-- A property of the store that the page moves keep, and every change of a take that leaves its chain. -/
structure StoreKeeps (I : Store → Prop) : Prop where
  setTake : ∀ {st} t r, r.chain = st.takes[t].chain → I st → I (st.setTake t r)
  words : ∀ {st} a vs, I st → I { st with words := writeWords st.words a vs }
  allocate : ∀ {st st'} t, st.allocate t = some st' → I st → I st'
  returnPage : ∀ {st} t, I st → I (st.returnPage t)
  eraseLoading : ∀ {st} t, I st → I (st.eraseLoading t)
  reset : I State.reset.store

namespace StoreKeeps
variable {I : Store → Prop} {st : Store}

theorem eraseLoadings (h : StoreKeeps I) (hs : I st) : I (eraseLoadings st) := by
  unfold Machine.eraseLoadings
  generalize List.finRange 32 = ts
  induction ts generalizing st with
  | nil => exact hs
  | cons t rest ih => exact ih (h.eraseLoading t hs)

/-- Words written for a take, whose record then changes but for its chain. -/
theorem fill (h : StoreKeeps I) (a vs) {t : Fin 32} {r : Take} (chain : r.chain = st.takes[t].chain) (hs : I st) :
    I ({ st with words := writeWords st.words a vs }.setTake t r) :=
  h.setTake t r chain (h.words a vs hs)

theorem emptyTake (h : StoreKeeps I) (t) (hs : I st) : I (st.emptyTake t) := h.setTake t _ rfl hs

theorem writeSample (h : StoreKeeps I) {st' t values} (written : st.writeSample t values = some st') (hs : I st) :
    I st' := by
  unfold Store.writeSample at written
  dsimp only at written
  split at written
  · obtain ⟨st1, allocated, rfl⟩ := Option.map_eq_some_iff.mp written
    exact h.fill _ _ rfl (h.allocate t allocated hs)
  · obtain rfl := Option.some.inj written
    exact h.fill _ _ rfl hs

end StoreKeeps

variable {I : Store → Prop}

/-- A property of the store alone that the page moves keep is kept by the shared operations. -/
theorem StoreKeeps.keptBeside (h : StoreKeeps I) : KeptBeside fun s => I s.store where
  stop _ hs := hs
  other same hs := by simpa only [same.store] using hs
  occur _ _ hs := by simpa using hs
  brake _ hs := by simpa using hs
  decel _ _ hs := by simpa using hs
  forward _ _ hs := by simpa using hs
  queueD _ _ hs := by simpa using hs
  closes e _ hs := by
    unfold closeRecorder
    split
    · exact h.setTake _ _ rfl hs
    · exact hs
  sample _ _ written hs := h.writeSample written hs
  recorder _ _ _ _ hs := hs
  starts _ _ _ _ hs := h.setTake _ _ rfl hs
  arms _ _ _ _ _ _ _ hs := hs
  playerState _ _ _ hs := hs
  player _ _ _ _ _ hs := hs
  ring _ _ _ hs := hs
  cued _ _ _ hs := hs
  resumed _ hs := hs
  released hs := hs
  counts _ _ hs := hs
  forwards _ _ _ hs := hs
  forgets hs := hs
  reloads _ hs := by simpa [reloadLast] using hs

/-- A property of the store alone that the page moves keep is kept by every command. -/
theorem StoreKeeps.commands (h : StoreKeeps I) : CommandsKeep (fun s => I s.store) (fun s => I s.store) where
  kept := h.keptBeside.kept
  running := h.keptBeside.kept
  fbk := KeptPose.fbkArrives ⟨h.keptBeside.kept, fun _ _ hs => hs, fun _ _ hs => hs⟩
  offerRequest r hs := by
    unfold offerRequest
    split <;> exact hs
  completeU hs := by
    unfold completeU
    split
    · exact hs
    · dsimp only
      split <;> simpa using hs
  completeD hs := by
    unfold completeD
    split
    · exact hs
    · simpa using hs
  takes taken hs := by
    obtain ⟨rest, -, rfl⟩ := taken.head
    exact hs
  reply _ _ _ hs := by simpa using hs
  resetReply _ hs := by simpa using hs
  mgmt _ _ hs := hs
  axis _ _ hs := hs
  gesture _ hs := hs
  park _ := h.keptBeside.park
  testing hs := hs
  lockTake t hs := by
    unfold runLockTake
    split
    · exact h.setTake _ _ rfl hs
    · exact hs
  unlockTake t hs := h.setTake _ _ rfl hs
  loadBegin b _ hs := by
    unfold runLoadBegin
    dsimp only
    split
    · exact hs
    · exact h.setTake _ _ rfl hs
  loadPage b hs := by
    unfold runLoadPage
    dsimp only
    split
    · exact hs
    · split
      · exact hs
      · split
        next allocated => exact h.fill _ _ rfl (h.allocate _ allocated hs)
        next => exact hs
  loadEnd t hs := by
    unfold runLoadEnd
    dsimp only
    split
    · exact h.setTake _ _ rfl hs
    · exact hs
  beginErase tag t _ hs := by
    unfold beginErase endErase
    split
    · simpa using h.emptyTake t hs
    · exact h.setTake _ _ rfl hs
  pageReturn {s} hs := by
    have returned := fun t => h.returnPage t hs
    unfold pageReturn endErase
    split
    · exact hs
    · dsimp only
      split
      · simpa using h.emptyTake _ (returned _)
      · exact returned _
  coldReset _ := h.reset
  warmReset {s} hs := by
    rw [warmReset_store]
    refine h.eraseLoadings ?_
    unfold closeRecorder
    split
    · exact h.setTake _ _ rfl hs
    · exact hs

/-! ## Every page stands once (R143, R145) -/

/-- The pages of the free page list and of every page chain. -/
def Store.pages (st : Store) : List Nat := st.free ++ st.takes.toList.flatMap (·.chain)

/-- One member of a list replaced: what it gave leaves, and what the new one gives joins. -/
theorem flatMap_set_perm {α β : Type} (f : α → List β) (l : List α) (i : Nat) (inside : i < l.length) (a : α) :
    ((l.set i a).flatMap f ++ f l[i]).Perm (l.flatMap f ++ f a) := by
  induction l generalizing i with
  | nil => cases inside
  | cons b rest ih =>
    cases i with
    | zero =>
      simp only [List.set_cons_zero, List.flatMap_cons, List.getElem_cons_zero, List.append_assoc]
      exact (List.perm_append_comm.append_left _).trans (List.perm_append_comm_assoc _ _ _) |>.trans
        ((List.perm_append_comm.append_left _))
    | succ i =>
      simpa only [List.set_cons_succ, List.flatMap_cons, List.getElem_cons_succ, List.append_assoc]
        using (ih i (by simpa using inside)).append_left (f b)

/-- How often a page stands in the store with another record for a take: the chain of the old record leaves, and that of
the new one joins. -/
theorem Store.count_pages_setTake (st : Store) (t : Fin 32) (r : Take) (p : Nat) :
    (st.setTake t r).pages.count p + st.takes[t].chain.count p = st.pages.count p + r.chain.count p := by
  have moved := (flatMap_set_perm (·.chain) st.takes.toList t.val (by simp) r).count_eq p
  simp only [List.count_append, Vector.getElem_toList] at moved
  simp only [Store.pages, Store.setTake, List.count_append, Vector.toList_set]
  simp only [Fin.getElem_fin]
  omega

theorem pages_keeps : StoreKeeps fun st => st.pages.Perm (List.range 3072) where
  setTake {st} t r chain hs := by
    refine (List.perm_iff_count.mpr fun p => ?_).trans hs
    have := st.count_pages_setTake t r p
    rw [chain] at this
    omega
  words _ _ hs := hs
  allocate {st st'} t allocated hs := by
    unfold Store.allocate at allocated
    split at allocated
    · cases allocated
    next p rest free =>
      obtain rfl := Option.some.inj allocated
      refine (List.perm_iff_count.mpr fun q => ?_).trans hs
      have := Store.count_pages_setTake { st with words := clearPage st.words p, free := rest } t
        { st.takes[t] with chain := st.takes[t].chain ++ [p] } q
      simp only [Store.pages, free, List.count_append, List.count_cons, List.count_nil] at this ⊢
      omega
  returnPage {st} t hs := by
    unfold Store.returnPage
    split
    · exact hs
    next p rest chain =>
      refine (List.perm_iff_count.mpr fun q => ?_).trans hs
      have := Store.count_pages_setTake { st with free := st.free ++ [p] } t { st.takes[t] with chain := rest } q
      simp only [Store.pages, chain, List.count_append, List.count_cons, List.count_nil] at this ⊢
      omega
  eraseLoading {st} t hs := by
    unfold Store.eraseLoading
    split
    · refine (List.perm_iff_count.mpr fun q => ?_).trans hs
      have := Store.count_pages_setTake { st with free := st.free ++ st.takes[t].chain } t Take.initial q
      simp only [Store.pages, List.count_append, Take.initial, List.count_nil] at this ⊢
      omega
    · exact hs
  reset := by simp [Store.pages, State.reset, Take.initial]

/-- Settles O57: the page moves conserve the pages, and every other change of a take leaves its chain. -/
theorem pagesAreConservedByEveryStep : Obligations.PagesAreConservedByEveryStep :=
  pages_keeps.commands.keptByStep pages_keeps.keptBeside.rearms

theorem memory_keeps : StoreKeeps fun st => Memory.wf st.words = true where
  setTake _ _ _ hs := hs
  words _ _ hs := Memory.wf_writeWords hs _ _
  allocate t allocated hs := by
    unfold Store.allocate at allocated
    split at allocated
    · cases allocated
    · obtain rfl := Option.some.inj allocated
      exact Memory.wf_clearPage hs _
  returnPage t hs := by
    unfold Store.returnPage
    split <;> exact hs
  eraseLoading t hs := by simpa using hs
  reset := Memory.wf_reset

end Sys2Proof.Machine
end

section
/-! PROOFS. Properties of the stop state, what follows it, the two cause sets and the gate's last-forwarded entries: the
few ways in which these change, and the invariants that all of them keep. -/

namespace Sys2Proof.Machine

/-- The stop state, what follows it at every change, both cause sets, and the gate's last-forwarded entries. -/
@[ext] structure StopCore where
  state : StopState
  driveEnable : Bool
  present : FlagSet 21
  trip : FlagSet 21
  rampTimer : Timer
  standstill : FlagSet 7
  detector : Detector
  last : Vector (Option Int) 10

/-- The entry to HELD (R110). -/
def StopCore.held (c : StopCore) : StopCore :=
  { c with
    state := .held, driveEnable := true, rampTimer := .stopped, standstill := FlagSet.empty 7
    detector := Detector.initial }

/-- CUT with the cause sets that it is entered with (R106). -/
def StopCore.cut (present trip : FlagSet 21) : StopCore :=
  { state := .cut, driveEnable := false, present := present, trip := trip, rampTimer := .stopped
    standstill := FlagSet.empty 7, detector := Detector.initial, last := Vector.replicate 10 none }

/-- RAMP entered at a reading of the timebase, with the cause sets that it is entered with (R108). -/
def StopCore.ramp (c : StopCore) (now limit : Nat) (present trip : FlagSet 21) : StopCore :=
  { c with
    state := .ramp, driveEnable := true, present := present, trip := trip, rampTimer := .running now limit
    standstill := FlagSet.empty 7 }

/-- RUN entered with the last-forwarded entries that it is entered with (R112). -/
def StopCore.run (c : StopCore) (last : Vector (Option Int) 10) : StopCore :=
  { c with
    state := .run, driveEnable := true, trip := FlagSet.empty 21, detector := Detector.initial, last := last }

/-- The part of a state that the stop state and the gate's entries make up. -/
def State.core (s : State) : StopCore :=
  { state := s.stop.state, driveEnable := s.stop.driveEnable, present := s.stop.present, trip := s.stop.trip
    rampTimer := s.stop.rampTimer, standstill := s.stop.standstill, detector := s.stop.detector, last := s.gate.last }

/-! ## How the operations change it -/

section
variable {s t : State}

@[simp] theorem core_state : s.core.state = s.stop.state := rfl
@[simp] theorem core_present : s.core.present = s.stop.present := rfl
@[simp] theorem core_trip : s.core.trip = s.stop.trip := rfl

theorem core_of_sameCore (h : SameCore s t) : t.core = s.core := by
  simp only [State.core, h.state, h.driveEnable, h.present, h.trip, h.rampTimer, h.standstill, h.detector, h.gate]

/-- Two states with the same stop record and the same gate have the same core. -/
theorem core_of_stop (stop : t.stop = s.stop) (gate : t.gate = s.gate) : t.core = s.core := by
  simp only [State.core, stop, gate]

theorem core_holds_of_stop {I : StopCore → Prop} (stop : t.stop = s.stop) (gate : t.gate = s.gate) (hs : I s.core) :
    I t.core := by rwa [core_of_stop stop gate]

theorem core_refreshLamps : (refreshLamps s).core = s.core := core_of_sameCore sameCore_refreshLamps

theorem core_enterHeld (r) : (enterHeld r s).core = s.core.held := by
  simp [State.core, StopCore.held]

/-- A notice raised leaves the core, or wakes a PARKED part to HELD. -/
theorem core_raise (k d) :
    (raise k d s).core = s.core ∨ s.stop.state = .parked ∧ (raise k d s).core = s.core.held := by
  obtain same | ⟨parked, -, -, woken⟩ := raise_stop_cases k d s
  · exact .inl (core_of_stop same (by simp))
  · exact .inr ⟨parked, by rw [woken]; simp [State.core, StopCore.held, wake]⟩

/-- A cause joins the trip set, which wakes a PARKED part where its notice does. -/
theorem core_joinTrip (c) :
    (joinTrip c s).core = { s.core with trip := s.core.trip.set c.val true }
      ∨ s.stop.state = .parked
        ∧ (joinTrip c s).core = { s.core with trip := s.core.trip.set c.val true }.held := by
  by_cases parked : s.stop.state = .parked
  · unfold joinTrip
    split
    next stands =>
      left
      have : s.core.trip.set c.val true = s.core.trip := by
        rw [← stands]
        exact Vector.set_getElem_self c.isLt
      rw [this]
    next =>
      obtain same | ⟨-, woken⟩ := core_raise (s := s.withStop { s.stop with trip := FlagSet.insert s.stop.trip c }) 1 [u8 c.val]
      · exact .inl same
      · exact .inr ⟨parked, woken⟩
  · left
    have joined := joinTrip_core parked c
    simp only [State.core, joined, joinTrip_frame]

/-- Outside PARKED every cause present joins the trip set. -/
theorem core_joinPresent (awake : s.stop.state ≠ .parked) :
    ∃ trip : FlagSet 21, (joinPresent s).core = { s.core with trip := trip }
      ∧ ∀ c : Fin 21, trip[c] = true ↔ s.stop.trip[c] = true ∨ s.stop.present[c] = true := by
  obtain ⟨trip, joined, holds⟩ := joinPresent_core awake
  exact ⟨trip, by simp only [State.core, joined, joinPresent_frame], holds⟩

theorem core_enterCut (r) : (enterCut r s).core = StopCore.cut s.stop.present s.stop.trip := by
  simp [State.core, StopCore.cut]

theorem core_enterRamp (r) :
    (enterRamp r s).core = s.core.ramp s.timebase s.stop.config.rampLimit s.stop.present s.stop.trip := by
  simp [State.core, StopCore.ramp]

/-- CUT entered, and every cause present joined to the trip set. -/
theorem core_joinPresent_enterCut (r) :
    ∃ trip : FlagSet 21, (joinPresent (enterCut r s)).core = StopCore.cut s.stop.present trip
      ∧ ∀ k : Fin 21, s.stop.present[k] = true → trip[k] = true := by
  obtain ⟨trip, joined, holds⟩ := core_joinPresent (s := enterCut r s) (by simp)
  exact ⟨trip, by rw [joined, core_enterCut]; rfl, fun k mem => (holds k).mpr (.inr (by simpa using mem))⟩

/-- RAMP entered, and every cause present joined to the trip set. -/
theorem core_joinPresent_enterRamp (r) :
    ∃ trip : FlagSet 21,
      (joinPresent (enterRamp r s)).core = s.core.ramp s.timebase s.stop.config.rampLimit s.stop.present trip
        ∧ ∀ k : Fin 21, s.stop.present[k] = true → trip[k] = true := by
  obtain ⟨trip, joined, holds⟩ := core_joinPresent (s := enterRamp r s) (by simp)
  exact ⟨trip, by rw [joined, core_enterRamp]; rfl, fun k mem => (holds k).mpr (.inr (by simpa using mem))⟩

theorem core_rearm : (rearm s).core = s.core.run (rearm s).gate.last := by
  simp [State.core, StopCore.run]

end

/-! ## What keeps a property of it -/

/-- A property that the changes of the stop state, of the cause sets and of the last-forwarded entries keep. -/
structure CoreKeeps (I : StopCore → Prop) : Prop where
  held : ∀ {c}, c.state ≠ .run → (c.state = .cut → ∀ k : Fin 21, codeIsCut k = true → c.present[k] = false) → I c →
    I c.held
  trips : ∀ {c} (x : Fin 21), c.state ≠ .run → I c → I { c with trip := c.trip.set x.val true }
  joins : ∀ {c} (x : Fin 21), c.state ≠ .run → (codeIsCut x = true → c.state = .cut) → I c →
    I { c with present := c.present.set x.val true, trip := c.trip.set x.val true }
  leaves : ∀ {c} (x : Fin 21), I c → I { c with present := c.present.set x.val false }
  cuts : ∀ {c p t},
    (∀ k : Fin 21, p[k] = true →
      t[k] = true ∨ c.state ≠ .run ∧ c.present[k] = true ∧ (c.trip[k] = true → t[k] = true)) →
    I c → I (StopCore.cut p t)
  ramps : ∀ {c p t} now limit, c.state = .run → (∀ k : Fin 21, p[k] = true → t[k] = true) →
    (∀ k : Fin 21, codeIsCut k = true → p[k] = true → c.present[k] = true) → I c → I (c.ramp now limit p t)
  standstill : ∀ {c} x, c.state = .ramp → I c → I { c with standstill := x }
  forwards : ∀ {c} l, c.state ≠ .cut → I c → I { c with last := l }
  forgets : ∀ {c} (k : Fin 10), I c → I { c with last := c.last.set k.val none }
  detectorReset : ∀ {c}, I c → I { c with detector := Detector.initial }
  parks : ∀ {c}, c.state = .held → I c →
    I { c with state := .parked, driveEnable := false, detector := Detector.initial }
  resets : ∀ p, I (StopCore.cut p p)

/-- A property that the steps of the gesture detector and the re-arm keep. -/
structure CoreRearms (I : StopCore → Prop) : Prop where
  run : ∀ {c} l, c.state = .held → I c → I (c.run l)
  detector : ∀ {c} d, c.state = .held → I c → I { c with detector := d }

namespace CoreKeeps
variable {I : StopCore → Prop} {s : State}

theorem enterHeld (h : CoreKeeps I) (r) (left : s.stop.state = .parked ∨ s.stop.state = .ramp) (hs : I s.core) :
    I (enterHeld r s).core := by
  rw [core_enterHeld]
  refine h.held ?_ ?_ hs <;> obtain left | left := left <;> simp [left]

theorem raise (h : CoreKeeps I) (k d) (hs : I s.core) : I (raise k d s).core := by
  obtain same | ⟨parked, woken⟩ := core_raise (s := s) k d
  · rwa [same]
  · rw [woken]
    exact h.held (by simp [parked]) (by simp [parked]) hs

/-- A cause in the trip set besides the core that stands: the wake that its notice may bring keeps the property. -/
theorem joinTrip (h : CoreKeeps I) (c) (hs : I { s.core with trip := s.core.trip.set c.val true }) :
    I (joinTrip c s).core := by
  obtain same | ⟨parked, woken⟩ := core_joinTrip (s := s) c
  · rwa [same]
  · rw [woken]
    exact h.held (by simp [parked]) (by simp [parked]) hs

theorem judgeCut (h : CoreKeeps I) (hs : I s.core) : I (judgeCut s).core := by
  unfold Machine.judgeCut
  split
  next leaves =>
    obtain ⟨cut, none⟩ := leaves
    rw [core_enterHeld]
    refine h.held (by simp [cut]) (fun _ k isCut => ?_) hs
    have absent := none
    simp only [Stop.cutPresent, List.any_eq_false, List.mem_finRange, true_implies, Bool.and_eq_true, not_and,
      Bool.not_eq_true] at absent
    exact absent k isCut
  next => exact hs

theorem causeEnters (h : CoreKeeps I) (c) (hs : I s.core) : I (causeEnters c s).core := by
  have inserted : ∀ k : Fin 21, (s.stop.present.insert c.code)[k] = true ↔ c.code = k ∨ s.stop.present[k] = true := by
    intro k
    simp only [FlagSet.insert, Fin.getElem_fin, Vector.getElem_set, Fin.ext_iff]
    split <;> simp_all
  unfold Machine.causeEnters
  dsimp only
  split
  next => exact hs
  next =>
    split
    next isCut =>
      split
      next cut =>
        refine h.joinTrip _ ?_
        rw [core_of_stop (s := s.withStop { s.stop with present := FlagSet.insert s.stop.present c.code }) (by simp)
          (by simp)]
        exact h.joins c.code (by simp [cut]) (fun _ => cut) hs
      next notCut =>
        split
        next run =>
          obtain ⟨trip, joined, holds⟩ := core_joinPresent_enterCut (.cause c)
            (s := s.withStop { s.stop with present := FlagSet.insert s.stop.present c.code })
          rw [joined]
          exact h.cuts (fun k mem => .inl (holds k mem)) hs
        next notRun =>
          refine h.joinTrip _ ?_
          rw [core_enterCut]
          refine h.cuts (c := s.core) (fun k mem => ?_) hs
          simp only [StopCore.cut, State.withStop_stop, Fin.getElem_fin, Vector.getElem_set]
          split
          next => exact .inl rfl
          next other =>
            refine .inr ⟨notRun, ((inserted k).mp mem).resolve_left fun same => other (congrArg Fin.val same), id⟩
    next isRamp =>
      split
      next run =>
        obtain ⟨trip, joined, holds⟩ := core_joinPresent_enterRamp (.cause c)
          (s := s.withStop { s.stop with present := FlagSet.insert s.stop.present c.code })
        rw [joined]
        refine h.ramps (c := s.core) _ _ run holds (fun k isCut mem => ?_) hs
        refine ((inserted k).mp mem).resolve_left fun same => isRamp ?_
        rw [Cause.isCut, same]
        exact isCut
      next notRun =>
        refine h.judgeCut (h.joinTrip _ ?_)
        exact h.joins c.code notRun (fun isCut => absurd isCut isRamp) hs

theorem causeLeaves (h : CoreKeeps I) (c) (hs : I s.core) : I (causeLeaves c s).core := by
  unfold Machine.causeLeaves
  split
  · exact h.judgeCut (h.leaves c.code hs)
  · exact hs

theorem rampEvent (h : CoreKeeps I) (c) (hs : I s.core) : I (rampEvent c s).core := by
  unfold Machine.rampEvent
  split
  next run =>
    obtain ⟨trip, joined, holds⟩ := core_joinPresent_enterRamp (.cause c) (s := s)
    refine h.joinTrip _ (h.trips c.code (by rw [joined]; simp [StopCore.ramp]) ?_)
    rw [joined]
    exact h.ramps _ _ run holds (fun k _ mem => mem) hs
  next notRun => exact h.joinTrip _ (h.trips c.code notRun hs)

theorem rampTimedOut (h : CoreKeeps I) (ramp : s.stop.state = .ramp) (hs : I s.core) : I (rampTimedOut s).core := by
  refine h.joinTrip _ ?_
  rw [core_enterCut]
  refine h.cuts (c := s.core) (fun k mem => .inr ⟨by simp [ramp], mem, fun trip => ?_⟩) hs
  simp only [StopCore.cut, Fin.getElem_fin, Vector.getElem_set]
  split
  · rfl
  · exact trip

end CoreKeeps

/-! ## Every command keeps it -/

section
variable {I : StopCore → Prop} {s : State}

/-- The acceptance of a setpoint says that the part is not in CUT. -/
theorem not_cut_of_accepted {src k} (accepted : acceptance src k s = .accepted) : s.stop.state ≠ .cut := by
  intro cut
  unfold acceptance at accepted
  simp [cut, stopForbids] at accepted

theorem CoreKeeps.enterPlayer (h : CoreKeeps I) (p) (hs : I s.core) : I (enterPlayer p s).core := by
  unfold Machine.enterPlayer
  rw [core_refreshLamps]
  exact h.raise _ _ hs

theorem CoreKeeps.kept (h : CoreKeeps I) : Kept fun s => I s.core where
  other same hs := by rwa [core_of_sameCore same]
  occur _ _ hs := by exact core_holds_of_stop (by simp) (by simp) hs
  brake _ hs := by exact core_holds_of_stop (by simp) (by simp) hs
  decel _ _ hs := by exact core_holds_of_stop (by simp) (by simp) hs
  forward _ _ hs := by exact core_holds_of_stop (by simp) (by simp) hs
  queueD _ _ hs := by exact core_holds_of_stop (by simp) (by simp) hs
  wakes r parked := h.enterHeld r (.inl parked)
  stands r ramp := h.enterHeld r (.inr ramp)
  judged set ramp hs := h.standstill set ramp hs
  enters c := h.causeEnters c
  leaves c := h.causeLeaves c
  clears := h.judgeCut
  ramps c _ := h.rampEvent c
  timesOut := h.rampTimedOut
  ends {s t} e take hs := by
    unfold endRecording
    rw [take]
    dsimp only
    rw [core_refreshLamps]
    exact h.raise _ _ (core_holds_of_stop (by simp) (by simp) hs)
  sample _ _ _ hs := hs
  recorder _ _ _ _ hs := hs
  starts _ _ _ _ hs := by rwa [startRecording, core_refreshLamps]
  arms t m hs := by
    unfold armRecord
    split_ifs
    all_goals exact hs
  enterPlayer p _ _ := h.enterPlayer p
  player _ _ _ _ _ hs := hs
  ring _ _ _ hs := hs
  cues t hs := by
    unfold cueTake
    dsimp only
    split_ifs
    any_goals exact hs
    exact h.enterPlayer _ hs
  resumes hs := by
    unfold resumePlay
    split
    · exact h.enterPlayer _ hs
    · exact hs
  releases hs := by
    unfold releasePlay
    split
    · exact h.enterPlayer _ hs
    · exact hs
  counts g same hs := by
    simpa only [State.core, State.withGate_gate, State.withGate_stop, same] using hs
  forwards _ _ accepted hs := h.forwards _ (not_cut_of_accepted accepted) hs

theorem CoreRearms.rearms (h : CoreRearms I) : Rearms fun s => I s.core where
  detector d held hs := h.detector d held hs
  rearm held _ hs := by
    rw [core_rearm]
    exact h.run _ held hs

theorem CoreKeeps.commands (h : CoreKeeps I) : CommandsKeep (fun s => I s.core) (fun s => I s.core) where
  kept := h.kept
  running := h.kept
  fbk := KeptPose.fbkArrives ⟨h.kept, fun _ _ hs => hs, fun _ _ hs => hs⟩
  offerRequest r hs := by
    unfold offerRequest
    split <;> exact hs
  completeU hs := by
    unfold completeU
    split
    · exact hs
    · dsimp only
      split <;> exact core_holds_of_stop (by simp) (by simp) hs
  completeD hs := by
    unfold completeD
    split
    · exact hs
    · exact core_holds_of_stop (by simp) (by simp) hs
  takes taken hs := by
    obtain ⟨rest, -, rfl⟩ := taken.head
    exact hs
  reply _ _ _ hs := by exact core_holds_of_stop (by simp) (by simp) hs
  resetReply _ hs := by exact core_holds_of_stop (by simp) (by simp) hs
  mgmt _ _ hs := hs
  axis {s r k} _ _ hs := h.forgets k hs
  gesture _ hs := h.detectorReset hs
  park held hs := by
    refine h.raise _ _ ?_
    rw [core_refreshLamps]
    exact h.parks held hs
  testing hs := hs
  lockTake t hs := by
    unfold runLockTake
    split <;> exact hs
  unlockTake t hs := hs
  loadBegin b _ hs := by
    unfold runLoadBegin
    dsimp only
    split <;> exact hs
  loadPage b hs := by
    unfold runLoadPage
    dsimp only
    repeat' split
    all_goals exact hs
  loadEnd t hs := by
    unfold runLoadEnd
    dsimp only
    split <;> exact hs
  beginErase tag t _ hs := by
    unfold beginErase endErase
    split
    · exact core_holds_of_stop (by simp) (by simp) hs
    · exact hs
  pageReturn hs := by
    unfold pageReturn endErase
    split
    · exact hs
    · dsimp only
      split
      · exact core_holds_of_stop (by simp) (by simp) hs
      · exact hs
  coldReset _ := h.resets _
  warmReset {s} _ := by
    unfold warmReset
    rw [core_refreshLamps]
    exact h.resets _

end

/-! ## The invariants -/

theorem cutStands_keeps :
    CoreKeeps fun c => ∀ k : Fin 21, codeIsCut k = true → c.present[k] = true → c.state = .cut where
  held {c} notRun left hs k isCut mem := by
    have cut := hs k isCut mem
    exact absurd ((left cut k isCut).symm.trans mem) (by decide)
  trips _ _ hs := hs
  joins {c} x _ cut hs k isCut mem := by
    simp only [Fin.getElem_fin, Vector.getElem_set] at mem
    split at mem
    next same => exact cut (Fin.ext same ▸ isCut)
    next => exact hs k isCut mem
  leaves {c} x hs k isCut mem := by
    simp only [Fin.getElem_fin, Vector.getElem_set] at mem
    split at mem
    next => cases mem
    next => exact hs k isCut mem
  cuts _ _ _ _ _ := rfl
  ramps {c p t} now limit run _ stands hs k isCut mem := by
    have := hs k isCut (stands k isCut mem)
    simp [run] at this
  standstill _ _ hs := hs
  forwards _ _ hs := hs
  forgets _ hs := hs
  detectorReset hs := hs
  parks {c} held hs k isCut mem := by
    have := hs k isCut mem
    simp [held] at this
  resets _ _ _ _ := rfl

theorem cutStands_rearms :
    CoreRearms fun c => ∀ k : Fin 21, codeIsCut k = true → c.present[k] = true → c.state = .cut where
  run {c} l held hs k isCut mem := by
    have := hs k isCut mem
    simp [held] at this
  detector _ _ hs := hs

theorem driveEnable_keeps : CoreKeeps fun c => c.driveEnable = c.state.drives where
  held _ _ _ := rfl
  trips _ _ hs := hs
  joins _ _ _ hs := hs
  leaves _ hs := hs
  cuts _ _ := rfl
  ramps _ _ _ _ _ _ := rfl
  standstill _ _ hs := hs
  forwards _ _ hs := hs
  forgets _ hs := hs
  detectorReset hs := hs
  parks _ _ := rfl
  resets _ := rfl

theorem driveEnable_rearms : CoreRearms fun c => c.driveEnable = c.state.drives where
  run _ _ _ := rfl
  detector _ _ hs := hs

theorem tripSet_keeps :
    CoreKeeps fun c =>
      (c.state = .run → FlagSet.isEmpty c.trip = true)
        ∧ (c.state ≠ .run → ∀ k : Fin 21, c.present[k] = true → c.trip[k] = true) where
  held notRun _ hs := ⟨nofun, fun _ => hs.2 notRun⟩
  trips {c} x notRun hs := by
    refine ⟨fun run => absurd run notRun, fun _ k mem => ?_⟩
    simp only [Fin.getElem_fin, Vector.getElem_set]
    split
    · rfl
    · exact hs.2 notRun k mem
  joins {c} x notRun _ hs := by
    refine ⟨fun run => absurd run notRun, fun _ k mem => ?_⟩
    simp only [Fin.getElem_fin, Vector.getElem_set] at mem ⊢
    split
    · rfl
    next other => exact hs.2 notRun k (by simpa [other] using mem)
  leaves {c} x hs := by
    refine ⟨hs.1, fun notRun k mem => hs.2 notRun k ?_⟩
    simp only [Fin.getElem_fin, Vector.getElem_set] at mem
    split at mem
    · cases mem
    · exact mem
  cuts joined hs := by
    refine ⟨nofun, fun _ k mem => ?_⟩
    obtain stands | ⟨notRun, present, kept⟩ := joined k mem
    · exact stands
    · exact kept (hs.2 notRun k present)
  ramps _ _ _ joined _ _ := ⟨nofun, fun _ => joined⟩
  standstill _ _ hs := hs
  forwards _ _ hs := hs
  forgets _ hs := hs
  detectorReset hs := hs
  parks held hs := ⟨nofun, fun _ => hs.2 (by simp [held])⟩
  resets _ := ⟨nofun, fun _ _ mem => mem⟩

theorem tripSet_rearms :
    CoreRearms fun c =>
      (c.state = .run → FlagSet.isEmpty c.trip = true)
        ∧ (c.state ≠ .run → ∀ k : Fin 21, c.present[k] = true → c.trip[k] = true) where
  run _ _ _ := ⟨fun _ => show (FlagSet.empty 21).isEmpty = true by decide, fun notRun => absurd rfl notRun⟩
  detector _ _ hs := hs

theorem cutForgets_keeps : CoreKeeps fun c => c.state = .cut → ∀ k : Fin 10, c.last[k] = none where
  held _ _ _ := nofun
  trips _ _ hs := hs
  joins _ _ _ hs := hs
  leaves _ hs := hs
  cuts _ _ _ k := by simp [StopCore.cut]
  ramps _ _ _ _ _ _ := nofun
  standstill _ _ hs := hs
  forwards _ notCut _ cut := absurd cut notCut
  forgets {c} j hs cut k := by
    simp only [Fin.getElem_fin, Vector.getElem_set]
    split
    · rfl
    · exact hs cut k
  detectorReset hs := hs
  parks _ _ := nofun
  resets _ _ k := by simp [StopCore.cut]

theorem cutForgets_rearms : CoreRearms fun c => c.state = .cut → ∀ k : Fin 10, c.last[k] = none where
  run _ _ _ := nofun
  detector _ _ hs := hs

/-- The ramp timer, the standstill set and the gesture detector follow the stop state (R108 to R110). -/
structure StopCore.TimersAgree (c : StopCore) : Prop where
  ramp : c.rampTimer.isRunning = (c.state == .ramp)
  standstill : c.state ≠ .ramp → c.standstill = FlagSet.empty 7
  detector : c.state ≠ .held → c.detector = Detector.initial

/-- In HELD the ramp timer does not run. -/
theorem StopCore.TimersAgree.stopped {c : StopCore} (hs : c.TimersAgree) (held : c.state = .held) :
    c.rampTimer.isRunning = false := by
  rw [hs.ramp, held]
  rfl

theorem timers_keeps : CoreKeeps StopCore.TimersAgree where
  held _ _ _ := ⟨rfl, fun _ => rfl, fun notHeld => absurd rfl notHeld⟩
  trips _ _ hs := ⟨hs.ramp, hs.standstill, hs.detector⟩
  joins _ _ _ hs := ⟨hs.ramp, hs.standstill, hs.detector⟩
  leaves _ hs := ⟨hs.ramp, hs.standstill, hs.detector⟩
  cuts _ _ := ⟨rfl, fun _ => rfl, fun _ => rfl⟩
  ramps _ _ run _ _ hs := ⟨rfl, fun notRamp => absurd rfl notRamp, fun _ => hs.detector (by simp [run])⟩
  standstill _ ramp hs := ⟨hs.ramp, fun notRamp => absurd ramp notRamp, hs.detector⟩
  forwards _ _ hs := ⟨hs.ramp, hs.standstill, hs.detector⟩
  forgets _ hs := ⟨hs.ramp, hs.standstill, hs.detector⟩
  detectorReset hs := ⟨hs.ramp, hs.standstill, fun _ => rfl⟩
  parks {c} held hs := ⟨(hs.stopped held :), fun _ => hs.standstill (by simp [held]), fun _ => rfl⟩
  resets _ := ⟨rfl, fun _ => rfl, fun _ => rfl⟩

theorem timers_rearms : CoreRearms StopCore.TimersAgree where
  run {c} _ held hs := ⟨(hs.stopped held :), fun _ => hs.standstill (by simp [held]), fun _ => rfl⟩
  detector _ held hs := ⟨hs.ramp, hs.standstill, fun notHeld => absurd held notHeld⟩

/-- Settles O53: every entry of a CUT-category cause ends in CUT, and CUT is left only with none present. -/
theorem cutStandsAfterEveryStep : Obligations.CutStandsAfterEveryStep :=
  cutStands_keeps.commands.keptByStep cutStands_rearms.rearms

end Sys2Proof.Machine
end

section
/-! PROOFS. The gate keeps its entries within the soft limits (R41, R83, R90, R112). -/

namespace Sys2Proof.Machine

theorem clampTarget_within {r : AxisRecord} (ordered : r.softMin ≤ r.softMax) (t : Int) :
    r.softMin ≤ r.clampTarget t ∧ r.clampTarget t ≤ r.softMax := by
  unfold AxisRecord.clampTarget clampInt
  split_ifs <;> omega

/-- A value moved toward a target by at most one step stays between bounds that hold both. -/
theorem slew_within {lo hi last target : Int} (step : Nat) (from_ : lo ≤ last ∧ last ≤ hi)
    (to_ : lo ≤ target ∧ target ≤ hi) : lo ≤ slew last target step ∧ slew last target step ≤ hi := by
  unfold slew
  dsimp only
  split_ifs <;> omega

variable {s : State}

theorem valid_of_accepted {src k} (accepted : acceptance src k s = .accepted) : s.pose.axes[k].valid = true := by
  unfold acceptance at accepted
  split at accepted
  · cases accepted
  next valid => simpa using valid

/-- Where the limits hold, the value that the gate starts from lies within them. -/
theorem LimitsHeld.lastOrSeed (hs : LimitsHeld s) {k : Axis} (valid : s.pose.axes[k].valid = true) :
    s.pose.axes[k].softMin ≤ lastOrSeed k s ∧ lastOrSeed k s ≤ s.pose.axes[k].softMax := by
  unfold Machine.lastOrSeed
  split
  next v last => exact (hs k).2 v last
  next => exact clampTarget_within ((hs k).1 valid).le _

/-- The limits speak of the axis records and the last-forwarded entries alone. -/
theorem LimitsHeld.of_same {t : State} (axes : t.pose.axes = s.pose.axes) (last : t.gate.last = s.gate.last)
    (hs : LimitsHeld s) : LimitsHeld t := by
  unfold LimitsHeld
  rwa [axes, last]

/-- Another record for an axis whose entry becomes invalid. -/
theorem LimitsHeld.setAxis (hs : LimitsHeld s) (k : Axis) {r : AxisRecord}
    (ordered : r.valid = true → r.softMin < r.softMax) :
    LimitsHeld ((s.withPose { s.pose with axes := s.pose.axes.set k.val r }).withGate
      { s.gate with last := s.gate.last.set k.val none }) := by
  intro j
  simp only [State.withGate_pose, State.withPose_pose, State.withGate_gate, Fin.getElem_fin, Vector.getElem_set]
  split
  · exact ⟨ordered, nofun⟩
  · exact hs j

theorem LimitsHeld.setLast (hs : LimitsHeld s) {k : Axis} {v : Int}
    (within : s.pose.axes[k].softMin ≤ v ∧ v ≤ s.pose.axes[k].softMax) :
    LimitsHeld (s.withGate { s.gate with last := s.gate.last.set k.val (some v) }) := by
  intro j
  refine ⟨(hs j).1, fun w entry => ?_⟩
  simp only [State.withGate_pose, State.withGate_gate, Fin.getElem_fin, Vector.getElem_set] at entry ⊢
  split at entry
  next same =>
    obtain rfl := Option.some.inj entry
    obtain rfl := Fin.ext same
    exact within
  next => exact (hs j).2 w entry

/-- No entry is valid, so none lies outside. -/
theorem LimitsHeld.forgotten (hs : LimitsHeld s) : LimitsHeld (invalidateLast s) := by
  intro k
  exact ⟨(hs k).1, fun v entry => by simp [invalidateLast] at entry⟩

theorem mem_motionAxes : ∀ k : Axis, k ∈ motionAxes ↔ k.val ≤ 6 := by decide

theorem LimitsHeld.reloaded (hs : LimitsHeld s) (inside : ∀ k ∈ motionAxes, withinLimits s.pose k = true) :
    LimitsHeld (reloadLast s) := by
  intro k
  refine ⟨(hs k).1, fun v entry => ?_⟩
  simp only [reloadLast, State.withGate_gate, Fin.getElem_fin, Vector.getElem_ofFn] at entry
  split at entry
  next motion =>
    obtain rfl := Option.some.inj entry
    simpa [withinLimits] using inside k ((mem_motionAxes k).mpr motion)
  next => exact (hs k).2 v entry

theorem limits_keptBeside : KeptBeside LimitsHeld where
  stop _ hs := hs
  other same hs := hs.of_same same.axes (by rw [same.gate])
  occur _ _ hs := hs.of_same (by simp) (by simp)
  brake _ hs := hs.of_same (by simp) (by simp)
  decel _ _ hs := hs.of_same (by simp) (by simp)
  forward _ _ hs := hs.of_same (by simp) (by simp)
  queueD _ _ hs := hs.of_same (by simp) (by simp)
  closes _ _ hs := hs.of_same (by simp) (by simp)
  sample _ _ _ hs := hs
  recorder _ _ _ _ hs := hs
  starts _ _ _ _ hs := hs
  arms _ _ _ _ _ _ _ hs := hs
  playerState _ _ _ hs := hs
  player _ _ _ _ _ hs := hs
  ring _ _ _ hs := hs
  cued _ _ _ hs := hs
  resumed _ hs := hs
  released hs := hs
  counts {s} g same hs := LimitsHeld.of_same (s := s) (t := s.withGate g) rfl same hs
  forwards {s src k} asked step accepted hs := by
    have valid := valid_of_accepted accepted
    exact hs.setLast (slew_within step (hs.lastOrSeed valid) (clampTarget_within ((hs k).1 valid).le asked))
  forgets hs := hs.forgotten
  reloads inside hs := hs.reloaded inside

/-- The record that a write leaves keeps its soft limits in order: the one written, or the old one made invalid. -/
theorem AxisRecord.written_ordered {old new : AxisRecord} (ordered : new.valid = true → new.softMin < new.softMax) :
    (old.written new).valid = true → (old.written new).softMin < (old.written new).softMax := by
  unfold AxisRecord.written
  split
  · exact ordered
  · exact nofun

theorem limits_commands : CommandsKeep LimitsHeld LimitsHeld where
  kept := limits_keptBeside.kept
  running := limits_keptBeside.kept
  fbk := KeptPose.fbkArrives ⟨limits_keptBeside.kept, fun _ _ hs => hs, fun _ _ hs => hs⟩
  offerRequest r hs := by
    unfold offerRequest
    split <;> exact hs
  completeU hs := by
    unfold completeU
    split
    · exact hs
    · dsimp only
      split <;> exact hs.of_same (by simp) (by simp)
  completeD hs := by
    unfold completeD
    split
    · exact hs
    · exact hs.of_same (by simp) (by simp)
  takes taken hs := by
    obtain ⟨rest, -, rfl⟩ := taken.head
    exact hs
  reply _ _ _ hs := hs.of_same (by simp) (by simp)
  resetReply _ hs := hs.of_same (by simp) (by simp)
  mgmt _ _ hs := hs
  axis ordered _ hs := hs.setAxis _ (AxisRecord.written_ordered ordered)
  gesture _ hs := hs
  park _ := limits_keptBeside.park
  testing hs := hs
  lockTake t hs := by
    unfold runLockTake
    split <;> exact hs
  unlockTake t hs := hs
  loadBegin b _ hs := by
    unfold runLoadBegin
    dsimp only
    split <;> exact hs
  loadPage b hs := by
    unfold runLoadPage
    dsimp only
    repeat' split
    all_goals exact hs
  loadEnd t hs := by
    unfold runLoadEnd
    dsimp only
    split <;> exact hs
  beginErase tag t _ hs := by
    unfold beginErase endErase
    split
    · exact hs.of_same (by simp) (by simp)
    · exact hs
  pageReturn hs := by
    unfold pageReturn endErase
    split
    · exact hs
    · dsimp only
      split
      · exact hs.of_same (by simp) (by simp)
      · exact hs
  coldReset _ k := ⟨fun valid => by simp [coldReset, State.reset, AxisRecord.initial] at valid,
    fun v entry => by simp [coldReset, State.reset] at entry⟩
  warmReset {s} hs := by
    intro k
    refine ⟨fun valid => ?_, fun v entry => ?_⟩
    · simpa [warmReset, Pose.warm] using (hs k).1 (by simpa [warmReset, Pose.warm] using valid)
    · simp [warmReset] at entry

/-- Settles O56: the gate slews between values within the limits, a re-arm loads positions within them, and an axis
written forgets its entry; the entry to CUT forgets every entry, and CUT accepts no setpoint. -/
theorem gateKeepsItsLimitsAfterEveryStep : Obligations.GateKeepsItsLimitsAfterEveryStep :=
  ⟨limits_commands.keptByStep limits_keptBeside.rearms, cutForgets_keeps.commands.keptByStep cutForgets_rearms.rearms⟩

end Sys2Proof.Machine
end

section
/-! PROOFS. The frame of every command: the records outside its list stand (section 3 of the manual). -/

namespace Sys2Proof.Machine

/-- The waiting commands and every record outside a list of blocks are the same in two states. -/
def Leaves (bs : List Block) (s t : State) : Prop :=
  t.pending = s.pending ∧ (.timebase ∈ bs ∨ t.timebase = s.timebase) ∧ (.inputs ∈ bs ∨ t.pins = s.pins)
    ∧ (.spine ∈ bs ∨ t.spine = s.spine) ∧ (.cycle ∈ bs ∨ t.cycle = s.cycle) ∧ (.link ∈ bs ∨ t.link = s.link)
    ∧ (.pose ∈ bs ∨ t.pose = s.pose) ∧ (.envelope ∈ bs ∨ t.env = s.env) ∧ (.gate ∈ bs ∨ t.gate = s.gate)
    ∧ (.stop ∈ bs ∨ t.stop = s.stop) ∧ (.lens ∈ bs ∨ t.lens = s.lens) ∧ (.store ∈ bs ∨ t.store = s.store)
    ∧ (.recorder ∈ bs ∨ t.recorder = s.recorder) ∧ (.player ∈ bs ∨ t.player = s.player)
    ∧ (.cues ∈ bs ∨ t.cues = s.cues) ∧ (.management ∈ bs ∨ t.mgmt = s.mgmt)
    ∧ (.notices ∈ bs ∨ t.notices = s.notices)

theorem leaves_iff (bs : List Block) (s t : State) :
    Leaves bs s t ↔ t.pending = s.pending ∧ ∀ b : Block, b ∉ bs → b.same s t := by
  constructor
  · intro h
    refine ⟨h.1, fun b out => ?_⟩
    simp only [Leaves] at h
    cases b <;> simp only [out, false_or] at h <;> simp only [Block.same, h]
  · intro h
    have each : ∀ b : Block, b ∈ bs ∨ b.same s t := fun b => or_iff_not_imp_left.mpr (h.2 b)
    exact ⟨h.1, each .timebase, each .inputs, each .spine, each .cycle, each .link, each .pose, each .envelope,
      each .gate, each .stop, each .lens, each .store, each .recorder, each .player, each .cues, each .management,
      each .notices⟩

variable {bs : List Block} {s t u : State}

theorem Leaves.refl (bs s) : Leaves bs s s := (leaves_iff bs s s).mpr ⟨rfl, fun b _ => by cases b <;> rfl⟩

theorem Leaves.trans (h : Leaves bs s t) (g : Leaves bs t u) : Leaves bs s u := by
  rw [leaves_iff] at h g ⊢
  refine ⟨g.1.trans h.1, fun b out => ?_⟩
  have first := h.2 b out
  have second := g.2 b out
  cases b <;> exact second.trans first

/-- The reply, and the take of the request before it, change the records of a reply alone. -/
theorem leaves_execute {row : Instr} {run : Request → State → Answer} (reply : ∀ b ∈ replyBlocks, b ∈ bs)
    (answer : AnswersHold (Leaves bs s) run) : Leaves bs s (execute row run s) := by
  have spine : Block.spine ∈ bs := reply _ (by decide)
  have management : Block.management ∈ bs := reply _ (by decide)
  have notices : Block.notices ∈ bs := reply _ (by decide)
  obtain ⟨-, same⟩ | ⟨r, s', taken, replied⟩ := execute_cases row run s
  · rw [same]
    exact Leaves.refl bs s
  · rw [replied]
    have took : Leaves bs s s' := by
      obtain ⟨rest, -, rfl⟩ := (takes_of_takeRequest taken).head
      simp [Leaves, management]
    refine (answer r s' took).trans ?_
    simp [Leaves, spine, management, notices]

/-! ## The commands -/

/-- The lists of the requests that only answer, and of those that change one record besides those of the reply. -/
theorem runStop_leaves (m s) : Leaves causeBlocks s (runStop m s).state := by
  cases m <;> simp [runStop, Leaves, causeBlocks]

theorem runPark_leaves (s) : Leaves (.stop :: replyBlocks) s (runPark s).state := by
  unfold runPark
  split_ifs <;> simp [Leaves, replyBlocks]

theorem runWake_leaves (s) : Leaves (.stop :: replyBlocks) s (runWake s).state := by
  unfold runWake
  split <;> simp [Leaves, replyBlocks]

theorem runUnlock_leaves (s) : Leaves replyBlocks s (runUnlock s).state := by
  unfold runUnlock
  split <;> simp [Leaves, replyBlocks]

theorem runLockTake_leaves (t s) : Leaves (.store :: replyBlocks) s (runLockTake t s).state := by
  unfold runLockTake
  split <;> simp [Leaves, replyBlocks]

theorem runUnlockTake_leaves (t s) : Leaves (.store :: replyBlocks) s (runUnlockTake t s).state := by
  simp [runUnlockTake, Leaves, replyBlocks]

theorem runLoadBegin_leaves (b s) : Leaves (.store :: replyBlocks) s (runLoadBegin b s).state := by
  unfold runLoadBegin
  dsimp only
  split <;> simp [Leaves, replyBlocks]

theorem runLoadPage_leaves (b s) : Leaves (.store :: replyBlocks) s (runLoadPage b s).state := by
  unfold runLoadPage
  dsimp only
  repeat' split
  all_goals simp [Leaves, replyBlocks]

theorem runLoadEnd_leaves (t s) : Leaves (.store :: replyBlocks) s (runLoadEnd t s).state := by
  unfold runLoadEnd
  dsimp only
  split <;> simp [Leaves, replyBlocks]

@[simp] theorem runReadPage_state (t o s) : (runReadPage t o s).state = s := by
  unfold runReadPage
  dsimp only
  repeat' split
  all_goals rfl

theorem runCurveLoad_leaves (i c p s) : Leaves (.lens :: replyBlocks) s (runCurveLoad i c p s).state := by
  unfold runCurveLoad
  split_ifs <;> simp [Leaves, replyBlocks]

theorem runFollowOff_leaves (s) : Leaves (.lens :: replyBlocks) s (runFollowOff s).state := by
  unfold runFollowOff
  split <;> simp [Leaves, replyBlocks]

theorem writeAxis_leaves (k r s) : Leaves (.pose :: .lens :: causeBlocks) s (writeAxis k r s).state := by
  unfold writeAxis
  repeat' split
  all_goals simp [Leaves, causeBlocks]

theorem writeGeometry_leaves (g s) : Leaves (.pose :: causeBlocks) s (writeGeometry g s).state := by
  unfold writeGeometry
  repeat' split
  all_goals simp [Leaves, causeBlocks]

theorem writeZone_leaves (z b s) : Leaves (.envelope :: replyBlocks) s (writeZone z b s).state := by
  unfold writeZone unlessLocked
  repeat' split
  all_goals simp [Leaves, replyBlocks]

theorem writeStopConfig_leaves (c s) : Leaves (.stop :: .envelope :: replyBlocks) s (writeStopConfig c s).state := by
  unfold writeStopConfig unlessLocked
  repeat' split
  all_goals simp [Leaves, replyBlocks]

theorem writeGesture_leaves (g s) : Leaves (.stop :: replyBlocks) s (writeGesture g s).state := by
  unfold writeGesture unlessLocked
  repeat' split
  all_goals simp [Leaves, replyBlocks]

theorem writeLampMap_leaves (m s) : Leaves (.stop :: replyBlocks) s (writeLampMap m s).state := by
  unfold writeLampMap unlessLocked
  split <;> simp [Leaves, replyBlocks]

theorem writeSubject_leaves (k p s) : Leaves (.lens :: replyBlocks) s (writeSubject k p s).state := by
  unfold writeSubject
  split <;> simp [Leaves, replyBlocks]

theorem writeCueSlot_leaves (n c s) : Leaves (.cues :: replyBlocks) s (writeCueSlot n c s).state := by
  unfold writeCueSlot
  split <;> simp [Leaves, replyBlocks]

theorem leaves_eraseRequest (s) : Leaves (.store :: replyBlocks) s (eraseRequest s) := by
  unfold eraseRequest
  split
  next => exact Leaves.refl _ s
  next r s' taken =>
    obtain ⟨rest, -, rfl⟩ := (takes_of_takeRequest taken).head
    repeat' split
    all_goals simp [Leaves, replyBlocks]

theorem leaves_resetRequest (s) : Leaves replyBlocks s (resetRequest s) := by
  unfold resetRequest
  split
  next => exact Leaves.refl _ s
  next r s' taken =>
    obtain ⟨rest, -, rfl⟩ := (takes_of_takeRequest taken).head
    split <;> simp [Leaves, replyBlocks]

theorem leaves_exec (i : Instr) (s t : State) (next : exec i s = .next t) : Leaves (mayChange i) s t := by
  have out : ∀ {u}, Machine.exec i s = .next u → Leaves (mayChange i) s u → Leaves (mayChange i) s t := fun eq hu => by
    obtain rfl := Host.Outcome.next.inj (eq.symm.trans next)
    exact hu
  cases i with
  | coldReset => exact out rfl (by simp [coldReset, Leaves, mayChange])
  | warmReset =>
    refine out rfl ?_
    split <;> simp [warmReset, Leaves, mayChange]
  | cycReceived | setReceived | fbkReceived | mgtReceived | rpyReceived | badFrame | signalLost | signalRegained
  | linkUpTimerExpiry | degradeHoldTimerExpiry | uTransmitComplete | dTransmitComplete | syncTimerExpiry
  | substituteTimerExpiry | rampTimeout | crewStopChannelChange  | presenceInputChange | serviceKeyChange
  | linkTestBitReceived =>
    refine out rfl ?_
    simp [Leaves, mayChange, causeBlocks]
  | gestureComplete | pulseMaximumExceeded | gapMaximumExceeded | eightGood | badRun | discrepancyWindowExpiry =>
    refine out rfl ?_
    split <;> simp [Leaves, mayChange, causeBlocks]
  | window p judged =>
    refine out rfl ?_
    repeat' split
    all_goals simp [Leaves, mayChange, causeBlocks]
  | erasePageReturn => exact out rfl (by simp [Leaves, mayChange, replyBlocks])
  | lampPatternPeriod lamp => cases lamp <;> exact out rfl (by simp [Leaves, mayChange])
  | unknownRequest | writeReadOnlySelector => exact out rfl (leaves_execute (by decide) unknownAnswer_holds)
  | readAxis | readGeometry | readZone | readStopConfig | readGesture | readLampMap | readCurve | readSubject
  | readCueSlot | readNoticeConfig | readThresholds | readPose | readSpeedScale | readStopStatus | readPlayer
  | readRecorder | readTake | readFreeCount | readNotices =>
    exact out rfl (leaves_execute (by decide) runReadOnly_holds)
  | readEvaluation =>
    refine out rfl (leaves_execute (by decide) (runRead_holds fun _ clear hu => hu.trans ?_))
    cases clear <;> simp [clearSkipped, Leaves, mayChange, replyBlocks]
  | readPort =>
    refine out rfl (leaves_execute (by decide) (runRead_holds fun p clear hu => hu.trans ?_))
    cases p <;> cases clear <;> simp [afterReadPort, Leaves, mayChange, replyBlocks]
  | readLensStatus =>
    refine out rfl (leaves_execute (by decide) (runRead_holds fun _ _ hu => hu.trans ?_))
    simp [clearEndReached, Leaves, mayChange, replyBlocks]
  | readGateCounters =>
    refine out rfl (leaves_execute (by decide) (runRead_holds fun _ clear hu => hu.trans ?_))
    cases clear <;> simp [clearGateCounts, Leaves, mayChange, replyBlocks]
  | readMgmtCounters =>
    refine out rfl (leaves_execute (by decide) (runRead_holds fun _ clear hu => hu.trans ?_))
    cases clear <;> simp [clearRequestDrops, Leaves, mayChange, replyBlocks]
  | writeAxis => exact out rfl (leaves_execute (by decide) (runWrite_holds fun k r hu => hu.trans (writeAxis_leaves k r _)))
  | writeGeometry =>
    exact out rfl (leaves_execute (by decide) (runWrite_holds fun _ g hu => hu.trans (writeGeometry_leaves g _)))
  | writeZone =>
    exact out rfl (leaves_execute (by decide) (runWrite_holds fun z b hu => hu.trans (writeZone_leaves z b _)))
  | writeStopConfig =>
    exact out rfl (leaves_execute (by decide) (runWrite_holds fun _ c hu => hu.trans (writeStopConfig_leaves c _)))
  | writeGesture =>
    exact out rfl (leaves_execute (by decide) (runWrite_holds fun _ g hu => hu.trans (writeGesture_leaves g _)))
  | writeLampMap =>
    exact out rfl (leaves_execute (by decide) (runWrite_holds fun _ m hu => hu.trans (writeLampMap_leaves m _)))
  | writeSubject =>
    exact out rfl (leaves_execute (by decide) (runWrite_holds fun k p hu => hu.trans (writeSubject_leaves k p _)))
  | writeCueSlot =>
    exact out rfl (leaves_execute (by decide) (runWrite_holds fun n c hu => hu.trans (writeCueSlot_leaves n c _)))
  | writeNoticeConfig =>
    refine out rfl (leaves_execute (by decide) (runWrite_holds fun _ c hu => hu.trans ?_))
    simp [writeNoticeConfig, Leaves, mayChange, replyBlocks]
  | writeThresholds =>
    refine out rfl (leaves_execute (by decide) (runWrite_holds fun _ c hu => hu.trans ?_))
    simp [writeThresholds, Leaves, mayChange, replyBlocks]
  | stop => exact out rfl (leaves_execute (by decide) (withBody_holds fun m hu => hu.trans (runStop_leaves m _)))
  | clearStop =>
    refine out rfl (leaves_execute (by decide) (withoutBody_holds fun hu => hu.trans ?_))
    simp [Leaves, mayChange, replyBlocks]
  | setScale =>
    refine out rfl (leaves_execute (by decide) (withBody_holds fun v hu => hu.trans ?_))
    simp [runSetScale, Leaves, mayChange, replyBlocks]
  | park => exact out rfl (leaves_execute (by decide) (withoutBody_holds fun hu => hu.trans (runPark_leaves _)))
  | wake => exact out rfl (leaves_execute (by decide) (withoutBody_holds fun hu => hu.trans (runWake_leaves _)))
  | lockConfig =>
    refine out rfl (leaves_execute (by decide) (withoutBody_holds fun hu => hu.trans ?_))
    simp [Leaves, mayChange, replyBlocks]
  | unlockConfig => exact out rfl (leaves_execute (by decide) (withoutBody_holds fun hu => hu.trans (runUnlock_leaves _)))
  | armRecord =>
    refine out rfl (leaves_execute (by decide) (withBody_holds fun v hu => hu.trans ?_))
    simp [Leaves, mayChange, replyBlocks]
  | stopRecord =>
    refine out rfl (leaves_execute (by decide) (withoutBody_holds fun hu => hu.trans ?_))
    simp [Leaves, mayChange, replyBlocks]
  | lockTake =>
    exact out rfl (leaves_execute (by decide) (withBody_holds fun t hu => hu.trans (runLockTake_leaves t _)))
  | unlockTake =>
    exact out rfl (leaves_execute (by decide) (withBody_holds fun t hu => hu.trans (runUnlockTake_leaves t _)))
  | loadBegin =>
    exact out rfl (leaves_execute (by decide) (withBody_holds fun b hu => hu.trans (runLoadBegin_leaves b _)))
  | loadPage =>
    exact out rfl (leaves_execute (by decide) (withBody_holds fun b hu => hu.trans (runLoadPage_leaves b _)))
  | loadEnd =>
    exact out rfl (leaves_execute (by decide) (withBody_holds fun t hu => hu.trans (runLoadEnd_leaves t _)))
  | readPage =>
    exact out rfl (leaves_execute (by decide) (withBody_holds fun b hu => by rwa [runReadPage_state]))
  | cue | followOn =>
    refine out rfl (leaves_execute (by decide) (withBody_holds fun t hu => hu.trans ?_))
    simp [Leaves, mayChange, replyBlocks]
  | go | resume | release =>
    refine out rfl (leaves_execute (by decide) (withoutBody_holds fun hu => hu.trans ?_))
    simp [Leaves, mayChange, replyBlocks]
  | curveLoad =>
    exact out rfl (leaves_execute (by decide) (withBody_holds fun b hu => hu.trans (runCurveLoad_leaves _ _ _ _)))
  | followOff => exact out rfl (leaves_execute (by decide) (withoutBody_holds fun hu => hu.trans (runFollowOff_leaves _)))
  | clearNotice =>
    refine out rfl (leaves_execute (by decide) (withBody_holds fun t hu => hu.trans ?_))
    simp [runClearNotice, Leaves, mayChange, replyBlocks]
  | linkTestStart | linkTestStop =>
    refine out rfl (leaves_execute (by decide) (withoutBody_holds fun hu => hu.trans ?_))
    simp [Leaves, mayChange, causeBlocks]
  | erase => exact out rfl (leaves_eraseRequest s)
  | reset => exact out rfl (leaves_resetRequest s)

end Sys2Proof.Machine
end

section
/-! PROOFS. What the requests of the player and the recorder leave of the stop record, and how RUN is entered (R105, R112,
R114, R120). -/

namespace Sys2Proof.Machine

variable {s t u : State}

/-! ## The requests of the player and the recorder -/

/-- Of the stop record only the lamps changed, or a notice woke a PARKED part. -/
def LampsOrWoken (s t : State) : Prop :=
  LampsOnly s t
    ∨ s.stop.state = .parked ∧ (∃ k : Fin 17, s.notices.config.wake[k] = true)
      ∧ t.stop.state = .held ∧ t.stop.driveEnable = true ∧ t.stop.present = s.stop.present ∧ t.stop.trip = s.stop.trip

theorem LampsOnly.of_stop (same : t.stop = s.stop) : LampsOnly s t := by
  unfold LampsOnly
  rw [same]

/-- The lamps judged again, and before that a notice raised, in a state with the same stop record. -/
theorem lampsOrWoken_raise (k d) (stop : u.stop = s.stop) (config : u.notices.config = s.notices.config) :
    LampsOrWoken s (refreshLamps (raise k d u)) := by
  obtain same | ⟨parked, wakes, -, woken⟩ := raise_stop_cases k d u
  · left
    unfold LampsOnly refreshLamps
    simp only [State.withStop_stop, same, stop]
  · right
    rw [stop] at parked
    rw [config] at wakes
    exact ⟨parked, ⟨k, wakes⟩, by simp [woken], by simp [woken], by simp [stop], by simp [stop]⟩

theorem lampsOrWoken_enterPlayer (p) (stop : u.stop = s.stop) (config : u.notices.config = s.notices.config) :
    LampsOrWoken s (enterPlayer p u) :=
  lampsOrWoken_raise 5 _ (by simp [stop]) (by simp [config])

theorem lampsOrWoken_endRecording (e) (stop : u.stop = s.stop) (config : u.notices.config = s.notices.config) :
    LampsOrWoken s (endRecording e u) := by
  unfold endRecording
  split
  · exact lampsOrWoken_raise 9 _ (by simp [stop]) (by simp [config])
  · exact .inl (.of_stop stop)

theorem lampsOrWoken_stopRecord (s) : LampsOrWoken s (stopRecord s).2 := by
  unfold stopRecord
  split
  · exact .inl (.of_stop rfl)
  · unfold stopRecording
    split
    next =>
      split
      next written eq =>
        obtain rfl : _ = written := congrArg Prod.fst eq
        exact lampsOrWoken_endRecording _ (by simp) (by simp)
      next written eq =>
        obtain rfl : _ = written := congrArg Prod.fst eq
        exact lampsOrWoken_endRecording _ (by simp) (by simp)
    next => exact lampsOrWoken_endRecording _ rfl rfl
    next => exact .inl (.of_stop rfl)

theorem lampsOrWoken_armRecord (t m s) : LampsOrWoken s (armRecord t m s).2 := by
  unfold armRecord
  split_ifs
  any_goals exact .inl (.of_stop rfl)
  exact .inl rfl

theorem lampsOrWoken_cueTake (t s) : LampsOrWoken s (cueTake t s).2 := by
  unfold cueTake
  dsimp only
  split_ifs
  any_goals exact .inl (.of_stop rfl)
  exact lampsOrWoken_enterPlayer _ rfl rfl

theorem lampsOrWoken_resumePlay (s) : LampsOrWoken s (resumePlay s).2 := by
  unfold resumePlay
  split
  · exact lampsOrWoken_enterPlayer _ rfl rfl
  · exact .inl (.of_stop rfl)

theorem lampsOrWoken_releasePlay (s) : LampsOrWoken s (releasePlay s).2 := by
  unfold releasePlay
  split
  · exact lampsOrWoken_enterPlayer _ rfl rfl
  · exact .inl (.of_stop rfl)

/-- What an answer leaves of the stop record, the take of the request and the reply leave too. -/
theorem lampsOrWoken_execute {row : Instr} {run : Request → State → Answer}
    (answer : ∀ r u, LampsOrWoken u (run r u).state) (s) : LampsOrWoken s (execute row run s) := by
  obtain ⟨-, same⟩ | ⟨r, s', taken, replied⟩ := execute_cases row run s
  · rw [same]
    exact .inl (.of_stop rfl)
  · obtain ⟨rest, -, rfl⟩ := (takes_of_takeRequest taken).head
    rw [replied]
    have answered := answer r (s.withMgmt { s.mgmt with requests := rest })
    simpa only [LampsOrWoken, LampsOnly, appendReply_frame, State.withMgmt_stop, State.withMgmt_notices] using answered

theorem withBody_lampsOrWoken {β : Type} {reader : List Byte → Option β} {run : β → State → Answer}
    (h : ∀ b u, LampsOrWoken u (run b u).state) (r u) : LampsOrWoken u (withBody reader run r u).state := by
  unfold withBody
  split
  · exact h _ u
  · exact .inl (.of_stop rfl)

theorem withoutBody_lampsOrWoken {run : State → Answer} (h : ∀ u, LampsOrWoken u (run u).state) (r u) :
    LampsOrWoken u (withoutBody run r u).state := by
  unfold withoutBody
  split
  · exact h u
  · exact .inl (.of_stop rfl)

/-- The requests of the player and the recorder change the lamps alone in the stop record, but for a wake. -/
theorem lampsOrWoken_exec {i : Instr} (mem : i ∈ [.cue, .resume, .release, .armRecord, .stopRecord])
    (next : exec i s = .next t) : LampsOrWoken s t := by
  have out : ∀ {u}, Machine.exec i s = .next u → LampsOrWoken s u → LampsOrWoken s t := fun eq hu => by
    obtain rfl := Host.Outcome.next.inj (eq.symm.trans next)
    exact hu
  simp only [List.mem_cons, List.not_mem_nil, or_false] at mem
  obtain rfl | rfl | rfl | rfl | rfl := mem
  · exact out rfl (lampsOrWoken_execute (withBody_lampsOrWoken fun t u => lampsOrWoken_cueTake t u) s)
  · exact out rfl (lampsOrWoken_execute (withoutBody_lampsOrWoken lampsOrWoken_resumePlay) s)
  · exact out rfl (lampsOrWoken_execute (withoutBody_lampsOrWoken lampsOrWoken_releasePlay) s)
  · exact out rfl (lampsOrWoken_execute (withBody_lampsOrWoken fun b u => lampsOrWoken_armRecord b.1 b.2 u) s)
  · exact out rfl (lampsOrWoken_execute (withoutBody_lampsOrWoken lampsOrWoken_stopRecord) s)

/-! ## RUN is entered from HELD alone -/

/-- Until the gesture detector's step of an event, RUN stands from before the event, and HELD too or the detector is at its
reset values. -/
def BeforeGesture (c0 c : StopCore) : Prop :=
  (c.state = .run → c0.state = .run) ∧ (c.state = .held → c0.state = .held ∨ c.detector = Detector.initial)

/-- RUN stands from before the event, or was entered from HELD with both cause sets empty and drive enable high. -/
def RunFromHeld (c0 c : StopCore) : Prop :=
  c.state = .run →
    c0.state = .run
      ∨ c0.state = .held ∧ c.present = FlagSet.empty 21 ∧ c.trip = FlagSet.empty 21 ∧ c.driveEnable = true

theorem beforeGesture_keeps (c0 : StopCore) : CoreKeeps (BeforeGesture c0) where
  held _ _ _ := ⟨nofun, fun _ => .inr rfl⟩
  trips _ _ hs := hs
  joins _ _ _ hs := hs
  leaves _ hs := hs
  cuts _ _ := ⟨nofun, nofun⟩
  ramps _ _ _ _ _ _ := ⟨nofun, nofun⟩
  standstill _ _ hs := hs
  forwards _ _ hs := hs
  forgets _ hs := hs
  detectorReset hs := ⟨hs.1, fun _ => .inr rfl⟩
  parks _ _ := ⟨nofun, nofun⟩
  resets _ := ⟨nofun, nofun⟩

theorem runFromHeld_keeps (c0 : StopCore) : CoreKeeps (RunFromHeld c0) where
  held _ _ _ := nofun
  trips _ notRun _ run := absurd run notRun
  joins _ notRun _ _ run := absurd run notRun
  leaves {c} x hs run := by
    obtain before | ⟨held, present, trip, drives⟩ := hs run
    · exact .inl before
    · refine .inr ⟨held, ?_, trip, drives⟩
      simp only [present]
      exact Vector.ext fun i hi => by simp [FlagSet.empty]
  cuts _ _ := nofun
  ramps _ _ _ _ _ _ := nofun
  standstill _ _ hs := hs
  forwards _ _ hs := hs
  forgets _ hs := hs
  detectorReset hs := hs
  parks _ _ := nofun
  resets _ := nofun

/-- A gesture is not completed by the first step of a detector at its reset values. -/
theorem Detector.not_complete_initial (g : Gesture) (grip : Bool) :
    (Detector.initial.step g grip).complete g = false := by
  cases grip <;> rfl

/-- Re-arm is met only with nothing present. -/
theorem present_of_rearm (met : rearmRefusal s = none) : s.stop.present = FlagSet.empty 21 := by
  unfold rearmRefusal at met
  split at met
  · cases met
  next empty =>
    have none : FlagSet.members s.stop.present = [] := by simpa [FlagSet.isEmpty] using empty
    refine Vector.ext fun i hi => ?_
    have out : (⟨i, hi⟩ : Fin 21) ∉ FlagSet.members s.stop.present := by simp [none]
    simpa [FlagSet.members, FlagSet.empty] using out

theorem gesture_leads (c0 : StopCore) :
    Leads (fun s => BeforeGesture c0 s.core) (fun s => RunFromHeld c0 s.core) where
  kept := (beforeGesture_keeps c0).kept
  after := (runFromHeld_keeps c0).kept
  weaken hs run := .inl (hs.1 run)
  gesture {s} grip held hs := by
    unfold gestureStep
    dsimp only
    split
    next complete =>
      unfold rearmCheck
      split
      next =>
        refine (runFromHeld_keeps c0).raise _ _ ?_
        intro run
        simp [held] at run
      next met =>
        intro _
        right
        have before : c0.state = .held := by
          obtain before | initial := hs.2 held
          · exact before
          · have reset : s.stop.detector = Detector.initial := initial
            rw [reset, Detector.not_complete_initial] at complete
            cases complete
        refine ⟨before, ?_, by simp, by simp [State.core]⟩
        simpa using present_of_rearm met
    next =>
      intro run
      simp [held] at run

/-- Every command that ends in RUN starts in RUN, or re-arms in HELD. -/
theorem runFromHeld_exec {i : Instr} (next : exec i s = .next t) : RunFromHeld s.core t.core :=
  (beforeGesture_keeps s.core).commands.exec (gesture_leads s.core) i ⟨id, .inl⟩ next

/-- Settles O3: the list of every command covers what its operations change; the requests of the player and the recorder
change the stop record through the lamps and a wake alone; and no operation but the re-arm enters RUN. -/
theorem commandsChangeTheirRecordsOnly : Obligations.CommandsChangeTheirRecordsOnly := by
  intro i s t next
  refine ⟨(leaves_iff _ s t).mp (leaves_exec i s t next), fun lamp period => ?_, fun mem => ?_, fun run => ?_⟩
  · subst period
    cases lamp <;> exact (Host.Outcome.next.inj next) ▸ rfl
  · exact lampsOrWoken_exec mem next
  · exact runFromHeld_exec next run

end Sys2Proof.Machine
end

section
/-! PROOFS. What the configuration lock protects (R188). -/

namespace Sys2Proof.Machine

variable {s t u : State}

/-- The records that the configuration lock protects. -/
def State.lockedRecords (s : State) :
    Vector AxisRecord 10 × Geometry × Vector Zone 24 × StopConfig × Gesture × Vector PatternPair 9 :=
  (s.pose.axes, s.pose.geometry, s.env.zones, s.stop.config, s.stop.gesture, s.stop.lampMap)

/-- The lock is set, and the records that it protects are those of an earlier state. -/
def LockedAs (s t : State) : Prop := t.mgmt.locked = true ∧ t.lockedRecords = s.lockedRecords

/-- A request executed under the lock: what its answer keeps, the take and the reply keep. -/
theorem lockedAs_execute {row : Instr} {run : Request → State → Answer} (locked : s.mgmt.locked = true)
    (answer : AnswersHold (LockedAs s) run) : LockedAs s (execute row run s) := by
  obtain ⟨-, same⟩ | ⟨r, s', taken, replied⟩ := execute_cases row run s
  · rw [same]
    exact ⟨locked, rfl⟩
  · obtain ⟨rest, -, rfl⟩ := (takes_of_takeRequest taken).head
    rw [replied]
    have answered := answer r (s.withMgmt { s.mgmt with requests := rest }) ⟨locked, rfl⟩
    simpa only [LockedAs, State.lockedRecords, appendReply_frame] using answered

/-- A WRITE under the lock is answered LOCKED. -/
theorem unlessLocked_lockedAs {run : State → Answer} (hu : LockedAs s u) : LockedAs s (unlessLocked run u).state := by
  rwa [unlessLocked, if_pos hu.1]

theorem lockedAs_exec {i : Instr} (locked : s.mgmt.locked = true) (next : exec i s = .next t) (noCold : i ≠ .coldReset)
    (noUnlock : i ≠ .unlockConfig) : LockedAs s t := by
  have out : ∀ {u}, Machine.exec i s = .next u → LockedAs s u → LockedAs s t := fun eq hu => by
    obtain rfl := Host.Outcome.next.inj (eq.symm.trans next)
    exact hu
  cases i with
  | coldReset | unlockConfig => contradiction
  | warmReset =>
    refine out rfl ?_
    split <;> simp [warmReset, warmStop, warmEnvelope, Pose.warm, LockedAs, State.lockedRecords, locked]
  | cycReceived | setReceived | fbkReceived | mgtReceived | rpyReceived | badFrame | signalLost | signalRegained
  | linkUpTimerExpiry | degradeHoldTimerExpiry | uTransmitComplete | dTransmitComplete | syncTimerExpiry
  | substituteTimerExpiry | rampTimeout | crewStopChannelChange | presenceInputChange | serviceKeyChange
  | linkTestBitReceived | erasePageReturn =>
    exact out rfl (by simp [LockedAs, State.lockedRecords, locked])
  | gestureComplete | pulseMaximumExceeded | gapMaximumExceeded | eightGood | badRun | discrepancyWindowExpiry =>
    refine out rfl ?_
    split <;> simp [LockedAs, State.lockedRecords, locked]
  | window p judged =>
    refine out rfl ?_
    repeat' split
    all_goals simp [LockedAs, State.lockedRecords, locked]
  | lampPatternPeriod lamp => cases lamp <;> exact out rfl ⟨locked, rfl⟩
  | erase =>
    refine out rfl ?_
    unfold eraseRequest
    split
    next => exact ⟨locked, rfl⟩
    next r s' taken =>
      obtain ⟨rest, -, rfl⟩ := (takes_of_takeRequest taken).head
      repeat' split
      all_goals simp [LockedAs, State.lockedRecords, locked]
  | reset =>
    refine out rfl ?_
    unfold resetRequest
    split
    next => exact ⟨locked, rfl⟩
    next r s' taken =>
      obtain ⟨rest, -, rfl⟩ := (takes_of_takeRequest taken).head
      split <;> simp [LockedAs, State.lockedRecords, locked]
  | unknownRequest | writeReadOnlySelector => exact out rfl (lockedAs_execute locked unknownAnswer_holds)
  | readAxis | readGeometry | readZone | readStopConfig | readGesture | readLampMap | readCurve | readSubject
  | readCueSlot | readNoticeConfig | readThresholds | readPose | readSpeedScale | readStopStatus | readPlayer
  | readRecorder | readTake | readFreeCount | readNotices =>
    exact out rfl (lockedAs_execute locked runReadOnly_holds)
  | readEvaluation | readGateCounters | readMgmtCounters =>
    exact out rfl (lockedAs_execute locked (runRead_holds fun _ clear hu => by cases clear <;> exact hu))
  | readPort =>
    exact out rfl (lockedAs_execute locked (runRead_holds fun p clear hu => by cases p <;> cases clear <;> exact hu))
  | readLensStatus => exact out rfl (lockedAs_execute locked (runRead_holds fun _ _ hu => hu))
  | writeAxis =>
    refine out rfl (lockedAs_execute locked (runWrite_holds fun k r hu => ?_))
    unfold writeAxis
    rwa [if_pos hu.1]
  | writeGeometry =>
    refine out rfl (lockedAs_execute locked (runWrite_holds fun _ g hu => ?_))
    unfold writeGeometry
    rwa [if_pos hu.1]
  | writeZone | writeStopConfig | writeGesture | writeLampMap =>
    exact out rfl (lockedAs_execute locked (runWrite_holds fun _ _ hu => unlessLocked_lockedAs hu))
  | writeSubject =>
    refine out rfl (lockedAs_execute locked (runWrite_holds fun _ _ hu => ?_))
    unfold writeSubject
    split <;> exact hu
  | writeCueSlot =>
    refine out rfl (lockedAs_execute locked (runWrite_holds fun _ _ hu => ?_))
    unfold writeCueSlot
    split <;> exact hu
  | writeNoticeConfig | writeThresholds => exact out rfl (lockedAs_execute locked (runWrite_holds fun _ _ hu => hu))
  | stop =>
    refine out rfl (lockedAs_execute locked (withBody_holds fun mode hu => ?_))
    cases mode <;> simpa [runStop, LockedAs, State.lockedRecords] using hu
  | clearStop =>
    refine out rfl (lockedAs_execute locked (withoutBody_holds fun hu => ?_))
    simpa [LockedAs, State.lockedRecords] using hu
  | setScale => exact out rfl (lockedAs_execute locked (withBody_holds fun _ hu => hu))
  | park =>
    refine out rfl (lockedAs_execute locked (withoutBody_holds fun hu => ?_))
    unfold runPark
    split_ifs <;> simpa [LockedAs, State.lockedRecords] using hu
  | wake =>
    refine out rfl (lockedAs_execute locked (withoutBody_holds fun hu => ?_))
    unfold runWake
    split <;> simpa [LockedAs, State.lockedRecords] using hu
  | lockConfig => exact out rfl (lockedAs_execute locked (withoutBody_holds fun hu => ⟨rfl, hu.2⟩))
  | armRecord | cue | followOn =>
    refine out rfl (lockedAs_execute locked (withBody_holds fun b hu => ?_))
    simpa [LockedAs, State.lockedRecords] using hu
  | stopRecord | go | resume | release | linkTestStart | linkTestStop =>
    refine out rfl (lockedAs_execute locked (withoutBody_holds fun hu => ?_))
    simpa [LockedAs, State.lockedRecords] using hu
  | lockTake =>
    refine out rfl (lockedAs_execute locked (withBody_holds fun t hu => ?_))
    unfold runLockTake
    split <;> exact hu
  | unlockTake => exact out rfl (lockedAs_execute locked (withBody_holds fun t hu => hu))
  | loadBegin =>
    refine out rfl (lockedAs_execute locked (withBody_holds fun b hu => ?_))
    unfold runLoadBegin
    dsimp only
    split <;> exact hu
  | loadPage =>
    refine out rfl (lockedAs_execute locked (withBody_holds fun b hu => ?_))
    unfold runLoadPage
    dsimp only
    repeat' split
    all_goals exact hu
  | loadEnd =>
    refine out rfl (lockedAs_execute locked (withBody_holds fun b hu => ?_))
    unfold runLoadEnd
    dsimp only
    split <;> exact hu
  | readPage => exact out rfl (lockedAs_execute locked (withBody_holds fun b hu => by rwa [runReadPage_state]))
  | curveLoad =>
    refine out rfl (lockedAs_execute locked (withBody_holds fun b hu => ?_))
    unfold runCurveLoad
    split_ifs <;> exact hu
  | followOff =>
    refine out rfl (lockedAs_execute locked (withoutBody_holds fun hu => ?_))
    unfold runFollowOff
    split <;> exact hu
  | clearNotice =>
    refine out rfl (lockedAs_execute locked (withBody_holds fun _ hu => ?_))
    simpa [runClearNotice, LockedAs, State.lockedRecords] using hu

/-- UNLOCK_CONFIG leaves every record that the lock protects. -/
theorem lockedRecords_unlockConfig (next : exec .unlockConfig s = .next t) : t.lockedRecords = s.lockedRecords := by
  have frame := leaves_exec _ s t next
  simp only [Leaves, mayChange, replyBlocks] at frame
  simp_all [State.lockedRecords]

/-- Settles O60: under the lock every WRITE of a protected record is answered LOCKED, and nothing else but a cold reset
writes one. -/
theorem lockedConfigurationStands : Obligations.LockedConfigurationStands := by
  intro i s t locked next noCold
  have records : t.lockedRecords = s.lockedRecords := by
    by_cases unlock : i = .unlockConfig
    · exact lockedRecords_unlockConfig (unlock ▸ next)
    · exact (lockedAs_exec locked next noCold unlock).2
  simp only [State.lockedRecords, Prod.mk.injEq] at records
  obtain ⟨axes, geometry, zones, config, gesture, lampMap⟩ := records
  exact ⟨axes, geometry, zones, config, gesture, lampMap,
    fun noUnlock => (lockedAs_exec locked next noCold noUnlock).1⟩

end Sys2Proof.Machine
end

section
/-! PROOFS. The present set follows the conditions of the other records (R97 to R102, R115, R117): each change of a record
behind a condition comes with its hand-over. -/

namespace Sys2Proof.Machine

/-! ## Causes and their codes (R100) -/

/-- The cause of a code. -/
def causeOf (n : Fin 21) : Cause :=
  if h : n.val < 4 then .crewStop ⟨n.val, h⟩
  else if h : n.val < 8 then .lineFault ⟨n.val - 4, by omega⟩
  else
    [Cause.driveFault, .feedbackLost, .linkD, .unconfigured, .mgmtCut, .rampTimeout, .zone, .grip, .consoleStop,
      .syncLost, .follow, .slip, .mgmtRamp].getD (n.val - 8) .mgmtRamp

theorem causeOf_code (c : Cause) : causeOf c.code = c := by
  cases c with
  | crewStop n => simp [causeOf, Cause.code]
  | lineFault n =>
    have := n.isLt
    simp [causeOf, Cause.code]
    omega
  | _ => rfl

theorem Cause.code_inj {c d : Cause} (h : c.code.val = d.code.val) : c = d := by
  rw [← causeOf_code c, ← causeOf_code d, Fin.ext h]

theorem any_motionAxes_congr {f g : Axis → Bool} (same : ∀ k : Axis, k.val < 7 → f k = g k) :
    motionAxes.any f = motionAxes.any g := by
  simp [motionAxes, same]

/-! ## The conditions -/

/-- The condition of a cause that another record gives at every moment; an event cause has one that never holds. No
record gives one of MGMT_CUT or of ZONE: theirs is given beside the state. -/
def State.condition (s : State) (given : Cause → Option Bool) : Cause → Option Bool
  | .crewStop n => some (s.stop.lines[n].state != .clear)
  | .lineFault n => some (s.stop.lines[n].latch != .absent)
  | .driveFault => some s.pose.driveFault
  | .feedbackLost => some s.pose.anyLost
  | .linkD => some s.link.d.state.isDown
  | .unconfigured => some s.pose.unconfigured
  | .grip => some !s.stop.gripHeld
  | .consoleStop => some s.stop.consoleStop
  | .syncLost => some (s.stop.syncTimer == .expired)
  | .rampTimeout => some false
  | .follow => some false
  | .slip => some false
  | .mgmtRamp => some false
  | .mgmtCut => given .mgmtCut
  | .zone => given .zone

/-- The latest evaluation finds a zone INTRUDE. -/
def State.intruded (s : State) : Prop := ∃ z : Fin 24, s.env.evaluation.zones[z] = .intrude

/-- The present set agrees with the conditions of every cause outside a list. -/
structure AgreesBut (given : Cause → Option Bool) (X : List Cause) (s : State) : Prop where
  mirrors : ∀ c, c ∉ X → ∀ b, s.condition given c = some b → s.stop.present[c.code] = b
  zone : .zone ∉ X → given .zone = none → s.stop.present[Cause.zone.code] = true → s.intruded

theorem agreesBut_iff (s : State) : AgreesBut (fun _ => none) [] s ↔ PresentSetAgrees s := by
  constructor
  · intro h
    have each := fun c b (eq : s.condition (fun _ => none) c = some b) => h.mirrors c (by simp) b eq
    exact ⟨fun n => each (.crewStop n) _ rfl, fun n => each (.lineFault n) _ rfl, each .driveFault _ rfl,
      each .feedbackLost _ rfl, each .linkD _ rfl, each .unconfigured _ rfl, each .grip _ rfl, each .consoleStop _ rfl,
      each .syncLost _ rfl, h.zone (by simp) rfl, each .rampTimeout _ rfl, each .follow _ rfl, each .slip _ rfl,
      each .mgmtRamp _ rfl⟩
  · intro h
    refine ⟨fun c _ b eq => ?_, fun _ _ => h.zone⟩
    cases c with
    | crewStop n => exact (h.crewStop n).trans (Option.some.inj eq)
    | lineFault n => exact (h.lineFault n).trans (Option.some.inj eq)
    | driveFault => exact h.driveFault.trans (Option.some.inj eq)
    | feedbackLost => exact h.feedbackLost.trans (Option.some.inj eq)
    | linkD => exact h.linkD.trans (Option.some.inj eq)
    | unconfigured => exact h.unconfigured.trans (Option.some.inj eq)
    | mgmtCut => cases eq
    | rampTimeout => exact h.rampTimeout.trans (Option.some.inj eq)
    | zone => cases eq
    | grip => exact h.grip.trans (Option.some.inj eq)
    | consoleStop => exact h.consoleStop.trans (Option.some.inj eq)
    | syncLost => exact h.syncLost.trans (Option.some.inj eq)
    | follow => exact h.follow.trans (Option.some.inj eq)
    | slip => exact h.slip.trans (Option.some.inj eq)
    | mgmtRamp => exact h.mgmtRamp.trans (Option.some.inj eq)

variable {given : Cause → Option Bool} {X : List Cause} {s t : State}

/-- The records behind the conditions are the same in two states, and the present set is. -/
structure SameJudged (s t : State) : Prop where
  present : t.stop.present = s.stop.present
  lines : t.stop.lines = s.stop.lines
  axes : t.pose.axes = s.pose.axes
  geometry : t.pose.geometry = s.pose.geometry
  entries : t.pose.entries = s.pose.entries
  port : t.link.d.state = s.link.d.state
  grip : t.stop.gripHeld = s.stop.gripHeld
  console : t.stop.consoleStop = s.stop.consoleStop
  sync : t.stop.syncTimer = s.stop.syncTimer
  zones : t.env.evaluation.zones = s.env.evaluation.zones

namespace AgreesBut

theorem weaken (h : AgreesBut given X s) (c) : AgreesBut given (c :: X) s :=
  ⟨fun d out => h.mirrors d fun mem => out (.tail c mem), fun out => h.zone fun mem => out (.tail c mem)⟩

/-- The records behind the conditions of the causes outside the list stand, and the present set does. -/
theorem keep (h : AgreesBut given X s) (present : t.stop.present = s.stop.present)
    (conditions : ∀ c, c ∉ X → t.condition given c = s.condition given c)
    (zones : .zone ∉ X → t.env.evaluation.zones = s.env.evaluation.zones) : AgreesBut given X t := by
  refine ⟨fun c out b eq => ?_, fun out free mem => ?_⟩
  · rw [present]
    exact h.mirrors c out b ((conditions c out).symm.trans eq)
  · rw [present] at mem
    unfold State.intruded
    rw [zones out]
    exact h.zone out free mem

theorem same (h : AgreesBut given X s) (k : SameJudged s t) : AgreesBut given X t := by
  refine h.keep k.present (fun c _ => ?_) fun _ => k.zones
  cases c <;> simp [State.condition, Pose.driveFault, Pose.anyLost, Pose.lost, Pose.unconfigured, k.lines, k.axes,
    k.geometry, k.entries, k.port, k.grip, k.console, k.sync]

/-- A hand-over makes the present set agree with the condition that it hands over. -/
theorem handOver {c : Cause} {b : Bool} (h : AgreesBut given (c :: X) s) (holds : ∀ b', s.condition given c = some b' → b' = b)
    (zone : c = .zone → b = true → s.intruded) : AgreesBut given X (handOver c b s) := by
  have conditions : ∀ d, (Machine.handOver c b s).condition given d = s.condition given d := fun d => by
    cases d <;> simp [State.condition]
  have present : ∀ d, d ≠ c → (Machine.handOver c b s).stop.present[d.code] = s.stop.present[d.code] := by
    intro d other
    have apart : c.code.val ≠ d.code.val := fun eq => other (Cause.code_inj eq.symm)
    simp [handOver_present, apart]
  have self : (Machine.handOver c b s).stop.present[c.code] = b := by
    simp [handOver_present]
  refine ⟨fun d out b' eq => ?_, fun out free mem => ?_⟩
  · rw [conditions] at eq
    by_cases hd : d = c
    · subst hd
      rw [self, holds b' eq]
    · rw [present d hd]
      exact h.mirrors d (by simp [hd, out]) b' eq
  · have found : s.intruded := by
      by_cases hz : Cause.zone = c
      · subst hz
        exact zone rfl (self.symm.trans mem)
      · exact h.zone (by simp [hz, out]) free ((present _ hz).symm.trans mem)
    simpa [State.intruded] using found

/-- The hand-over of a condition that another record gives. -/
theorem handOver_condition {c : Cause} {b : Bool} (h : AgreesBut given (c :: X) s) (holds : s.condition given c = some b)
    (other : c ≠ .zone) : AgreesBut given X (Machine.handOver c b s) :=
  h.handOver (fun _ eq => Option.some.inj (eq.symm.trans holds)) fun zone => absurd zone other

/-! ## The operations that leave the conditions -/

theorem raise (h : AgreesBut given X s) (k d) : AgreesBut given X (raise k d s) := h.same (by constructor <;> simp)

theorem refreshLamps (h : AgreesBut given X s) : AgreesBut given X (refreshLamps s) := h.same (by constructor <;> simp)

/-! ## The ports -/

theorem changePort (h : AgreesBut given X s) (p r new why) : AgreesBut given X (changePort p r new why s) := by
  unfold Machine.changePort
  dsimp only
  cases p with
  | u =>
    refine raise (h.same ?_) _ _
    constructor <;> rfl
  | d =>
    have changed : AgreesBut given (.linkD :: X)
        (s.withLink (s.link.setPort .d { r with state := new, lockHeld := r.lockHeld && new.isUp })) := by
      refine (h.weaken .linkD).keep rfl (fun c out => ?_) fun _ => rfl
      cases c with
      | linkD => exact absurd (.head _) out
      | _ => rfl
    have linked := handOver_condition (changed.raise 13 [portCode .d, s.link.d.state.code, new.code, why.code]) rfl
      (by decide)
    exact linked.same (by constructor <;> rfl)

/-- A port record with the state that its port has. -/
theorem setPort (h : AgreesBut given X s) (p) {r : PortRecord} (state : r.state = (s.link.port p).state) :
    AgreesBut given X (s.withLink (s.link.setPort p r)) := by
  refine h.same ?_
  cases p with
  | u => constructor <;> rfl
  | d => exact ⟨rfl, rfl, rfl, rfl, rfl, state, rfl, rfl, rfl, rfl⟩

theorem endWindow (h : AgreesBut given X s) (p n) {r : PortRecord} (state : r.state = (s.link.port p).state) :
    AgreesBut given X (endWindow p n r s) := by
  unfold Machine.endWindow
  dsimp only
  repeat' split
  all_goals first | exact h.changePort _ _ _ _ | exact h.setPort p state

theorem countWindow (h : AgreesBut given X s) (p n) {r : PortRecord} (state : r.state = (s.link.port p).state) :
    AgreesBut given X (countWindow p n r s) := by
  unfold Machine.countWindow
  dsimp only
  split
  · exact h.endWindow p _ state
  · exact h.setPort p state

theorem linkGood (h : AgreesBut given X s) (p) : AgreesBut given X (linkGood p s) := by
  unfold Machine.linkGood
  dsimp only
  split
  · split
    · exact h.changePort _ _ _ _
    · exact h.setPort p rfl
  · exact h
  · exact h.countWindow p _ rfl
  · exact h.countWindow p _ rfl
  · exact h

theorem linkBad (h : AgreesBut given X s) (p why) : AgreesBut given X (linkBad p why s) := by
  have counted : AgreesBut given X (countBad p why s) := by
    refine h.same ?_
    unfold countBad
    dsimp only
    split <;> constructor <;> simp
  unfold Machine.linkBad linkBadState
  dsimp only
  generalize countBad p why s = u at counted ⊢
  split
  · exact counted.setPort p rfl
  · exact counted.changePort _ _ _ _
  · split
    · exact counted.changePort _ _ _ _
    · exact counted.countWindow p _ rfl
  · split
    · exact counted.changePort _ _ _ _
    · exact counted.countWindow p _ rfl
  · exact counted

theorem badFrameAt (h : AgreesBut given X s) (p why) : AgreesBut given X (badFrameAt p why s) := by
  cases p
  · exact (h.linkBad .u why).same (by constructor <;> rfl)
  · exact h.linkBad .d why

theorem signalLost (h : AgreesBut given X s) (p) : AgreesBut given X (signalLost p s) := by
  have received : AgreesBut given X (s.withSpine (s.spine.setReceiving p [])) := h.same (by constructor <;> rfl)
  unfold Machine.signalLost
  dsimp only
  split
  · exact received.setPort p rfl
  · exact received.changePort _ _ _ _
  · exact received.changePort _ _ _ _
  · exact received.changePort _ _ _ _
  · have dropped := received.setPort (r := { s.link.port p with signal := false }) p rfl
    exact dropped.same (by constructor <;> rfl)

theorem linkUpExpiry (h : AgreesBut given X s) (p) : AgreesBut given X (linkUpExpiry p s) := by
  unfold Machine.linkUpExpiry
  dsimp only
  split
  · exact h.changePort _ _ _ _
  · exact h

theorem startTest (h : AgreesBut given X s) : AgreesBut given X (startTest s).2 := by
  unfold Machine.startTest
  split
  · dsimp only
    refine changePort ?_ _ _ _ _
    exact h.same (by constructor <;> rfl)
  · exact h

theorem stopTest (h : AgreesBut given X s) : AgreesBut given X (stopTest s).2 := by
  unfold Machine.stopTest
  split
  · dsimp only
    refine changePort ?_ _ _ _ _
    exact h.same (by constructor <;> rfl)
  · exact h

/-! ## The Pose Unit and the Envelope Unit -/

theorem judgeFeedback_motion {k : Axis} (motion : lensOf k = none) (h : AgreesBut given (.feedbackLost :: X) s) :
    AgreesBut given X (judgeFeedback k s) := by
  unfold Machine.judgeFeedback
  rw [motion]
  exact h.handOver_condition rfl (by decide)

theorem judgeFeedback (h : AgreesBut given X s) (k) : AgreesBut given X (judgeFeedback k s) := by
  cases lens : lensOf k with
  | none => exact judgeFeedback_motion lens (h.weaken _)
  | some i =>
    unfold Machine.judgeFeedback
    rw [lens]
    exact h.same (by constructor <;> simp)

theorem judgeConfigured (h : AgreesBut given (.unconfigured :: X) s) : AgreesBut given X (judgeConfigured s) :=
  h.handOver_condition rfl (by decide)

/-- Every motion axis judges FEEDBACK_LOST, the lens axes do not change what it is judged from. -/
theorem judgeAllFeedback (h : AgreesBut given (.feedbackLost :: X) s) : AgreesBut given X (judgeAllFeedback s) := by
  have rest : ∀ (l : List Axis) {u : State}, AgreesBut given X u → AgreesBut given X (l.foldl (fun u k => Machine.judgeFeedback k u) u) := by
    intro l
    induction l with
    | nil => exact id
    | cons k rest ih => exact fun hu => ih (hu.judgeFeedback k)
  have first : AgreesBut given X (Machine.judgeFeedback 0 s) := judgeFeedback_motion rfl h
  have order : List.finRange 10 = 0 :: (List.finRange 10).tail := by decide
  unfold Machine.judgeAllFeedback
  rw [order, List.foldl_cons]
  exact rest _ first

theorem poseArrival (h : AgreesBut given X s) : AgreesBut given X (poseArrival s) := by
  refine judgeAllFeedback ((h.weaken .feedbackLost).keep rfl (fun c out => ?_) fun _ => rfl)
  cases c with
  | feedbackLost => exact absurd (.head _) out
  | driveFault =>
    simp only [State.condition, Pose.driveFault, State.withPose_pose, Fin.getElem_fin, Vector.getElem_ofFn, Option.some.injEq]
    congr 1
    funext k
    unfold PoseEntry.aged
    split <;> rfl
  | _ => rfl

/-- A zone INTRUDE that is not SOFT is one INTRUDE. -/
theorem intruded_of_zoneIntruded {zones : Vector Zone 24} {states : Vector ZoneState 24}
    (found : zoneIntruded zones states = true) : ∃ z : Fin 24, states[z] = .intrude := by
  simp only [zoneIntruded, List.any_eq_true, Bool.and_eq_true, beq_iff_eq] at found
  obtain ⟨z, -, intrude, -⟩ := found
  exact ⟨z, intrude⟩

theorem evaluate (h : AgreesBut given X s) (free : given .zone = none) (c m p) : AgreesBut given X (evaluate c m p s) := by
  have entered : AgreesBut given (.zone :: X)
      ((s.withEnv { s.env with evaluation := evaluationOf s c m p }).setScale
        { s.env.scale with zone := (evaluationOf s c m p).factor }) :=
    (h.weaken .zone).keep rfl (fun d _ => by cases d <;> rfl) fun out => absurd (.head _) out
  have judged := entered.handOver (b := zoneIntruded s.env.zones (evaluationOf s c m p).zones)
    (fun _ eq => nomatch free.symm.trans eq) fun _ found => intruded_of_zoneIntruded found
  unfold Machine.evaluate
  exact same judged (by constructor <;> simp)

theorem completePose (h : AgreesBut given X s) (free : given .zone = none) (e c m) : AgreesBut given X (completePose e c m s) := by
  have follows : ∀ {u : State} p, AgreesBut given X u → AgreesBut given X (followSubmission p c u) :=
    fun p hu => hu.same (by constructor <;> simp)
  unfold Machine.completePose
  dsimp only
  split
  · have completed := fun p => h.same (t := s.withPose { s.pose with completed := p }) (by constructor <;> rfl)
    split
    · exact follows _ ((completed _).evaluate free _ _ _)
    · exact (follows _ (completed _)).evaluate free _ _ _
  · exact h.same (by constructor <;> rfl)

theorem captureAxis (h : AgreesBut given X s) (free : given .zone = none) (e c k m) : AgreesBut given X (captureAxis e c k m s) := by
  unfold Machine.captureAxis
  dsimp only
  split
  · exact completePose (h.same (by constructor <;> rfl)) free _ _ _
  · exact h.same (by constructor <;> rfl)

theorem poseSetTake (h : AgreesBut given X s) (free : given .zone = none) (e k c m) : AgreesBut given X (poseSetTake e k c m s) := by
  unfold Machine.poseSetTake
  dsimp only
  repeat' split
  any_goals exact h
  any_goals exact h.captureAxis free _ _ _ _
  all_goals exact h.same (by constructor <;> rfl)

/-- The entry of an FBK of a motion axis: FEEDBACK_LOST is handed over, and DRIVE_FAULT is left to the Stop Supervisor. -/
theorem poseFeedback_motion (h : AgreesBut given X s) (free : given .zone = none) (e) {k} (f) (motion : lensOf k = none) :
    AgreesBut given (.driveFault :: X) (poseFeedback e k f s) := by
  have entered : AgreesBut given (.feedbackLost :: .driveFault :: X)
      (s.withPose { s.pose with entries := s.pose.entries.set k.val (entryOf f) }) := by
    refine ((h.weaken .driveFault).weaken .feedbackLost).keep rfl (fun c out => ?_) fun _ => rfl
    cases c with
    | feedbackLost => exact absurd (.head _) out
    | driveFault => exact absurd (.tail _ (.head _)) out
    | _ => rfl
  unfold Machine.poseFeedback
  dsimp only
  refine judgeFeedback_motion motion ?_
  split
  · exact entered.poseSetTake free _ _ _ _
  · exact entered

/-- The entry of an FBK of a lens axis is behind no condition. -/
theorem poseFeedback_lens (h : AgreesBut given X s) (free : given .zone = none) (e) {k : Axis} (f) (lens : 7 ≤ k.val) :
    AgreesBut given X (poseFeedback e k f s) := by
  have entered : AgreesBut given X (s.withPose { s.pose with entries := s.pose.entries.set k.val (entryOf f) }) := by
    have motion : ∀ j : Axis, j.val < 7 → (s.pose.entries.set k.val (entryOf f))[j.val] = s.pose.entries[j.val] :=
      fun j small => Vector.getElem_set_ne _ _ (by omega)
    refine h.keep rfl (fun c _ => ?_) fun _ => rfl
    cases c with
    | driveFault =>
      exact congrArg some (any_motionAxes_congr fun j small => by
        simp only [State.withPose_pose, Fin.getElem_fin, motion j small])
    | feedbackLost =>
      exact congrArg some (any_motionAxes_congr fun j small => by
        simp only [Pose.lost, State.withPose_pose, Fin.getElem_fin, motion j small])
    | _ => rfl
  unfold Machine.poseFeedback
  dsimp only
  refine judgeFeedback ?_ k
  split
  · exact entered.poseSetTake free _ _ _ _
  · exact entered

theorem stopFeedback (h : AgreesBut given (.driveFault :: X) s) {k : Axis} (f) (motion : k.val < 7) :
    AgreesBut given X (stopFeedback k f s) := by
  have judged := h.handOver_condition (c := .driveFault) rfl (by decide)
  unfold Machine.stopFeedback
  rw [dif_pos motion]
  exact judged.same (by constructor <;> simp)

/-- An FBK at a block other than the Pose Unit. -/
theorem fbkTaken (h : AgreesBut given X s) (e k x) {b : FbkBlock} (other : b ≠ .poseUnit) : AgreesBut given X (fbkTaken e k x s b) := by
  cases b with
  | poseUnit => exact absurd rfl other
  | stopSupervisor =>
    by_cases motion : k.val < 7
    · exact (h.weaken _).stopFeedback x motion
    · unfold Machine.fbkTaken Machine.stopFeedback
      rwa [dif_neg motion]
  | takePlayer => exact h.same (by constructor <;> simp [Machine.fbkTaken])
  | lensUnit =>
    unfold Machine.fbkTaken
    dsimp only
    split
    · exact h.same (by constructor <;> simp)
    · exact h

theorem foldl_fbkTaken (e k x) (l : List FbkBlock) (others : FbkBlock.poseUnit ∉ l) :
    ∀ {s : State}, AgreesBut given X s → AgreesBut given X (l.foldl (Machine.fbkTaken e k x) s) := by
  induction l with
  | nil => exact id
  | cons b rest ih =>
    obtain ⟨other, others⟩ := List.ne_and_not_mem_of_not_mem_cons others
    exact fun hs => ih others (hs.fbkTaken e k x other.symm)

/-- The Stop Supervisor takes what the Pose Unit left to it. -/
theorem foldl_fbkTaken_stop (e) {k : Axis} (x) (motion : k.val < 7) {l : List FbkBlock}
    (others : FbkBlock.poseUnit ∉ l) (stop : .stopSupervisor ∈ l) (h : AgreesBut given (.driveFault :: X) s) :
    AgreesBut given X (l.foldl (Machine.fbkTaken e k x) s) := by
  obtain ⟨before, after, split⟩ := List.append_of_mem stop
  subst split
  simp only [List.mem_append, List.mem_cons, not_or] at others
  rw [List.foldl_append, List.foldl_cons]
  exact foldl_fbkTaken e k x after others.2.2
    (stopFeedback (foldl_fbkTaken e k x before others.1 h) x motion)

theorem fbkArrives (h : AgreesBut given X s) (free : given .zone = none) (o f) : AgreesBut given X (fbkArrives o f s) := by
  have forwarded : ∀ {u : State} f, AgreesBut given X u → AgreesBut given X (offerForward f u) :=
    fun f hu => hu.same (by constructor <;> simp)
  unfold Machine.fbkArrives
  dsimp only
  split
  · exact forwarded _ h
  next k _ =>
    refine forwarded _ ?_
    obtain ⟨before, after, split, fresh, rest, stop⟩ := poseBeforeStop_split (l := completeOrder fbkBlocks o.blocks)
      (completeOrder_nodup (by decide) _) ((completeOrder_perm _ _).mem_iff.mpr (by decide))
      ((completeOrder_perm _ _).mem_iff.mpr (by decide))
    rw [split, List.foldl_append, List.foldl_cons]
    have first := foldl_fbkTaken o.envelopeFirst k (fbkFields f.payload) before fresh h
    by_cases motion : k.val < 7
    · exact foldl_fbkTaken_stop _ _ motion rest stop (first.poseFeedback_motion free _ _ (by simp [lensOf, motion]))
    · exact foldl_fbkTaken _ _ _ _ rest (first.poseFeedback_lens free _ _ (by omega))

end AgreesBut

end Sys2Proof.Machine
end

section
/-! PROOFS. The present set follows the conditions through arrivals, the crew stop lines, the timers, the requests and the
resets. -/

namespace Sys2Proof.Machine

variable {given : Cause → Option Bool} {X : List Cause} {s t : State}

/-- A fault latch that is not absent in the line state entered was not absent before. -/
theorem FaultLatch.ne_absent_of_enter {l : FaultLatch} {st : LineState} (stands : l.enter st ≠ .absent) :
    l ≠ .absent := by
  rintro rfl
  cases st <;> exact stands rfl

/-- A frame judged good is of a kind that arrives on the port (R3). -/
theorem arrivesOn_of_receive {p : Port} {bytes : List Byte} {f : Frame} (good : receive p bytes = .judged (.good f)) :
    f.kind.arrivesOn p = true := by
  unfold receive judge at good
  dsimp only at good
  repeat' split at good
  all_goals first | (cases good; done) | skip
  next arrives _ =>
    obtain rfl := Judged.good.inj (Reception.judged.inj good)
    simpa using arrives

namespace AgreesBut

/-! ## Arrivals of a cycle -/

theorem syncRestart (h : AgreesBut given X s) : AgreesBut given X (syncRestart s) := by
  have restarted : AgreesBut given (.syncLost :: X)
      (s.withStop { s.stop with syncTimer := s.startTimer s.stop.config.syncTimeout, substituteTimer := .stopped }) := by
    refine (h.weaken .syncLost).keep rfl (fun c out => ?_) fun _ => rfl
    cases c with
    | syncLost => exact absurd (.head _) out
    | _ => rfl
  exact restarted.handOver_condition (c := .syncLost) (b := false) rfl (by decide)

theorem stopArrival (h : AgreesBut given X s) (u grip console step) : AgreesBut given X (stopArrival u grip console step s) := by
  unfold Machine.stopArrival
  dsimp only
  have synced : AgreesBut given X (if u = true then Machine.syncRestart s else s) := by
    split
    · exact h.syncRestart
    · exact h
  generalize (if u = true then Machine.syncRestart s else s) = s1 at synced ⊢
  have slipped :
      AgreesBut given X (if (s1.stop.state == .run && u && slips step) = true then Machine.rampEvent .slip s1 else s1) := by
    split
    · exact synced.same (by constructor <;> simp)
    · exact synced
  generalize (if (s1.stop.state == .run && u && slips step) = true then Machine.rampEvent .slip s1 else s1) = s2
    at slipped ⊢
  have entered : AgreesBut given (.grip :: .consoleStop :: X)
      (s2.withStop { s2.stop with gripHeld := grip, consoleStop := console }) := by
    refine ((slipped.weaken .consoleStop).weaken .grip).keep rfl (fun c out => ?_) fun _ => rfl
    cases c with
    | grip => exact absurd (.head _) out
    | consoleStop => exact absurd (.tail _ (.head _)) out
    | _ => rfl
  have gripped := entered.handOver_condition (c := .grip) rfl (by decide)
  have judged : AgreesBut given X (Machine.handOver .consoleStop console (Machine.handOver .grip (!grip)
      (s2.withStop { s2.stop with gripHeld := grip, consoleStop := console }))) :=
    gripped.handOver_condition (by simp [State.condition]) (by decide)
  split
  · exact judged.same (by constructor <;> simp)
  · exact judged

theorem cycTaken (h : AgreesBut given X s) (a b) : AgreesBut given X (cycTaken a s b) := by
  cases b with
  | stopSupervisor => exact h.stopArrival _ _ _ _
  | cueMatcher =>
    unfold Machine.cycTaken
    dsimp only
    split
    · exact h.same (by constructor <;> simp)
    · exact h
  | poseUnit => exact h.poseArrival
  | takeRecorder => exact h.same (by constructor <;> simp [Machine.cycTaken])
  | takePlayer => exact h.same (by constructor <;> simp [Machine.cycTaken])

theorem dispatchCyc (h : AgreesBut given X s) (parked order f a) : AgreesBut given X (dispatchCyc parked order f a s) := by
  have taken : ∀ (l : List CycBlock) {u : State}, AgreesBut given X u → AgreesBut given X (l.foldl (Machine.cycTaken a) u) := by
    intro l
    induction l with
    | nil => exact id
    | cons b rest ih => exact fun hu => ih (hu.cycTaken a b)
  unfold Machine.dispatchCyc
  dsimp only
  split
  · exact taken _ h
  · exact taken _ (h.same (by constructor <;> simp))

theorem cycArrives (h : AgreesBut given X s) (parked order f) : AgreesBut given X (cycArrives parked order f s) := by
  unfold Machine.cycArrives
  dsimp only
  split
  · refine dispatchCyc ?_ _ _ _ _
    exact h.same (by constructor <;> simp)
  · refine dispatchCyc ?_ _ _ _ _
    exact h.same (by constructor <;> rfl)

theorem originate (h : AgreesBut given X s) (order) : AgreesBut given X (originate order s) :=
  dispatchCyc (h.same (by constructor <;> rfl)) _ _ _ _

theorem pace (h : AgreesBut given X s) : AgreesBut given X (pace s) := h.same (by constructor <;> rfl)

theorem syncExpiry (h : AgreesBut given X s) (o) : AgreesBut given X (syncExpiry o s) := by
  unfold Machine.syncExpiry
  split
  · have expired : AgreesBut given (.syncLost :: X) (s.withStop { s.stop with syncTimer := .expired }) := by
      refine (h.weaken .syncLost).keep rfl (fun c out => ?_) fun _ => rfl
      cases c with
      | syncLost => exact absurd (.head _) out
      | _ => rfl
    have lost := expired.handOver_condition (c := .syncLost) (b := true) rfl (by decide)
    exact (lost.originate o).pace
  · exact h

theorem substituteExpiry (h : AgreesBut given X s) (o) : AgreesBut given X (substituteExpiry o s) := by
  unfold Machine.substituteExpiry
  split
  · exact (h.originate o).pace
  · exact h

/-! ## Frames at a port -/


/-- A good frame; one of kind FBK brings an evaluation about, which judges ZONE. -/
theorem goodFrame (h : AgreesBut given X s) (cyc fbk p) {f : Frame} (free : f.kind = .fbk → given .zone = none) :
    AgreesBut given X (goodFrame cyc fbk p f s) := by
  have counted := h.linkGood p
  unfold Machine.goodFrame
  dsimp only
  split
  · exact counted.cycArrives _ _ _
  · exact counted.same (by constructor <;> simp)
  next kind => exact counted.fbkArrives (free kind) _ _
  · exact counted.same (by constructor <;> simp)
  · exact counted.same (by constructor <;> simp)
  all_goals exact counted

theorem frameBytes (h : AgreesBut given X s) (cyc fbk) {p : Port} (free : p = .d → given .zone = none) (bs cut) :
    AgreesBut given X (frameBytes cyc fbk p bs cut s) := by
  have judges : ∀ {bytes : List Byte} {f : Frame}, receive p bytes = .judged (.good f) → f.kind = .fbk →
      given .zone = none := by
    intro bytes f good kind
    have arrives := arrivesOn_of_receive good
    rw [kind] at arrives
    exact free (by cases p <;> simp_all [FrameKind.arrivesOn])
  have received : ∀ bs, AgreesBut given X (s.withSpine (s.spine.setReceiving p bs)) :=
    fun _ => h.same (by constructor <;> rfl)
  unfold Machine.frameBytes
  dsimp only
  split
  · exact h
  · split
    next good => exact (received _).goodFrame _ _ _ (judges good)
    · exact (received _).badFrameAt _ _
    · split
      · exact (received _).badFrameAt _ _
      · exact received _

/-! ## The crew stop lines (R97, R98) -/

/-- A cause that agrees after all. -/
theorem strengthen {c : Cause} (h : AgreesBut given (c :: X) s) (other : c ≠ .zone)
    (self : c ∉ X → ∀ b, s.condition given c = some b → s.stop.present[c.code] = b) : AgreesBut given X s := by
  refine ⟨fun d out b eq => ?_, fun out => h.zone (by simp [other.symm, out])⟩
  by_cases same : d = c
  · subst same
    exact self out b eq
  · exact h.mirrors d (by simp [same, out]) b eq

/-- Another record for a line: the two causes of that line are open. -/
theorem setLine (h : AgreesBut given X s) (n : Fin 4) (r : LineRecord) :
    AgreesBut given (.crewStop n :: .lineFault n :: X) (s.withStop { s.stop with lines := s.stop.lines.set n.val r }) := by
  refine ((h.weaken _).weaken _).keep rfl (fun c out => ?_) fun _ => rfl
  simp only [List.mem_cons, not_or] at out
  cases c with
  | crewStop m =>
    have other : n.val ≠ m.val := fun eq => out.1 (congrArg _ (Fin.ext eq.symm))
    simp [State.condition, other]
  | lineFault m =>
    have other : n.val ≠ m.val := fun eq => out.2.1 (congrArg _ (Fin.ext eq.symm))
    simp [State.condition, other]
  | _ => rfl

theorem lineChange (h : AgreesBut given X s) (n c l) : AgreesBut given X (lineChange n c l s) := by
  unfold Machine.lineChange
  dsimp only
  split
  · exact h
  · generalize hr : s.stop.lines[n].setChannel c l = r
    have entered := h.setLine n { r with window := s.windowTimer r.state, latch := s.stop.lines[n].latch.enter r.state }
    have handed := entered.handOver_condition (c := .crewStop n) (b := r.state != .clear)
      (by simp [State.condition, LineRecord.state]) (by simp)
    split
    next absent =>
      refine handed.handOver_condition (c := .lineFault n) (b := false) ?_ (by simp)
      simpa [State.condition] using absent
    next stands =>
      refine handed.strengthen (by simp) fun out b eq => ?_
      have before : s.stop.present[(Cause.lineFault n).code] = true := by
        refine h.mirrors _ out _ ?_
        simpa [State.condition] using FaultLatch.ne_absent_of_enter stands
      have after : b = true := by
        simp only [State.condition, handOver_frame, State.withStop_stop, Fin.getElem_fin, Vector.getElem_set_self,
          Option.some.injEq] at eq
        rw [← eq]
        simpa using stands
      have apart : (Cause.crewStop n).code.val ≠ (Cause.lineFault n).code.val := fun eq => by
        cases Cause.code_inj eq
      rw [after, ← before]
      simp [handOver_present, apart]

theorem lineFault (h : AgreesBut given X s) (n) : AgreesBut given X (lineFault n s) := by
  have entered := h.setLine n { s.stop.lines[n] with window := .stopped, latch := .awaitStop }
  have stopped : AgreesBut given (.lineFault n :: X)
      (s.withStop { s.stop with lines := s.stop.lines.set n.val { s.stop.lines[n] with window := .stopped, latch := .awaitStop } }) := by
    refine entered.strengthen (by simp) fun out b eq => h.mirrors _ (fun mem => out (.tail _ mem)) b ?_
    simpa [State.condition, LineRecord.state] using eq
  have faulted := stopped.handOver_condition (c := .lineFault n) (b := true) (by simp [State.condition]) (by simp)
  exact faulted.raise _ _

/-! ## MGMT_CUT, of which no record is the condition (R103) -/

theorem mgmtCut (h : AgreesBut given X s) (free : given .mgmtCut = none) (b) : AgreesBut given X (Machine.handOver .mgmtCut b s) :=
  (h.weaken .mgmtCut).handOver (fun _ eq => nomatch free.symm.trans eq) nofun

end AgreesBut

/-! ## The resets (R124) -/

/-- A set formed from judgements holds the causes judged to hold. -/
theorem causesOf_code (judged : List (Cause × Bool)) (c : Cause) :
    (causesOf judged)[c.code] = judged.any fun j => j.2 && decide (j.1 = c) := by
  have start : ∀ set : FlagSet 21,
      (judged.foldl (fun set j => if j.2 then FlagSet.insert set j.1.code else set) set)[c.code]
        = (set[c.code] || judged.any fun j => j.2 && decide (j.1 = c)) := by
    induction judged with
    | nil => simp
    | cons j rest ih =>
      intro set
      rw [List.foldl_cons, ih, List.any_cons]
      cases holds : j.2 with
      | false => simp
      | true =>
        by_cases same : j.1 = c
        · simp [FlagSet.insert, same]
        · have apart : j.1.code.val ≠ c.code.val := fun eq => same (Cause.code_inj eq)
          simp [FlagSet.insert, same, apart]
  rw [causesOf, start]
  simp [FlagSet.empty]

theorem any_crewStops (lines : Vector LineRecord 4) (c : Cause) :
    (crewStops lines).any (fun j => j.2 && decide (j.1 = c))
      = match c with | .crewStop n => lines[n].state != .clear | _ => false := by
  rw [Bool.eq_iff_iff]
  cases c <;> simp [crewStops]

theorem any_lineFaults (lines : Vector LineRecord 4) (c : Cause) :
    (lineFaults lines).any (fun j => j.2 && decide (j.1 = c))
      = match c with | .lineFault n => lines[n].latch != .absent | _ => false := by
  rw [Bool.eq_iff_iff]
  cases c <;> simp [lineFaults]

theorem agreesBut_coldReset (s : State) : AgreesBut (fun _ => none) [] (coldReset s) := by
  have present : ∀ c : Cause, (coldReset s).stop.present[c.code]
      = (causesOf (crewStops (Vector.ofFn fun n : Fin 4 => LineRecord.sampled s.stop.lines[n])
          ++ [(.linkD, true), (.unconfigured, true), (.grip, true)]))[c.code] := fun _ => rfl
  refine ⟨fun c _ b eq => ?_, fun _ _ zone => ?_⟩
  · rw [present, causesOf_code, List.any_append, any_crewStops]
    cases c with
    | crewStop n =>
      obtain rfl := Option.some.inj eq
      simp [coldReset, LineRecord.state, LineRecord.sampled]
    | lineFault n =>
      obtain rfl := Option.some.inj eq
      simp [coldReset, LineRecord.sampled]
    | mgmtCut | zone => cases eq
    | _ =>
      obtain rfl := Option.some.inj eq
      rfl
  · rw [present, causesOf_code, List.any_append, any_crewStops] at zone
    simp at zone

theorem agreesBut_warmReset (s : State) : AgreesBut (fun _ => none) [] (warmReset s) := by
  have present : ∀ c : Cause, (warmReset s).stop.present[c.code]
      = (causesOf (warmJudgements s s.pose.warm))[c.code] := fun _ => rfl
  refine ⟨fun c _ b eq => ?_, fun _ _ zone => ?_⟩
  · rw [present, causesOf_code, warmJudgements, List.any_append, List.any_append, any_crewStops, any_lineFaults]
    cases c with
    | crewStop n =>
      obtain rfl := Option.some.inj eq
      simp [warmReset, warmStop]
    | lineFault n =>
      obtain rfl := Option.some.inj eq
      simp [warmReset, warmStop]
    | mgmtCut | zone => cases eq
    | driveFault =>
      obtain rfl := Option.some.inj eq
      simp [warmReset, Pose.warm, Pose.driveFault, PoseEntry.initial]
    | _ =>
      obtain rfl := Option.some.inj eq
      simp [warmReset, warmStop, State.startTimer]
  · rw [present, causesOf_code, warmJudgements, List.any_append, List.any_append, any_crewStops, any_lineFaults] at zone
    simp at zone

/-! ## The commands -/

/-- A request whose answer keeps the agreement. -/
theorem agreesBut_execute {row : Instr} {run : Request → State → Answer} (answer : AnswersHold (AgreesBut given X) run)
    (h : AgreesBut given X s) : AgreesBut given X (execute row run s) := by
  obtain ⟨-, same⟩ | ⟨r, s', taken, replied⟩ := execute_cases row run s
  · rwa [same]
  · have took : AgreesBut given X s' := by
      obtain ⟨rest, -, rfl⟩ := (takes_of_takeRequest taken).head
      exact h.same (by constructor <;> rfl)
    rw [replied]
    exact (answer r s' took).same (by constructor <;> simp)

/-- Where the records behind the conditions are outside the list of a command, the agreement stands. -/
theorem AgreesBut.of_leaves {bs : List Block} (h : AgreesBut given X s) (frame : Leaves bs s t)
    (out : Block.link ∉ bs ∧ Block.pose ∉ bs ∧ Block.envelope ∉ bs ∧ Block.stop ∉ bs) : AgreesBut given X t := by
  obtain ⟨link, pose, env, stop⟩ := out
  have same := ((leaves_iff _ _ _).mp frame).2
  have hlink : t.link = s.link := same .link link
  have hpose : t.pose = s.pose := same .pose pose
  have henv : t.env = s.env := same .envelope env
  have hstop : t.stop = s.stop := same .stop stop
  exact h.same (by constructor <;> simp [hlink, hpose, henv, hstop])

/-- Another axis record, and the gate's entry of that axis forgotten. -/
theorem AgreesBut.putAxis (h : AgreesBut given X s) (k r) : AgreesBut given X (Machine.putAxis k r s) := by
  have opened : ∀ Y : List Cause, (∀ c, c ∈ X → c ∈ Y) → .unconfigured ∈ Y → (k.val < 7 → .feedbackLost ∈ Y) →
      AgreesBut given Y
        ((s.withPose { s.pose with axes := s.pose.axes.set k.val (AxisRecord.written s.pose.axes[k] r) }).withGate
          { s.gate with last := s.gate.last.set k.val none }) := by
    intro Y sub unconfigured lost
    have wide : AgreesBut given Y s := ⟨fun c out => h.mirrors c fun mem => out (sub c mem), fun out => h.zone fun mem => out (sub _ mem)⟩
    refine wide.keep rfl (fun c out => ?_) fun _ => rfl
    cases c with
    | unconfigured => exact absurd unconfigured out
    | feedbackLost =>
      have lens : 7 ≤ k.val := by
        by_contra motion
        exact out (lost (by omega))
      refine congrArg some (any_motionAxes_congr fun j small => ?_)
      have other : k.val ≠ j.val := by omega
      simp [Pose.lost, other]
    | _ => rfl
  unfold Machine.putAxis
  dsimp only
  refine AgreesBut.judgeConfigured ?_
  by_cases motion : k.val < 7
  · exact AgreesBut.judgeFeedback_motion (by simp [lensOf, motion]) (opened _ (by simp_all) (by simp) (by simp))
  · exact AgreesBut.judgeFeedback (opened _ (by simp_all) (by simp) (by simp [motion])) k

theorem agreesBut_writeAxis (k r) (h : AgreesBut given X s) : AgreesBut given X (writeAxis k r s).state := by
  unfold writeAxis
  repeat' split
  any_goals exact h
  exact h.putAxis k r

theorem agreesBut_writeGeometry (g) (h : AgreesBut given X s) : AgreesBut given X (writeGeometry g s).state := by
  unfold writeGeometry
  repeat' split
  any_goals exact h
  refine AgreesBut.judgeConfigured ((h.weaken .unconfigured).keep rfl (fun c out => ?_) fun _ => rfl)
  cases c with
  | unconfigured => exact absurd (.head _) out
  | _ => rfl

/-- Every command but the resets keeps the agreement: STOP and CLEAR_STOP where no condition is given of MGMT_CUT, and
the commands that carry a frame on D where none is given of ZONE. -/
theorem agreesBut_exec_others {i : Instr} (h : AgreesBut given X s) (next : exec i s = .next t)
    (cold : i ≠ .coldReset) (warm : i ≠ .warmReset) (mgmt : i = .stop ∨ i = .clearStop → given .mgmtCut = none)
    (zone : (∃ order bytes, i = .fbkReceived order bytes) ∨ (∃ bytes, i = .rpyReceived bytes)
      ∨ (∃ bytes cut, i = .badFrame .d bytes cut) → given .zone = none) :
    AgreesBut given X t := by
  have out : ∀ {u}, Machine.exec i s = .next u → AgreesBut given X u → AgreesBut given X t := fun eq hu => by
    obtain rfl := Host.Outcome.next.inj (eq.symm.trans next)
    exact hu
  cases i with
  | coldReset => exact absurd rfl cold
  | warmReset => exact absurd rfl warm
  | cycReceived =>
    refine out rfl (AgreesBut.frameBytes (p := .u) ?_ _ _ nofun _ _)
    exact h.same (by constructor <;> rfl)
  | setReceived | mgtReceived => exact out rfl (h.frameBytes (p := .u) _ _ nofun _ _)
  | fbkReceived | rpyReceived => exact out rfl (h.frameBytes _ _ (fun _ => zone (by simp)) _ _)
  | badFrame p bytes cut => exact out rfl (h.frameBytes _ _ (fun port => zone (by simp [port])) _ _)
  | gestureComplete | pulseMaximumExceeded | gapMaximumExceeded =>
    refine out rfl ?_
    split
    · exact h.same (by constructor <;> simp)
    · exact h
  | eightGood =>
    refine out rfl ?_
    split
    · exact h.linkGood _
    · exact h
  | badRun =>
    refine out rfl ?_
    split
    · exact h.linkBad _ _
    · exact h
  | window p judged =>
    refine out rfl ?_
    repeat' split
    all_goals first | exact h | exact h.linkGood _ | exact h.linkBad _ _
  | signalLost => exact out rfl (h.signalLost _)
  | linkUpTimerExpiry => exact out rfl (h.linkUpExpiry _)
  | syncTimerExpiry => exact out rfl (h.syncExpiry _)
  | substituteTimerExpiry => exact out rfl (h.substituteExpiry _)
  | crewStopChannelChange => exact out rfl (h.lineChange _ _ _)
  | discrepancyWindowExpiry =>
    refine out rfl ?_
    split
    · exact h.lineFault _
    · exact h
  | signalRegained p =>
    refine out rfl ?_
    cases p <;> exact h.same (by constructor <;> simp)
  | degradeHoldTimerExpiry p | rampTimeout | linkTestBitReceived => exact out rfl (h.same (by constructor <;> simp))
  | lampPatternPeriod lamp => cases lamp <;> exact out rfl (h.same (by constructor <;> rfl))
  | presenceInputChange | serviceKeyChange => exact out rfl (h.same (by constructor <;> rfl))
  | uTransmitComplete | dTransmitComplete | erasePageReturn | erase | reset
  | unknownRequest | writeReadOnlySelector | readAxis | readGeometry | readZone | readStopConfig | readGesture
  | readLampMap | readCurve | readSubject | readCueSlot | readNoticeConfig | readThresholds | readPose
  | readSpeedScale | readStopStatus | readPlayer | readRecorder | readTake | readFreeCount | readNotices
  | readLensStatus | readGateCounters | readMgmtCounters | writeSubject | writeCueSlot | writeNoticeConfig
  | lockConfig | unlockConfig | lockTake | unlockTake | loadBegin | loadPage | loadEnd | readPage | go | curveLoad
  | followOn | followOff | clearNotice => exact h.of_leaves (leaves_exec _ s t next) (by decide)
  | readEvaluation =>
    refine out rfl (agreesBut_execute (runRead_holds fun _ clear hu => ?_) h)
    cases clear <;> exact hu.same (by constructor <;> rfl)
  | readPort =>
    refine out rfl (agreesBut_execute (runRead_holds fun p clear hu => ?_) h)
    cases p <;> cases clear <;> exact hu.same (by constructor <;> rfl)
  | writeAxis => exact out rfl (agreesBut_execute (runWrite_holds fun k r hu => agreesBut_writeAxis k r hu) h)
  | writeGeometry =>
    exact out rfl (agreesBut_execute (runWrite_holds fun _ g hu => agreesBut_writeGeometry g hu) h)
  | writeZone =>
    refine out rfl (agreesBut_execute (runWrite_holds fun _ _ hu => unlessLocked_holds (fun hv => ?_) hu) h)
    split
    · exact hv.same (by constructor <;> rfl)
    · exact hv
  | writeStopConfig =>
    refine out rfl (agreesBut_execute (runWrite_holds fun _ _ hu => unlessLocked_holds (fun hv => ?_) hu) h)
    split
    · refine hv.same ?_
      unfold putStopConfig
      dsimp only
      split <;> constructor <;> rfl
    · exact hv
  | writeGesture =>
    refine out rfl (agreesBut_execute (runWrite_holds fun _ _ hu => unlessLocked_holds (fun hv => ?_) hu) h)
    split
    · exact hv.same (by constructor <;> rfl)
    · exact hv
  | writeLampMap =>
    refine out rfl (agreesBut_execute (runWrite_holds fun _ _ hu => unlessLocked_holds (fun hv => ?_) hu) h)
    exact hv.same (by constructor <;> rfl)
  | writeThresholds =>
    exact out rfl (agreesBut_execute (runWrite_holds fun _ _ hu => hu.same (by constructor <;> rfl)) h)
  | stop =>
    refine out rfl (agreesBut_execute (withBody_holds fun mode hu => ?_) h)
    cases mode
    · exact hu.same (by constructor <;> simp [runStop])
    · exact hu.mgmtCut (mgmt (.inl rfl)) true
  | clearStop =>
    refine out rfl (agreesBut_execute (withoutBody_holds fun hu => ?_) h)
    exact (hu.mgmtCut (mgmt (.inr rfl)) false).same (by constructor <;> simp [handOver])
  | setScale => exact out rfl (agreesBut_execute (withBody_holds fun _ hu => hu.same (by constructor <;> rfl)) h)
  | park =>
    refine out rfl (agreesBut_execute (withoutBody_holds fun hu => ?_) h)
    unfold runPark
    split_ifs <;> exact hu.same (by constructor <;> simp)
  | wake =>
    refine out rfl (agreesBut_execute (withoutBody_holds fun hu => ?_) h)
    unfold runWake
    split <;> exact hu.same (by constructor <;> simp)
  | armRecord | cue =>
    exact out rfl (agreesBut_execute (withBody_holds fun _ hu => hu.same (by constructor <;> simp)) h)
  | stopRecord | resume | release =>
    exact out rfl (agreesBut_execute (withoutBody_holds fun hu => hu.same (by constructor <;> simp)) h)
  | linkTestStart => exact out rfl (agreesBut_execute (withoutBody_holds fun hu => hu.startTest) h)
  | linkTestStop => exact out rfl (agreesBut_execute (withoutBody_holds fun hu => hu.stopTest) h)

theorem agreesBut_exec {i : Instr} (h : AgreesBut (fun _ => none) [] s) (next : exec i s = .next t) :
    AgreesBut (fun _ => none) [] t := by
  have out : ∀ {u}, Machine.exec i s = .next u → AgreesBut (fun _ => none) [] u → AgreesBut (fun _ => none) [] t :=
    fun eq hu => by
      obtain rfl := Host.Outcome.next.inj (eq.symm.trans next)
      exact hu
  by_cases cold : i = .coldReset
  · subst cold
    exact out rfl (agreesBut_coldReset s)
  · by_cases warm : i = .warmReset
    · subst warm
      refine out rfl ?_
      split
      · exact agreesBut_warmReset s
      · exact h
    · exact agreesBut_exec_others h next cold warm (fun _ => rfl) fun _ => rfl

/-- Settles O54: every command that changes a record behind a condition hands the condition over. -/
theorem presentSetAgreesAfterEveryStep : Obligations.PresentSetAgreesAfterEveryStep := by
  intro s t hs next
  rw [← agreesBut_iff] at hs ⊢
  unfold step at next
  split at next
  · obtain rfl := Host.Outcome.next.inj next
    exact hs.same (by constructor <;> rfl)
  · exact agreesBut_exec (hs.same (by constructor <;> rfl)) next

end Sys2Proof.Machine
end

section
/-! PROOFS. The lamps and the timers of the Stop Supervisor (R108 to R110, R115 to R117, R120, R121). -/

namespace Sys2Proof.Machine

variable {s t : State}

/-! ## The lamps: whatever changes what they are judged from ends in their judgement -/

/-- A state with the same records behind the lamps. -/
theorem LampsAgree.of_records (h : LampsAgree s) (stop : t.stop = s.stop) (env : t.env = s.env) (pose : t.pose = s.pose)
    (recorder : t.recorder = s.recorder) (player : t.player = s.player) : LampsAgree t :=
  h.of_same stop (by rw [env]) (by rw [pose]) (by rw [recorder]) (by rw [player])

theorem lampsAgree_enterHeld (r s) : LampsAgree (enterHeld r s) := lampsAgree_refreshLamps _

theorem LampsAgree.raise (h : LampsAgree s) (k d) : LampsAgree (raise k d s) := by
  unfold Machine.raise wake
  dsimp only
  split
  · have held := lampsAgree_enterHeld (WakeReason.source k).stopReason (noteOccurrence k d s)
    exact held.of_records (by simp) (by simp) (by simp) (by simp) (by simp)
  · exact h.of_records (by simp) (by simp) (by simp) (by simp) (by simp)

theorem LampsAgree.joinTrip (h : LampsAgree s) (c) : LampsAgree (joinTrip c s) := by
  unfold Machine.joinTrip
  split
  · exact h
  · have joined : LampsAgree (s.withStop { s.stop with trip := FlagSet.insert s.stop.trip c }) := h
    exact joined.raise _ _

theorem LampsAgree.joinPresent (h : LampsAgree s) : LampsAgree (joinPresent s) :=
  Kept.foldl (fun c hu => hu.joinTrip c) _ h

theorem LampsAgree.judgeCut (h : LampsAgree s) : LampsAgree (judgeCut s) := by
  unfold Machine.judgeCut
  split
  · exact lampsAgree_enterHeld _ _
  · exact h

theorem lampsAgree_enterCut (r s) : LampsAgree (enterCut r s) := by
  unfold enterCut
  exact lampsAgree_refreshLamps _

theorem lampsAgree_enterRamp (r s) : LampsAgree (enterRamp r s) := by
  unfold enterRamp
  exact lampsAgree_refreshLamps _

theorem LampsAgree.causeEnters (h : LampsAgree s) (c) : LampsAgree (causeEnters c s) := by
  have inserted : LampsAgree (s.withStop { s.stop with present := FlagSet.insert s.stop.present c.code }) := h
  unfold Machine.causeEnters
  dsimp only
  split
  · exact h
  · split
    · split
      · exact LampsAgree.joinTrip (inserted.of_records (by simp) (by simp) (by simp) (by simp) (by simp)) _
      · split
        · exact (lampsAgree_enterCut _ _).joinPresent
        · exact (lampsAgree_enterCut _ _).joinTrip _
    · split
      · exact (lampsAgree_enterRamp _ _).joinPresent
      · exact (inserted.joinTrip _).judgeCut

theorem LampsAgree.causeLeaves (h : LampsAgree s) (c) : LampsAgree (causeLeaves c s) := by
  unfold Machine.causeLeaves
  split
  · have erased : LampsAgree (s.withStop { s.stop with present := FlagSet.erase s.stop.present c.code }) := h
    exact erased.judgeCut
  · exact h

theorem LampsAgree.rampEvent (h : LampsAgree s) (c) : LampsAgree (rampEvent c s) := by
  unfold Machine.rampEvent
  split
  · exact (lampsAgree_enterRamp _ _).joinPresent.joinTrip _
  · exact h.joinTrip _

theorem lampsAgree_enterPlayer (p s) : LampsAgree (enterPlayer p s) := lampsAgree_refreshLamps _

theorem lamps_kept : Kept LampsAgree where
  other same := same.lamps
  occur _ _ hs := hs.of_records (by simp) (by simp) (by simp) (by simp) (by simp)
  brake _ hs := hs.of_records (by simp) (by simp) (by simp) (by simp) (by simp)
  decel _ _ hs := hs.of_records (by simp) (by simp) (by simp) (by simp) (by simp)
  forward _ _ hs := hs.of_records (by simp) (by simp) (by simp) (by simp) (by simp)
  queueD _ _ hs := hs.of_records (by simp) (by simp) (by simp) (by simp) (by simp)
  wakes r _ _ := lampsAgree_enterHeld r _
  stands r _ _ := lampsAgree_enterHeld r _
  judged _ _ hs := hs
  enters c hs := hs.causeEnters c
  leaves c hs := hs.causeLeaves c
  clears hs := hs.judgeCut
  ramps c _ hs := hs.rampEvent c
  timesOut _ _ := (lampsAgree_enterCut _ _).joinTrip _
  ends e _ hs := by
    unfold endRecording
    split
    · exact lampsAgree_refreshLamps _
    · exact hs
  sample _ _ _ hs := hs
  recorder {s} r state _ _ hs := LampsAgree.of_same (s := s) (t := s.withRecorder r) rfl rfl rfl state rfl hs
  starts _ _ _ _ _ := lampsAgree_refreshLamps _
  arms t m hs := by
    unfold armRecord
    split_ifs
    any_goals exact hs
    exact lampsAgree_refreshLamps _
  enterPlayer p _ _ _ := lampsAgree_enterPlayer p _
  player {s} p state _ _ _ hs := LampsAgree.of_same (s := s) (t := s.withPlayer p) rfl rfl rfl rfl state hs
  ring _ _ _ hs := hs
  cues t hs := by
    unfold cueTake
    dsimp only
    split_ifs
    any_goals exact hs
    exact lampsAgree_enterPlayer _ _
  resumes hs := by
    unfold resumePlay
    split
    · exact lampsAgree_enterPlayer _ _
    · exact hs
  releases hs := by
    unfold releasePlay
    split
    · exact lampsAgree_enterPlayer _ _
    · exact hs
  counts _ _ hs := hs
  forwards _ _ _ hs := hs

theorem lamps_rearms : Rearms LampsAgree where
  detector _ _ hs := hs
  rearm _ _ _ := lampsAgree_refreshLamps _

/-- An FBK at a block other than the Pose Unit. -/
theorem LampsAgree.foldl_fbkTaken (h : LampsAgree s) (e k x) (l : List FbkBlock) (others : FbkBlock.poseUnit ∉ l) :
    LampsAgree (l.foldl (fbkTaken e k x) s) := by
  induction l generalizing s with
  | nil => exact h
  | cons b rest ih =>
    obtain ⟨other, others⟩ := List.ne_and_not_mem_of_not_mem_cons others
    refine ih ?_ others
    cases b with
    | poseUnit => exact absurd rfl other
    | stopSupervisor => exact lamps_kept.stopFeedback _ _ h
    | takePlayer => exact lamps_kept.playerFeedback _ _ h
    | lensUnit =>
      unfold fbkTaken
      dsimp only
      split
      · exact lamps_kept.lensFeedback _ _ h
      · exact h

/-- The Stop Supervisor judges the lamps after it took the FBK of a motion axis. -/
theorem lampsAgree_foldl_of_stop (e) {k : Axis} (x) (motion : k.val < 7) {l : List FbkBlock}
    (others : FbkBlock.poseUnit ∉ l) (stop : .stopSupervisor ∈ l) (s) : LampsAgree (l.foldl (fbkTaken e k x) s) := by
  obtain ⟨before, after, split⟩ := List.append_of_mem stop
  subst split
  simp only [List.mem_append, List.mem_cons, not_or] at others
  rw [List.foldl_append, List.foldl_cons]
  refine LampsAgree.foldl_fbkTaken ?_ e k x after others.2.2
  unfold fbkTaken stopFeedback
  dsimp only
  rw [dif_pos motion]
  exact lampsAgree_refreshLamps _

/-- The entry of a lens axis is behind no lamp condition. -/
theorem LampsAgree.poseFeedback_lens (h : LampsAgree s) (e) {k : Axis} (f) (lens : 7 ≤ k.val) :
    LampsAgree (poseFeedback e k f s) := by
  have still : ∀ entries : Vector PoseEntry 10,
      (∀ j : Axis, j.val < 7 → entries[j] = s.pose.entries[j]) → LampsAgree (s.withPose { s.pose with entries := entries }) :=
    fun entries same => LampsAgree.of_same (s := s) rfl rfl (any_motionAxes_congr fun j small => by
      simp only [State.withPose_pose, same j small]) rfl rfl h
  unfold poseFeedback
  dsimp only
  rw [dif_neg (by omega)]
  refine lamps_kept.judgeFeedback k (still _ fun j small => ?_)
  have other : k.val ≠ j.val := by omega
  simp [other]

theorem LampsAgree.fbkArrives (h : LampsAgree s) (o f) : LampsAgree (fbkArrives o f s) := by
  unfold Machine.fbkArrives
  dsimp only
  split
  · exact lamps_kept.offerForward _ h
  next k _ =>
    refine lamps_kept.offerForward _ ?_
    obtain ⟨before, after, split, fresh, rest, stop⟩ := poseBeforeStop_split (l := completeOrder fbkBlocks o.blocks)
      (completeOrder_nodup (by decide) _) ((completeOrder_perm _ _).mem_iff.mpr (by decide))
      ((completeOrder_perm _ _).mem_iff.mpr (by decide))
    rw [split, List.foldl_append, List.foldl_cons]
    by_cases motion : k.val < 7
    · exact lampsAgree_foldl_of_stop _ _ motion rest stop _
    · have first := h.foldl_fbkTaken o.envelopeFirst k (fbkFields f.payload) before fresh
      exact (first.poseFeedback_lens _ _ (by omega)).foldl_fbkTaken _ _ _ _ rest

/-- In a state other than RUN the lamp condition is that of the stop state, whatever the axes do. -/
theorem LampsAgree.of_rest (h : LampsAgree s) (rest : s.stop.state ≠ .run) (stop : t.stop = s.stop) : LampsAgree t := by
  have condition : t.lampCondition = s.lampCondition := by
    unfold State.lampCondition
    rw [stop]
    cases state : s.stop.state <;> simp_all
  simpa only [LampsAgree, condition, stop] using h

theorem lamps_commands : CommandsKeep LampsAgree LampsAgree where
  kept := lamps_kept
  running := lamps_kept
  fbk o f hs := hs.fbkArrives o f
  offerRequest r hs := by
    unfold offerRequest
    split <;> exact hs
  completeU hs := by
    unfold completeU
    split
    · exact hs
    · dsimp only
      split <;> exact hs.of_records (by simp) (by simp) (by simp) (by simp) (by simp)
  completeD hs := by
    unfold completeD
    split
    · exact hs
    · exact hs.of_records (by simp) (by simp) (by simp) (by simp) (by simp)
  takes taken hs := by
    obtain ⟨rest, -, rfl⟩ := taken.head
    exact hs
  reply _ _ _ hs := hs.of_records (by simp) (by simp) (by simp) (by simp) (by simp)
  resetReply _ hs := hs.of_records (by simp) (by simp) (by simp) (by simp) (by simp)
  mgmt _ _ hs := hs
  axis {s r k} _ resting hs := by
    by_cases motion : isMotion k = true
    · exact hs.of_rest (resting motion).1 rfl
    · refine LampsAgree.of_same (s := s) rfl rfl (any_motionAxes_congr fun j small => ?_) rfl rfl hs
      have other : k.val ≠ j.val := by
        simp only [isMotion, decide_eq_true_eq] at motion
        omega
      simp [other]
  gesture _ hs := hs
  park _ _ := LampsAgree.raise (lampsAgree_refreshLamps _) _ _
  testing hs := hs
  lockTake t hs := by
    unfold runLockTake
    split <;> exact hs
  unlockTake t hs := hs
  loadBegin b _ hs := by
    unfold runLoadBegin
    dsimp only
    split <;> exact hs
  loadPage b hs := by
    unfold runLoadPage
    dsimp only
    repeat' split
    all_goals exact hs
  loadEnd t hs := by
    unfold runLoadEnd
    dsimp only
    split <;> exact hs
  beginErase tag t _ hs := by
    unfold beginErase endErase
    split
    · exact hs.of_records (by simp) (by simp) (by simp) (by simp) (by simp)
    · exact hs
  pageReturn hs := by
    unfold pageReturn endErase
    split
    · exact hs
    · dsimp only
      split
      · exact hs.of_records (by simp) (by simp) (by simp) (by simp) (by simp)
      · exact hs
  coldReset _ := ⟨rfl, rfl, rfl⟩
  warmReset _ := lampsAgree_refreshLamps _

/-! ## Substitution (R115 to R117) -/

/-- Substitution is under way exactly while the sync timer stands expired. -/
def SubstitutionAgrees (s : State) : Prop := s.stop.substituteTimer.isRunning = (s.stop.syncTimer == .expired)

theorem timersAgree_iff (s : State) : TimersAgree s ↔ s.core.TimersAgree ∧ SubstitutionAgrees s :=
  ⟨fun h => ⟨⟨h.ramp, h.standstill, h.detector⟩, h.substitution⟩,
    fun ⟨c, substitution⟩ => ⟨c.ramp, c.standstill, c.detector, substitution⟩⟩

namespace SubstitutionAgrees

theorem of_same (h : SubstitutionAgrees s) (sync : t.stop.syncTimer = s.stop.syncTimer)
    (substitute : t.stop.substituteTimer = s.stop.substituteTimer) : SubstitutionAgrees t := by
  rwa [SubstitutionAgrees, sync, substitute]

theorem stopArrival (h : SubstitutionAgrees s) (u grip console step) :
    SubstitutionAgrees (stopArrival u grip console step s) := by
  have synced : SubstitutionAgrees (if u = true then syncRestart s else s) := by
    split
    · simp [SubstitutionAgrees, syncRestart, State.startTimer, Timer.isRunning]
    · exact h
  unfold Machine.stopArrival
  dsimp only
  generalize (if u = true then syncRestart s else s) = s1 at synced ⊢
  refine synced.of_same ?_ ?_ <;> split_ifs <;> simp

theorem cycTaken (h : SubstitutionAgrees s) (a b) : SubstitutionAgrees (cycTaken a s b) := by
  cases b with
  | stopSupervisor => exact h.stopArrival _ _ _ _
  | cueMatcher =>
    unfold Machine.cycTaken
    dsimp only
    split
    · exact h.of_same (by simp) (by simp)
    · exact h
  | poseUnit | takeRecorder | takePlayer => exact h.of_same (by simp [Machine.cycTaken]) (by simp [Machine.cycTaken])

theorem dispatchCyc (h : SubstitutionAgrees s) (parked order f a) :
    SubstitutionAgrees (dispatchCyc parked order f a s) := by
  refine Kept.foldl (fun b hu => hu.cycTaken a b) _ ?_
  split
  · exact h
  · exact h.of_same (by simp) (by simp)

theorem cycArrives (h : SubstitutionAgrees s) (parked order f) : SubstitutionAgrees (cycArrives parked order f s) := by
  unfold Machine.cycArrives
  dsimp only
  split
  · exact dispatchCyc (h.of_same (by simp) (by simp)) _ _ _ _
  · refine dispatchCyc ?_ _ _ _ _
    exact h

theorem frameBytes (h : SubstitutionAgrees s) (cyc fbk p bs cut) : SubstitutionAgrees (frameBytes cyc fbk p bs cut s) := by
  have bad : ∀ {u : State} why, SubstitutionAgrees u → SubstitutionAgrees (badFrameAt p why u) :=
    fun _ hu => hu.of_same (by simp) (by simp)
  have good : ∀ {u : State} f, SubstitutionAgrees u → SubstitutionAgrees (goodFrame cyc fbk p f u) := by
    intro u f hu
    have counted : SubstitutionAgrees (linkGood p u) := hu.of_same (by simp) (by simp)
    unfold Machine.goodFrame
    dsimp only
    split
    · exact counted.cycArrives _ _ _
    all_goals exact hu.of_same (by simp) (by simp)
  have received : ∀ bs, SubstitutionAgrees (s.withSpine (s.spine.setReceiving p bs)) := fun _ => h
  unfold Machine.frameBytes
  dsimp only
  split
  · exact h
  · split
    · exact good _ (received _)
    · exact bad _ (received _)
    · split
      · exact bad _ (received _)
      · exact received _

/-- Where the part paces substitutes, the substitute timer runs, whatever it did. -/
theorem paced (expired : s.stop.syncTimer = .expired) : SubstitutionAgrees (pace s) := by
  simp [SubstitutionAgrees, pace, State.startTimer, Timer.isRunning, expired]

end SubstitutionAgrees

/-- An arrival that does not come from U leaves the sync timer at each block. -/
theorem cycTaken_syncTimer {a : Arrival} (own : a.fromU = false) (s b) :
    (cycTaken a s b).stop.syncTimer = s.stop.syncTimer := by
  cases b with
  | stopSupervisor =>
    unfold cycTaken stopArrival
    dsimp only
    rw [own]
    simp only [Bool.false_eq_true, if_false, Bool.and_false, Bool.false_and]
    split_ifs <;> simp
  | cueMatcher => simp [cycTaken, own]
  | poseUnit | takeRecorder | takePlayer => simp [cycTaken]

/-- A substitute CYC leaves the sync timer as it stands: only one from U restarts it. -/
theorem originate_syncTimer (order s) : (originate order s).stop.syncTimer = s.stop.syncTimer := by
  unfold originate dispatchCyc
  dsimp only
  generalize completeOrder cycBlocks order = l
  generalize hx : (if (s.stop.state == .parked) = true then _ else _ : State) = u
  have start : u.stop.syncTimer = s.stop.syncTimer := by
    subst hx
    split <;> simp
  rw [← start]
  clear hx start
  induction l generalizing u with
  | nil => rfl
  | cons b rest ih => rw [List.foldl_cons, ih, cycTaken_syncTimer rfl]

namespace SubstitutionAgrees

theorem syncExpiry (h : SubstitutionAgrees s) (o) : SubstitutionAgrees (syncExpiry o s) := by
  unfold Machine.syncExpiry
  split
  · exact paced (by simp [originate_syncTimer])
  · exact h

theorem substituteExpiry (h : SubstitutionAgrees s) (o) : SubstitutionAgrees (substituteExpiry o s) := by
  unfold Machine.substituteExpiry
  split
  next due =>
    refine paced ?_
    have running : s.stop.substituteTimer.isRunning = true := by
      cases timer : s.stop.substituteTimer <;> simp_all [Timer.due, Timer.isRunning]
    rw [originate_syncTimer]
    exact eq_of_beq (h.symm.trans running)
  next => exact h

end SubstitutionAgrees

theorem substitution_execute {row : Instr} {run : Request → State → Answer}
    (answer : AnswersHold SubstitutionAgrees run) (h : SubstitutionAgrees s) : SubstitutionAgrees (execute row run s) := by
  obtain ⟨-, same⟩ | ⟨r, s', taken, replied⟩ := execute_cases row run s
  · rwa [same]
  · have took : SubstitutionAgrees s' := by
      obtain ⟨rest, -, rfl⟩ := (takes_of_takeRequest taken).head
      exact h
    rw [replied]
    exact (answer r s' took).of_same (by simp) (by simp)

theorem substitution_exec {i : Instr} (h : SubstitutionAgrees s) (next : exec i s = .next t) : SubstitutionAgrees t := by
  have out : ∀ {u}, Machine.exec i s = .next u → SubstitutionAgrees u → SubstitutionAgrees t := fun eq hu => by
    obtain rfl := Host.Outcome.next.inj (eq.symm.trans next)
    exact hu
  have outside (stop : Block.stop ∉ mayChange i) : SubstitutionAgrees t := by
    have same : t.stop = s.stop := ((leaves_iff _ _ _).mp (leaves_exec _ s t next)).2 .stop stop
    exact h.of_same (by rw [same]) (by rw [same])
  cases i with
  | coldReset => exact out rfl rfl
  | warmReset =>
    refine out rfl ?_
    split
    · simp [SubstitutionAgrees, warmReset, warmStop, State.startTimer, Timer.isRunning]
    · exact h
  | cycReceived now =>
    have received : SubstitutionAgrees (s.withTimebase (max s.timebase now)) := h
    exact out rfl (received.frameBytes _ _ _ _ _)
  | setReceived | fbkReceived | mgtReceived | rpyReceived | badFrame => exact out rfl (h.frameBytes _ _ _ _ _)
  | syncTimerExpiry => exact out rfl (h.syncExpiry _)
  | substituteTimerExpiry => exact out rfl (h.substituteExpiry _)
  | gestureComplete | pulseMaximumExceeded | gapMaximumExceeded | eightGood | badRun | discrepancyWindowExpiry =>
    exact out rfl (h.of_same (by split <;> simp) (by split <;> simp))
  | window p judged =>
    refine out rfl ?_
    repeat' split
    all_goals exact h.of_same (by simp) (by simp)
  | lampPatternPeriod lamp => cases lamp <;> exact out rfl h
  | signalLost | linkUpTimerExpiry | rampTimeout | crewStopChannelChange => exact out rfl (h.of_same (by simp) (by simp))
  | stop =>
    refine out rfl (substitution_execute (withBody_holds fun mode hu => ?_) h)
    cases mode <;> exact hu.of_same (by simp [runStop]) (by simp [runStop])
  | writeAxis =>
    refine out rfl (substitution_execute (runWrite_holds fun k r hu => ?_) h)
    unfold writeAxis
    split_ifs <;> exact hu.of_same (by simp) (by simp)
  | writeGeometry =>
    refine out rfl (substitution_execute (runWrite_holds fun _ g hu => ?_) h)
    unfold writeGeometry
    split_ifs <;> exact hu.of_same (by simp) (by simp)
  | writeStopConfig =>
    refine out rfl (substitution_execute (runWrite_holds fun _ _ hu => unlessLocked_holds (fun hv => ?_) hu) h)
    split
    · exact hv.of_same (by simp) (by simp)
    · exact hv
  | writeGesture =>
    refine out rfl (substitution_execute (runWrite_holds fun _ _ hu => unlessLocked_holds (fun hv => ?_) hu) h)
    split <;> exact hv
  | writeLampMap =>
    exact out rfl (substitution_execute (runWrite_holds fun _ _ hu => unlessLocked_holds id hu) h)
  | clearStop =>
    exact out rfl (substitution_execute (withoutBody_holds fun hu => hu.of_same (by simp) (by simp)) h)
  | park =>
    refine out rfl (substitution_execute (withoutBody_holds fun hu => ?_) h)
    unfold runPark
    split_ifs <;> exact hu.of_same (by simp) (by simp)
  | wake =>
    refine out rfl (substitution_execute (withoutBody_holds fun hu => ?_) h)
    unfold runWake
    split <;> exact hu.of_same (by simp) (by simp)
  | armRecord | cue =>
    exact out rfl (substitution_execute (withBody_holds fun _ hu => hu.of_same (by simp) (by simp)) h)
  | stopRecord | resume | release | linkTestStart | linkTestStop =>
    exact out rfl (substitution_execute (withoutBody_holds fun hu => hu.of_same (by simp) (by simp)) h)
  | _ => exact outside (by simp [mayChange, replyBlocks])

theorem timers_keptByStep : KeptByStep TimersAgree := by
  intro s t hs next
  rw [timersAgree_iff] at hs ⊢
  refine ⟨timers_keeps.commands.keptByStep timers_rearms.rearms s t hs.1 next, ?_⟩
  unfold step at next
  split at next
  · obtain rfl := Host.Outcome.next.inj next
    exact hs.2
  · exact substitution_exec (s := s.withPending _) (by exact hs.2) next

/-! ## The precedence of the lamp conditions (R120) -/

theorem Evaluation.anyNotClear_iff (e : Evaluation) : e.anyNotClear = true ↔ ∃ z : Fin 24, e.zones[z] ≠ .clear := by
  simp [Evaluation.anyNotClear]

theorem Pose.moving_iff (p : Pose) :
    p.moving = true ↔ ∃ k : Fin 10, k.val ≤ 6 ∧ p.entries[k].present = true
      ∧ p.axes[k].standstill < p.entries[k].velocity.natAbs := by
  simp only [Pose.moving, List.any_eq_true, mem_motionAxes, Bool.and_eq_true, decide_eq_true_eq]

/-- Settles O55: drive enable, the trip set and the timers change with the stop state alone, and every change behind the
lamps ends in their judgement. -/
theorem stopRecordAgreesAfterEveryStep : Obligations.StopRecordAgreesAfterEveryStep := by
  refine ⟨⟨driveEnable_keeps.commands.keptByStep driveEnable_rearms.rearms,
    tripSet_keeps.commands.keptByStep tripSet_rearms.rearms, timers_keptByStep,
    lamps_commands.keptByStep lamps_rearms⟩, fun s => ?_⟩
  simp only [← Evaluation.anyNotClear_iff, ← Pose.moving_iff]
  unfold State.lampCondition
  cases s.stop.state <;> simp +contextual

end Sys2Proof.Machine
end

section
/-! PROOFS. The ports, the cue slots, the speed scale and the ages of the pose entries: each keeps to its own record, which
few operations change. -/

namespace Sys2Proof.Machine

variable {s t : State}

/-! ## Properties of the records beside the core -/

/-- A property of the ports, the cue slots, the envelope and the pose entries alone, that the changes of these records
keep. -/
structure SideKept (P : State → Prop) : Prop where
  other : ∀ {s t}, SameCore s t → P s → P t
  same :
    ∀ {s t : State}, t.link = s.link → t.cues = s.cues → t.env = s.env → t.pose.entries = s.pose.entries → P s → P t
  entered : ∀ {s} (k : Axis) f, P s → P (s.withPose { s.pose with entries := s.pose.entries.set k.val (entryOf f) })
  evaluated : ∀ {s} e c, P s → P ((s.withEnv { s.env with evaluation := e }).setScale c)
  coldReset : ∀ {s}, P s → P (coldReset s)
  warmReset : ∀ {s}, P s → P (warmReset s)

variable {P : State → Prop}

theorem SideKept.keptBeside (h : SideKept P) : KeptBeside P where
  stop _ := h.same rfl rfl rfl rfl
  other := h.other
  occur _ _ := h.same (by simp) (by simp) (by simp) (by simp)
  brake _ := h.same (by simp) (by simp) (by simp) (by simp)
  decel _ _ := h.same (by simp) (by simp) (by simp) (by simp)
  forward _ _ := h.same (by simp) (by simp) (by simp) (by simp)
  queueD _ _ := h.same (by simp) (by simp) (by simp) (by simp)
  closes _ _ := h.same (by simp) (by simp) (by simp) (by simp)
  sample _ _ _ := h.same rfl rfl rfl rfl
  recorder _ _ _ _ := h.same rfl rfl rfl rfl
  starts _ _ _ _ := h.same rfl rfl rfl rfl
  arms _ _ _ _ _ _ _ := h.same rfl rfl rfl rfl
  playerState _ _ _ := h.same rfl rfl rfl rfl
  player _ _ _ _ _ := h.same rfl rfl rfl rfl
  ring _ _ _ := h.same rfl rfl rfl rfl
  cued _ _ _ := h.same rfl rfl rfl rfl
  resumed _ := h.same rfl rfl rfl rfl
  released := h.same rfl rfl rfl rfl
  counts _ _ := h.same rfl rfl rfl rfl
  forwards _ _ _ := h.same rfl rfl rfl rfl
  forgets := h.same rfl rfl rfl rfl
  reloads _ := h.same rfl rfl rfl rfl

/-- A property of the ports, the cue slots, the envelope, the pose entries and the player alone: what the commands do
beyond the shared operations leaves these records, but for the resets, a pose entry and an evaluation. -/
theorem KeptBeside.commands_of_same (h : KeptBeside P)
    (same : ∀ {s t : State}, t.link = s.link → t.cues = s.cues → t.env = s.env → t.pose.entries = s.pose.entries →
      t.player = s.player → P s → P t)
    (entered : ∀ {s} (k : Axis) f, P s →
      P (s.withPose { s.pose with entries := s.pose.entries.set k.val (entryOf f) }))
    (evaluated : ∀ {s} e c, P s → P ((s.withEnv { s.env with evaluation := e }).setScale c))
    (cold : ∀ {s}, P s → P (Machine.coldReset s)) (warm : ∀ {s}, P s → P (Machine.warmReset s)) :
    CommandsKeep P P where
  kept := h.kept
  running := h.kept
  fbk := KeptPose.fbkArrives ⟨h.kept, entered, evaluated⟩
  offerRequest r := by
    unfold offerRequest
    split <;> exact same rfl rfl rfl rfl rfl
  completeU := by
    intro s
    unfold completeU
    split
    · exact id
    · dsimp only
      split <;> exact same (by simp) (by simp) (by simp) (by simp) (by simp)
  completeD := by
    intro s
    unfold completeD
    split
    · exact id
    · exact same (by simp) (by simp) (by simp) (by simp) (by simp)
  takes taken := by
    obtain ⟨rest, -, rfl⟩ := taken.head
    exact same rfl rfl rfl rfl rfl
  reply _ _ _ := same (by simp) (by simp) (by simp) (by simp) (by simp)
  resetReply _ := same (by simp) (by simp) (by simp) (by simp) (by simp)
  mgmt _ _ := same rfl rfl rfl rfl rfl
  axis _ _ := same rfl rfl rfl rfl rfl
  gesture _ := same rfl rfl rfl rfl rfl
  park _ := h.park
  testing := same rfl rfl rfl rfl rfl
  lockTake t := by
    unfold runLockTake
    split <;> exact same rfl rfl rfl rfl rfl
  unlockTake t := same rfl rfl rfl rfl rfl
  loadBegin b _ := by
    unfold runLoadBegin
    dsimp only
    split <;> exact same rfl rfl rfl rfl rfl
  loadPage b := by
    unfold runLoadPage
    dsimp only
    repeat' split
    all_goals exact same rfl rfl rfl rfl rfl
  loadEnd t := by
    unfold runLoadEnd
    dsimp only
    split <;> exact same rfl rfl rfl rfl rfl
  beginErase tag t _ := by
    unfold beginErase endErase
    split
    · exact same (by simp) (by simp) (by simp) (by simp) (by simp)
    · exact same rfl rfl rfl rfl rfl
  pageReturn := by
    intro s
    unfold pageReturn endErase
    split
    · exact id
    · dsimp only
      split
      · exact same (by simp) (by simp) (by simp) (by simp) (by simp)
      · exact same rfl rfl rfl rfl rfl
  coldReset := cold
  warmReset := warm

theorem SideKept.commands (h : SideKept P) : CommandsKeep P P :=
  h.keptBeside.commands_of_same (fun link cues env entries _ => h.same link cues env entries) h.entered h.evaluated
    h.coldReset h.warmReset

/-- Such a property is kept by every step. -/
theorem SideKept.keptByStep (h : SideKept P) : KeptByStep P := h.commands.keptByStep h.keptBeside.rearms

/-! ## Each of the four -/

theorem PortRecord.initial_agrees (signal : Bool) : (PortRecord.initial signal).Agrees :=
  ⟨fun _ => ⟨rfl, rfl⟩, by decide +revert, by decide +revert, by decide +revert, rfl, by decide +revert,
    by decide +revert⟩

theorem CueSlot.initial_agrees : CueSlot.initial.Agrees := ⟨rfl, rfl⟩

theorem ports_sideKept : SideKept PortsAgree where
  other same := same.ports
  same link _ _ _ := .of_ports (by rw [link]) (by rw [link])
  entered _ _ := .of_ports rfl rfl
  evaluated _ _ := .of_ports rfl rfl
  coldReset _ := ⟨PortRecord.initial_agrees _, PortRecord.initial_agrees _, by simp [coldReset, PortRecord.initial]⟩
  warmReset := .of_ports rfl rfl

theorem slots_sideKept : SideKept SlotsAgree where
  other same := same.slots
  same _ cues _ _ hs := by rwa [SlotsAgree, cues]
  entered _ _ hs := hs
  evaluated _ _ hs := hs
  coldReset _ n := by simpa [coldReset, State.reset] using CueSlot.initial_agrees
  warmReset hs n := by simpa [warmReset] using (hs n).withProgress (.inr rfl)

theorem scale_sideKept : SideKept ScaleAgrees where
  other same := same.scale
  same _ _ env _ hs := by rwa [ScaleAgrees, env]
  entered _ _ hs := hs
  evaluated _ _ _ := rfl
  coldReset _ := rfl
  warmReset _ := rfl

theorem ages_sideKept : SideKept AgesBounded where
  other same := same.ages
  same _ _ _ entries hs := by rwa [AgesBounded, entries]
  entered k f hs j := by
    by_cases same : k.val = j.val
    · simp [← same, entryOf]
    · simpa [same] using hs j
  evaluated _ _ hs := hs
  coldReset _ k := by simp [coldReset, State.reset, PoseEntry.initial]
  warmReset hs k := by simp [warmReset, Pose.warm, PoseEntry.initial]

end Sys2Proof.Machine
end

section
/-! PROOFS. The bounds of the transmit queues, the request queue, the reply queue and the history rings (R14, R16, R173,
R184). -/

namespace Sys2Proof.Machine

variable {s t : State}

/-! ## What a transmit opportunity takes -/

/-- No queue is longer in `t` than in `s`, and the same ERASE is under way. -/
structure NoLonger (s t : State) : Prop where
  forward : t.spine.forward.length ≤ s.spine.forward.length
  queueD : t.spine.queueD.length ≤ s.spine.queueD.length
  requests : t.mgmt.requests.length ≤ s.mgmt.requests.length
  replies : t.mgmt.replies.length ≤ s.mgmt.replies.length
  erasing : t.mgmt.erasing = s.mgmt.erasing

theorem noLonger_takeU (s) : NoLonger s (takeU s) := by
  unfold takeU
  split
  · constructor <;> simp [sendNotice]
  · split
    next forward => constructor <;> simp [forward]
    next =>
      split
      next replies => constructor <;> simp [replies]
      next =>
        split
        · constructor <;> simp [sendNotice]
        · constructor <;> simp

theorem noLonger_opportunityU (s) : NoLonger s (opportunityU s) := by
  unfold opportunityU
  split
  · exact noLonger_takeU s
  · constructor <;> simp

theorem takeQueueD_length (st) (l : List Frame) : (takeQueueD st l).2.length ≤ l.length := by
  induction l with
  | nil => exact Nat.le_refl _
  | cons f rest ih =>
    unfold takeQueueD
    split
    · exact Nat.le_succ_of_le ih
    · exact Nat.le_succ _

theorem noLonger_takeD (s) : NoLonger s (takeD s) := by
  unfold takeD
  split
  · constructor <;> simp
  · split
    · constructor <;> simp
    · split
      · constructor <;> simp
      · constructor <;> simp [takeQueueD_length]

theorem noLonger_opportunityD (s) : NoLonger s (opportunityD s) := by
  unfold opportunityD
  split
  · exact noLonger_takeD s
  · constructor <;> simp

/-! ## The bounds -/

/-- The bounds of the queues, with at most `n` replies, that of an ERASE under way among them. -/
structure QueuesIn (n : Nat) (s : State) : Prop where
  forward : s.spine.forward.length ≤ 16
  queueD : s.spine.queueD.length ≤ 16
  requests : s.mgmt.requests.length ≤ 4
  replies : s.mgmt.replies.length + (if s.mgmt.erasing.isSome then 1 else 0) ≤ n

theorem queuesBounded_iff : QueuesBounded s ↔ QueuesIn 4 s :=
  ⟨fun ⟨f, d, q, r⟩ => ⟨f, d, q, r⟩, fun ⟨f, d, q, r⟩ => ⟨f, d, q, r⟩⟩

namespace QueuesIn
variable {n : Nat}

theorem of_noLonger (shorter : NoLonger s t) (h : QueuesIn n s) : QueuesIn n t := by
  obtain ⟨forward, queueD, requests, replies⟩ := h
  refine ⟨shorter.forward.trans forward, shorter.queueD.trans queueD, shorter.requests.trans requests, ?_⟩
  rw [shorter.erasing]
  exact (Nat.add_le_add_right shorter.replies _).trans replies

theorem of_same (h : QueuesIn n s) (forward : t.spine.forward = s.spine.forward)
    (queueD : t.spine.queueD = s.spine.queueD) (requests : t.mgmt.requests = s.mgmt.requests)
    (replies : t.mgmt.replies = s.mgmt.replies) (erasing : t.mgmt.erasing = s.mgmt.erasing) : QueuesIn n t :=
  h.of_noLonger ⟨by rw [forward], by rw [queueD], by rw [requests], by rw [replies], erasing⟩

theorem opportunityU (h : QueuesIn n s) : QueuesIn n (opportunityU s) := h.of_noLonger (noLonger_opportunityU s)

theorem opportunityD (h : QueuesIn n s) : QueuesIn n (opportunityD s) := h.of_noLonger (noLonger_opportunityD s)

/-- A reply takes the place left for it. -/
theorem appendReply (h : QueuesIn n s) (tag r b o) : QueuesIn (n + 1) (appendReply tag r b o s) := by
  refine opportunityU ⟨h.forward, h.queueD, h.requests, ?_⟩
  rw [State.withMgmt_mgmt, List.length_append, List.length_singleton, Nat.add_right_comm]
  exact Nat.succ_le_succ h.replies

end QueuesIn

theorem queues_keptBeside (n) : KeptBeside (QueuesIn n) where
  stop _ hs := hs.of_same rfl rfl rfl rfl rfl
  other same hs := hs.of_same same.forward same.queueD (by rw [same.mgmt]) (by rw [same.mgmt]) (by rw [same.mgmt])
  occur k d hs := .opportunityU (hs.of_same rfl rfl rfl rfl rfl)
  brake a hs := by
    unfold offerBrake
    split
    · exact hs
    · exact .opportunityD (hs.of_same rfl rfl rfl rfl rfl)
  decel k d hs := by
    unfold offerDecel
    split
    · exact hs
    · exact .opportunityD (hs.of_same rfl rfl rfl rfl rfl)
  forward f room hs := .opportunityU ⟨by simpa [queueLimit] using room, hs.queueD, hs.requests, hs.replies⟩
  queueD f room hs := .opportunityD ⟨hs.forward, by simpa [queueLimit] using room, hs.requests, hs.replies⟩
  closes _ _ hs := hs.of_same (by simp) (by simp) (by simp) (by simp) (by simp)
  sample _ _ _ hs := hs.of_same rfl rfl rfl rfl rfl
  recorder _ _ _ _ hs := hs.of_same rfl rfl rfl rfl rfl
  starts _ _ _ _ hs := hs.of_same rfl rfl rfl rfl rfl
  arms _ _ _ _ _ _ _ hs := hs.of_same rfl rfl rfl rfl rfl
  playerState _ _ _ hs := hs.of_same rfl rfl rfl rfl rfl
  player _ _ _ _ _ hs := hs.of_same rfl rfl rfl rfl rfl
  ring _ _ _ hs := hs.of_same rfl rfl rfl rfl rfl
  cued _ _ _ hs := hs.of_same rfl rfl rfl rfl rfl
  resumed _ hs := hs.of_same rfl rfl rfl rfl rfl
  released hs := hs.of_same rfl rfl rfl rfl rfl
  counts _ _ hs := hs.of_same rfl rfl rfl rfl rfl
  forwards _ _ _ hs := hs.of_same rfl rfl rfl rfl rfl
  forgets hs := hs.of_same rfl rfl rfl rfl rfl
  reloads _ hs := hs.of_same rfl rfl rfl rfl rfl

/-- Between commands the reply queue has 4 places, and while a request executes one of them is left for its reply. -/
theorem queues_commands : CommandsKeep (QueuesIn 4) (QueuesIn 3) where
  kept := (queues_keptBeside 4).kept
  running := (queues_keptBeside 3).kept
  fbk := KeptPose.fbkArrives ⟨(queues_keptBeside 4).kept, fun _ _ hs => hs.of_same rfl rfl rfl rfl rfl,
    fun _ _ hs => hs.of_same rfl rfl rfl rfl rfl⟩
  offerRequest r hs := by
    unfold offerRequest
    split
    next room => exact ⟨hs.forward, hs.queueD, by simpa using room, hs.replies⟩
    next => exact hs.of_same rfl rfl rfl rfl rfl
  completeU {s} hs := by
    unfold completeU
    split
    · exact hs
    · refine QueuesIn.of_noLonger (noLonger_takeU _) ?_
      split <;> exact hs.of_same rfl rfl rfl rfl rfl
  completeD hs := by
    unfold completeD
    split
    · exact hs
    · exact QueuesIn.of_noLonger (noLonger_takeD _) (hs.of_same rfl rfl rfl rfl rfl)
  takes taken hs := by
    obtain ⟨rest, requests, rfl⟩ := taken.head
    have fewer := hs.requests
    rw [requests, List.length_cons] at fewer
    have room := taken.room
    refine ⟨hs.forward, hs.queueD, by simp only [State.withMgmt_mgmt]; omega, ?_⟩
    simp only [State.withMgmt_mgmt, taken.idle, Option.isSome_none, Bool.false_eq_true, if_false]
    omega
  reply tag r b hs := hs.appendReply tag r b false
  resetReply {s} tag hs := by
    have replying : QueuesIn 3 (s.withMgmt { s.mgmt with reset := .replying }) := hs.of_same rfl rfl rfl rfl rfl
    exact replying.appendReply tag .ok [] true
  mgmt _ _ hs := hs.of_same rfl rfl rfl rfl rfl
  axis _ _ hs := hs.of_same rfl rfl rfl rfl rfl
  gesture _ hs := hs.of_same rfl rfl rfl rfl rfl
  park _ := (queues_keptBeside 3).park
  testing hs := ⟨hs.forward, by simp, hs.requests, hs.replies⟩
  lockTake t hs := by
    unfold runLockTake
    split <;> exact hs.of_same rfl rfl rfl rfl rfl
  unlockTake t hs := hs.of_same rfl rfl rfl rfl rfl
  loadBegin b _ hs := by
    unfold runLoadBegin
    dsimp only
    split <;> exact hs.of_same rfl rfl rfl rfl rfl
  loadPage b hs := by
    unfold runLoadPage
    dsimp only
    repeat' split
    all_goals exact hs.of_same rfl rfl rfl rfl rfl
  loadEnd t hs := by
    unfold runLoadEnd
    dsimp only
    split <;> exact hs.of_same rfl rfl rfl rfl rfl
  beginErase {s} tag t _ hs := by
    have room : s.mgmt.replies.length ≤ 3 := (Nat.le_add_right _ _).trans hs.replies
    have ended : QueuesIn 3 ((s.withStore (s.store.emptyTake t)).withMgmt { s.mgmt with erasing := none }) :=
      ⟨hs.forward, hs.queueD, hs.requests, room⟩
    unfold beginErase
    split
    · exact ended.appendReply tag .ok [] false
    · exact ⟨hs.forward, hs.queueD, hs.requests, Nat.succ_le_succ room⟩
  pageReturn {s} hs := by
    unfold pageReturn endErase
    split
    · exact hs
    next e erasing =>
      have room : s.mgmt.replies.length ≤ 3 := Nat.le_of_lt_succ (by simpa [erasing] using hs.replies)
      have ended : ∀ st, QueuesIn 3 ((s.withStore st).withMgmt { s.mgmt with erasing := none }) :=
        fun _ => ⟨hs.forward, hs.queueD, hs.requests, room⟩
      dsimp only
      split
      · exact (ended _).appendReply e.tag .ok [] false
      · exact hs.of_same rfl rfl rfl rfl rfl
  coldReset _ := ⟨Nat.zero_le _, Nat.zero_le _, Nat.zero_le _, Nat.zero_le _⟩
  warmReset hs := ⟨Nat.zero_le _, Nat.zero_le _, Nat.zero_le _, Nat.zero_le _⟩

/-! ## The history rings (R173) -/

/-- A ring of at most 8 entries, each cycle number at most once. -/
def RingBounded (ring : List RingEntry) : Prop := ring.length ≤ 8 ∧ (ring.map (·.cycle)).Nodup

theorem ringTake_bounded {ring : List RingEntry} (h : RingBounded ring) (c v) : RingBounded (ringTake ring c v) := by
  obtain ⟨few, once⟩ := h
  unfold ringTake
  split
  next =>
    have cycles : (ring.map fun e => if e.cycle = c then ⟨c, v⟩ else e).map (·.cycle) = ring.map (·.cycle) := by
      rw [List.map_map]
      refine List.map_congr_left fun e _ => ?_
      simp only [Function.comp]
      split
      next same => exact same.symm
      next => rfl
    exact ⟨by simpa using few, by rwa [cycles]⟩
  next fresh =>
    have fresh : c ∉ ring.map (·.cycle) := by simpa using fresh
    have added : ∀ l : List RingEntry, l.Sublist ring → l.length ≤ 7 → RingBounded (l ++ [⟨c, v⟩]) := by
      intro l sub short
      have sub := sub.map (·.cycle)
      refine ⟨by simpa using Nat.lt_succ_of_le short, ?_⟩
      rw [List.map_append, List.map_singleton]
      exact List.nodup_append.mpr ⟨sub.nodup once, by simp, by
        simpa using fun e mem => ne_of_mem_of_not_mem (sub.subset (List.mem_map_of_mem mem)) fresh⟩
    split
    · exact added _ (List.drop_sublist _ _) (by rw [List.length_drop]; omega)
    · exact added _ (List.Sublist.refl _) (by omega)

theorem RingsBounded.of_rings (h : RingsBounded s) (rings : t.player.rings = s.player.rings) : RingsBounded t := by
  rwa [RingsBounded, rings]

theorem ringsBounded_of_empty (empty : t.player.rings = Vector.replicate 10 []) : RingsBounded t := by
  intro k
  simp [empty]

theorem rings_keptBeside : KeptBeside RingsBounded where
  stop _ hs := hs
  other same hs := hs.of_rings (by rw [same.player])
  occur _ _ hs := hs.of_rings (by simp)
  brake _ hs := hs.of_rings (by simp)
  decel _ _ hs := hs.of_rings (by simp)
  forward _ _ hs := hs.of_rings (by simp)
  queueD _ _ hs := hs.of_rings (by simp)
  closes _ _ hs := hs.of_rings (by simp)
  sample _ _ _ hs := hs
  recorder _ _ _ _ hs := hs
  starts _ _ _ _ hs := hs
  arms _ _ _ _ _ _ _ hs := hs
  playerState _ _ _ hs := hs
  player _ _ _ _ rings hs := hs.of_rings rings
  ring {s} k v c hs j := by
    by_cases same : k.val = j.val
    · simpa [← same, RingBounded] using ringTake_bounded (hs k) c v
    · simpa [same] using hs j
  cued _ _ _ _ := ringsBounded_of_empty rfl
  resumed _ _ := ringsBounded_of_empty rfl
  released _ := ringsBounded_of_empty rfl
  counts _ _ hs := hs
  forwards _ _ _ hs := hs
  forgets hs := hs
  reloads _ hs := hs

theorem rings_commands : CommandsKeep RingsBounded RingsBounded :=
  rings_keptBeside.commands_of_same (fun _ _ _ _ player hs => hs.of_rings (by rw [player])) (fun _ _ hs => hs)
    (fun _ _ hs => hs) (fun _ => ringsBounded_of_empty rfl) fun _ => ringsBounded_of_empty rfl

end Sys2Proof.Machine
end

section
/-! PROOFS. STALE: the flag of a lens axis is judged again wherever its record or its entry changes, or its entry ages
(R42, R47, R48, R50). -/

namespace Sys2Proof.Machine

variable {s t : State}

/-- The flag of a lens axis agrees with its record and its entry. -/
def StaleAt (s : State) (i : Fin 3) : Prop := s.lens.stale[i] = s.pose.isStale (lensAxis i)

theorem Pose.isStale_iff (p : Pose) (k : Axis) :
    p.isStale k = true ↔ p.axes[k].valid = true ∧ p.entries[k].present = true ∧ p.axes[k].ageLimit < p.entries[k].age := by
  simp only [Pose.isStale, Bool.and_eq_true, decide_eq_true_eq, and_assoc]

theorem staleAgrees_iff : StaleAgrees s ↔ ∀ i, StaleAt s i :=
  forall_congr' fun i => (iff_congr Iff.rfl (s.pose.isStale_iff (lensAxis i)).symm).trans Bool.eq_iff_iff.symm

/-- The records that STALE is judged from, and the flags, are the same in two states. -/
structure SameStale (s t : State) : Prop where
  axes : t.pose.axes = s.pose.axes
  entries : t.pose.entries = s.pose.entries
  stale : t.lens.stale = s.lens.stale

theorem StaleAgrees.of_same (h : StaleAgrees s) (same : SameStale s t) : StaleAgrees t := by
  rwa [StaleAgrees, same.axes, same.entries, same.stale]

theorem StaleAt.of_same {i} (h : StaleAt s i) (same : SameStale s t) : StaleAt t i := by
  rwa [StaleAt, Pose.isStale, same.axes, same.entries, same.stale]

/-! ## What leaves the flags and the pose record -/

@[simp] theorem followOn_stale (k s) : (followOn k s).2.lens.stale = s.lens.stale := by
  unfold followOn turnFollowOn
  split <;> simp

@[simp] theorem fireAction_stale (a s) : (fireAction a s).2.lens.stale = s.lens.stale := by
  cases a <;> simp [fireAction]

@[simp] theorem translate_stale (i u s) : (translate i u s).1.lens.stale = s.lens.stale := by
  unfold translate
  dsimp only
  split <;> simp

@[simp] theorem followSubmission_stale (p c s) : (followSubmission p c s).lens.stale = s.lens.stale := by
  unfold followSubmission
  split <;> simp

theorem sameStale_lensSetpoint (i v c s) : SameStale s (lensSetpoint i v c s) := by
  unfold lensSetpoint
  repeat' split
  all_goals constructor <;> simp

theorem sameStale_lensFeedback (i f s) : SameStale s (lensFeedback i f s) := by
  unfold lensFeedback
  repeat' split
  all_goals constructor <;> simp

theorem sameStale_setArrives (f s) : SameStale s (setArrives f s) := by
  unfold setArrives
  dsimp only
  repeat' split
  all_goals first | exact sameStale_lensSetpoint _ _ _ _ | (constructor <;> simp)

theorem sameStale_updateSlot (b n s) : SameStale s (updateSlot b s n) := by
  unfold updateSlot fire setProgress
  dsimp only
  repeat' split
  all_goals constructor <;> simp

theorem SameStale.trans {u : State} (h : SameStale s t) (g : SameStale t u) : SameStale s u :=
  ⟨g.axes.trans h.axes, g.entries.trans h.entries, g.stale.trans h.stale⟩

theorem sameStale_cueArrival (cues s) : SameStale s (cueArrival cues s) := by
  have byte : ∀ b u, SameStale u (cueByte u b) := fun b u =>
    Kept.foldl (P := SameStale u) (fun n h => h.trans (sameStale_updateSlot b n _)) _ ⟨rfl, rfl, rfl⟩
  exact Kept.foldl (P := SameStale s) (fun b h => h.trans (byte b _)) _ ⟨rfl, rfl, rfl⟩

theorem sameStale_poseSetTake (e k c m s) : SameStale s (poseSetTake e k c m s) := by
  have completed : ∀ motions u, SameStale u (completePose e c motions u) := by
    intro motions u
    unfold completePose
    split
    · dsimp only
      split <;> constructor <;> simp
    · exact ⟨rfl, rfl, rfl⟩
  have captured : SameStale s (captureAxis e c k m s) := by
    unfold captureAxis
    dsimp only
    split
    · refine SameStale.trans ?_ (completed _ _)
      exact ⟨rfl, rfl, rfl⟩
    · exact ⟨rfl, rfl, rfl⟩
  unfold poseSetTake
  split
  · exact ⟨rfl, rfl, rfl⟩
  · dsimp only
    split
    · split
      · exact captured
      · exact ⟨rfl, rfl, rfl⟩
    · split
      · split <;> exact ⟨rfl, rfl, rfl⟩
      · exact ⟨rfl, rfl, rfl⟩

/-! ## The judgement -/

/-- The judgement of a lens axis makes its flag agree, and leaves the other flags. -/
theorem judgeStale_stale (i : Fin 3) (s) :
    (judgeStale i s).lens.stale = s.lens.stale.set i.val (s.pose.isStale (lensAxis i)) := by
  have still : ∀ b, s.lens.stale[i] = b → s.lens.stale.set i.val b = s.lens.stale := by
    rintro _ rfl
    simp
  unfold judgeStale
  dsimp only
  cases s.pose.isStale (lensAxis i) with
  | true =>
    split
    · simp [FlagSet.insert]
    next set => simp [still true (by simpa using set)]
  | false =>
    rw [if_neg (by simp)]
    split
    · simp [FlagSet.erase]
    next clear => rw [still false (by simpa using clear)]

@[simp] theorem handOver_stale (c b s) : (handOver c b s).lens.stale = s.lens.stale := by simp

theorem lensOf_eq_some {k : Axis} {i : Fin 3} (lens : lensOf k = some i) : k = lensAxis i := by
  unfold lensOf at lens
  split at lens
  · obtain rfl := Option.some.inj lens
    ext
    simp only [lensAxis]
    omega
  · cases lens

theorem lensOf_lensAxis (i : Fin 3) : lensOf (lensAxis i) = some i := by decide +revert

/-- The judgement of an axis made again leaves the flags of the other axes, and for a lens axis makes its own agree. -/
theorem StaleAt.judgeFeedback {j : Fin 3} (k : Axis) (h : k ≠ lensAxis j → StaleAt s j) : StaleAt (judgeFeedback k s) j := by
  unfold StaleAt
  rw [(judgeFeedback_frame k s).2.2.2.2.2.2.2.1]
  unfold Machine.judgeFeedback
  split
  next i lens =>
    obtain rfl := lensOf_eq_some lens
    rw [judgeStale_stale]
    by_cases same : i.val = j.val
    · obtain rfl := Fin.ext same
      simp
    · have other : lensAxis i ≠ lensAxis j := by
        simp only [lensAxis, ne_eq, Fin.mk.injEq]
        omega
      simpa [same, StaleAt] using h other
  next motion =>
    rw [handOver_stale]
    refine h ?_
    rintro rfl
    rw [lensOf_lensAxis] at motion
    cases motion

/-- Every axis judged again: every flag agrees whose axis is judged, or that agreed before. -/
theorem StaleAt.judgeFeedbacks {j : Fin 3} (l : List Axis) (h : lensAxis j ∉ l → StaleAt s j) :
    StaleAt (l.foldl (fun u k => Machine.judgeFeedback k u) s) j := by
  induction l generalizing s with
  | nil => exact h (by simp)
  | cons k rest ih =>
    refine ih fun out => StaleAt.judgeFeedback k fun other => h ?_
    simp [out, other.symm]

theorem staleAgrees_poseArrival (s) : StaleAgrees (poseArrival s) := by
  rw [staleAgrees_iff]
  intro j
  unfold poseArrival judgeAllFeedback
  exact StaleAt.judgeFeedbacks _ fun out => absurd (List.mem_finRange (lensAxis j)) out

theorem StaleAgrees.poseFeedback (h : StaleAgrees s) (e k f) : StaleAgrees (poseFeedback e k f s) := by
  rw [staleAgrees_iff] at h ⊢
  intro j
  have entered : k ≠ lensAxis j → StaleAt (s.withPose { s.pose with entries := s.pose.entries.set k.val (entryOf f) }) j := by
    intro other
    have other : k.val ≠ (lensAxis j).val := fun same => other (Fin.ext same)
    simpa [StaleAt, Pose.isStale, other] using h j
  unfold Machine.poseFeedback
  refine StaleAt.judgeFeedback k fun other => ?_
  split
  next => exact (entered other).of_same (sameStale_poseSetTake _ _ _ _ _)
  next => exact entered other

theorem StaleAgrees.putAxis (h : StaleAgrees s) (k r) : StaleAgrees (putAxis k r s) := by
  rw [staleAgrees_iff] at h ⊢
  intro j
  have judged : ∀ u, StaleAt u j → StaleAt (judgeConfigured u) j := fun u hu =>
    hu.of_same (by constructor <;> simp [judgeConfigured])
  refine judged _ (StaleAt.judgeFeedback k fun other => ?_)
  have other : k.val ≠ (lensAxis j).val := fun same => other (Fin.ext same)
  simpa [StaleAt, Pose.isStale, other] using h j

/-! ## Arrivals and expiries -/

namespace StaleAgrees

theorem cycTaken (h : StaleAgrees s) (a b) : StaleAgrees (cycTaken a s b) := by
  cases b with
  | poseUnit => exact staleAgrees_poseArrival s
  | cueMatcher =>
    unfold Machine.cycTaken
    dsimp only
    split
    · exact h.of_same (sameStale_cueArrival _ _)
    · exact h
  | stopSupervisor | takeRecorder | takePlayer => exact h.of_same (by constructor <;> simp [Machine.cycTaken])

theorem dispatchCyc (h : StaleAgrees s) (parked order f a) : StaleAgrees (dispatchCyc parked order f a s) := by
  refine Kept.foldl (fun b hu => hu.cycTaken a b) _ ?_
  split
  · exact h
  · exact h.of_same (by constructor <;> simp)

theorem cycArrives (h : StaleAgrees s) (parked order f) : StaleAgrees (cycArrives parked order f s) := by
  unfold Machine.cycArrives
  dsimp only
  refine dispatchCyc (h.of_same ?_) _ _ _ _
  split <;> constructor <;> simp

theorem fbkTaken (h : StaleAgrees s) (e k x b) : StaleAgrees (fbkTaken e k x s b) := by
  cases b with
  | poseUnit => exact h.poseFeedback _ _ _
  | lensUnit =>
    unfold Machine.fbkTaken
    dsimp only
    split
    · exact h.of_same (sameStale_lensFeedback _ _ _)
    · exact h
  | stopSupervisor | takePlayer => exact h.of_same (by constructor <;> simp [Machine.fbkTaken])

theorem fbkArrives (h : StaleAgrees s) (o f) : StaleAgrees (fbkArrives o f s) := by
  unfold Machine.fbkArrives
  dsimp only
  split
  · exact h.of_same (by constructor <;> simp)
  next k _ =>
    have taken : StaleAgrees ((poseBeforeStop (completeOrder fbkBlocks o.blocks)).foldl
        (Machine.fbkTaken o.envelopeFirst k (fbkFields f.payload)) s) := Kept.foldl (fun b hu => hu.fbkTaken _ _ _ b) _ h
    exact taken.of_same (by constructor <;> simp)

theorem frameBytes (h : StaleAgrees s) (cyc fbk p bs cut) : StaleAgrees (frameBytes cyc fbk p bs cut s) := by
  have bad : ∀ {u : State} why, StaleAgrees u → StaleAgrees (badFrameAt p why u) :=
    fun _ hu => hu.of_same (by constructor <;> simp)
  have good : ∀ {u : State} f, StaleAgrees u → StaleAgrees (goodFrame cyc fbk p f u) := by
    intro u f hu
    have counted : StaleAgrees (linkGood p u) := hu.of_same (by constructor <;> simp)
    unfold Machine.goodFrame
    dsimp only
    split
    · exact counted.cycArrives _ _ _
    · exact counted.of_same (sameStale_setArrives _ _)
    · exact counted.fbkArrives _ _
    all_goals exact hu.of_same (by constructor <;> simp)
  have received : ∀ bs, StaleAgrees (s.withSpine (s.spine.setReceiving p bs)) := fun _ => h
  unfold Machine.frameBytes
  dsimp only
  split
  · exact h
  · split
    · exact good _ (received _)
    · exact bad _ (received _)
    · split
      · exact bad _ (received _)
      · exact received _

theorem pace (h : StaleAgrees s) : StaleAgrees (pace s) := h

theorem originate (h : StaleAgrees s) (o) : StaleAgrees (originate o s) := by
  have counted : ∀ c, StaleAgrees (s.withCycle c) := fun _ => h
  exact (counted _).dispatchCyc _ _ _ _

theorem syncExpiry (h : StaleAgrees s) (o) : StaleAgrees (syncExpiry o s) := by
  unfold Machine.syncExpiry
  split
  · exact ((h.of_same (by constructor <;> simp)).originate o).pace
  · exact h

theorem substituteExpiry (h : StaleAgrees s) (o) : StaleAgrees (substituteExpiry o s) := by
  unfold Machine.substituteExpiry
  split
  · exact (h.originate o).pace
  · exact h

end StaleAgrees

/-! ## Commands -/

theorem stale_execute {row : Instr} {run : Request → State → Answer} (answer : AnswersHold StaleAgrees run)
    (h : StaleAgrees s) : StaleAgrees (execute row run s) := by
  obtain ⟨-, same⟩ | ⟨r, s', taken, replied⟩ := execute_cases row run s
  · rwa [same]
  · have took : StaleAgrees s' := by
      obtain ⟨rest, -, rfl⟩ := (takes_of_takeRequest taken).head
      exact h
    rw [replied]
    exact (answer r s' took).of_same (by constructor <;> simp)

theorem stale_exec {i : Instr} (h : StaleAgrees s) (next : exec i s = .next t) : StaleAgrees t := by
  have out : ∀ {u}, Machine.exec i s = .next u → StaleAgrees u → StaleAgrees t := fun eq hu => by
    obtain rfl := Host.Outcome.next.inj (eq.symm.trans next)
    exact hu
  have outside (pose : Block.pose ∉ mayChange i) (lens : Block.lens ∉ mayChange i) : StaleAgrees t := by
    have leaves := ((leaves_iff _ _ _).mp (leaves_exec _ s t next)).2
    have pose : t.pose = s.pose := leaves .pose pose
    have lens : t.lens = s.lens := leaves .lens lens
    exact h.of_same ⟨by rw [pose], by rw [pose], by rw [lens]⟩
  cases i with
  | coldReset =>
    refine out rfl (staleAgrees_iff.mpr fun i => ?_)
    simp [StaleAt, Pose.isStale, coldReset, State.reset, FlagSet.empty, AxisRecord.initial]
  | warmReset =>
    refine out rfl ?_
    split
    · refine staleAgrees_iff.mpr fun i => ?_
      simp [StaleAt, Pose.isStale, warmReset, Pose.warm, Lens.warm, FlagSet.empty, PoseEntry.initial]
    · exact h
  | cycReceived now =>
    have received : StaleAgrees (s.withTimebase (max s.timebase now)) := h
    exact out rfl (received.frameBytes _ _ _ _ _)
  | setReceived | fbkReceived | mgtReceived | rpyReceived | badFrame => exact out rfl (h.frameBytes _ _ _ _ _)
  | syncTimerExpiry => exact out rfl (h.syncExpiry _)
  | substituteTimerExpiry => exact out rfl (h.substituteExpiry _)
  | readLensStatus => exact out rfl (stale_execute (runRead_holds fun _ _ hu => hu) h)
  | writeAxis =>
    refine out rfl (stale_execute (runWrite_holds fun k r hu => ?_) h)
    unfold writeAxis
    split_ifs
    any_goals exact hu
    exact hu.putAxis k r
  | writeGeometry =>
    refine out rfl (stale_execute (runWrite_holds fun _ g hu => ?_) h)
    unfold writeGeometry
    split_ifs
    any_goals exact hu
    exact hu.of_same (by constructor <;> simp)
  | writeSubject =>
    refine out rfl (stale_execute (runWrite_holds fun _ _ hu => ?_) h)
    unfold writeSubject
    split <;> exact hu
  | curveLoad =>
    refine out rfl (stale_execute (withBody_holds fun _ hu => ?_) h)
    unfold runCurveLoad
    dsimp only
    repeat' split
    all_goals exact hu
  | followOn =>
    exact out rfl (stale_execute (withBody_holds fun _ hu => hu.of_same (by constructor <;> simp)) h)
  | followOff =>
    refine out rfl (stale_execute (withoutBody_holds fun hu => ?_) h)
    unfold runFollowOff
    dsimp only [accept]
    split <;> exact hu
  | _ => exact outside (by simp [mayChange, replyBlocks, causeBlocks]) (by simp [mayChange, replyBlocks, causeBlocks])

/-- Settles O59: every change of a port, a queue, an age, the scale, a ring or a slot keeps to its bounds, the page moves
keep the form of the memory, and STALE is judged again wherever its conditions change. -/
theorem portsAndRangesAgreeAfterEveryStep : Obligations.PortsAndRangesAgreeAfterEveryStep := by
  refine ⟨ports_sideKept.keptByStep, ⟨memory_keeps.commands.keptByStep memory_keeps.keptBeside.rearms, ?_,
    ages_sideKept.keptByStep, scale_sideKept.keptByStep, rings_commands.keptByStep rings_keptBeside.rearms,
    slots_sideKept.keptByStep⟩, ?_⟩
  · intro s t hs next
    rw [queuesBounded_iff] at hs ⊢
    exact queues_commands.keptByStep (queues_keptBeside 4).rearms s t hs next
  · intro s t hs next
    unfold step at next
    split at next
    · obtain rfl := Host.Outcome.next.inj next
      exact hs
    · exact stale_exec (s := s.withPending _) (by exact hs) next

end Sys2Proof.Machine
end

section
/-! PROOFS. The takes, those who use them, and the lengths of their chains (R144 to R158). -/

namespace Sys2Proof.Machine

variable {s t : State} {c : Prop}

/-! ## What the samples of a take ask of its record -/

/-- The states of a take that has samples. -/
def TakeState.hasSamples (st : TakeState) : Prop := st ∈ [TakeState.recording, .loading, .closed]

/-- A take that has samples has a mask, the pages that they fill, and while it is open to a LOAD full pages only. -/
structure Take.Fits (r : Take) : Prop where
  masked : r.state.hasSamples → FlagSet.isEmpty r.mask = false
  pages : r.state.hasSamples → r.chain.length = (r.samples + r.perPage - 1) / r.perPage
  full : r.state = .loading → r.isOpen = true → r.samples = r.chain.length * r.perPage

theorem Take.fits_of_state {r : Take} (other : ¬ r.state.hasSamples) : r.Fits :=
  ⟨fun h => absurd h other, fun h => absurd h other, fun h => absurd (by simp [TakeState.hasSamples, h]) other⟩

theorem chainsAgree_iff :
    ChainsAgree s ↔ (s.recorder.state ≠ .idle → FlagSet.isEmpty s.recorder.mask = false)
      ∧ ∀ k : Fin 32, s.store.takes[k].Fits :=
  ⟨fun h => ⟨h.armed, fun k => ⟨h.masked k, h.pages k, h.full k⟩⟩,
    fun ⟨armed, fits⟩ => ⟨armed, fun k => (fits k).masked, fun k => (fits k).pages, fun k => (fits k).full⟩⟩

/-- A nonempty mask gives a page room for samples. -/
theorem Take.perPage_pos {r : Take} (masked : FlagSet.isEmpty r.mask = false) : 0 < r.perPage := by
  have few : r.mask.size ≤ 10 := (List.length_filter_le _ _).trans (List.length_finRange).le
  have some : 0 < r.mask.size := List.length_pos_iff.mpr (by simpa [FlagSet.isEmpty] using masked)
  exact Nat.div_pos (few.trans (by decide)) some

/-- A take of which only the state, the end reason, the lock or the opening changed, to a state that asks no more. -/
theorem Take.Fits.of_same {r r' : Take} (h : r.Fits) (state : r'.state.hasSamples → r.state.hasSamples)
    (mask : r'.mask = r.mask) (samples : r'.samples = r.samples) (chain : r'.chain = r.chain)
    (full : r'.state = .loading → r'.isOpen = true → r.state = .loading ∧ r.isOpen = true) : r'.Fits := by
  have perPage : r'.perPage = r.perPage := by rw [perPage, perPage, mask]
  refine ⟨fun has => mask ▸ h.masked (state has), fun has => ?_, fun loading opened => ?_⟩
  · rw [chain, samples, perPage]
    exact h.pages (state has)
  · obtain ⟨loading, opened⟩ := full loading opened
    rw [chain, samples, perPage]
    exact h.full loading opened

/-- A take without samples or pages. -/
theorem Take.Fits.of_bare {r : Take} (masked : FlagSet.isEmpty r.mask = false) (samples : r.samples = 0)
    (chain : r.chain = []) : r.Fits := by
  have room := Take.perPage_pos masked
  refine ⟨fun _ => masked, fun _ => ?_, fun _ _ => by simp [samples, chain]⟩
  rw [samples, chain, Nat.zero_add, Nat.div_eq_of_lt (by omega), List.length_nil]

/-! ## The invariant, with the chains or without -/

/-- A take that is neither EMPTY nor RECORDING is not the recorder's. -/
theorem TakesAgree.not_held (h : TakesAgree s) {k : Fin 32} (empty : s.store.takes[k].state ≠ .empty)
    (recording : s.store.takes[k].state ≠ .recording) : s.recorder.take ≠ some k := by
  intro held
  cases state : s.recorder.state with
  | idle => simp [h.idle.mp state] at held
  | armed => exact empty (h.armed k state held)
  | recording => exact recording (h.recording k state held)

/-- A take that is not CLOSED is not the player's. -/
theorem TakesAgree.not_played (h : TakesAgree s) {k : Fin 32} (state : s.store.takes[k].state ≠ .closed) :
    s.player.take ≠ some k :=
  fun played => state (h.playing k played)

/-- A take that is not ERASING is not that of the ERASE under way. -/
theorem TakesAgree.not_erased (h : TakesAgree s) {k : Fin 32} (state : s.store.takes[k].state ≠ .erasing) (e : Erasure)
    (erasing : s.mgmt.erasing = some e) : e.take ≠ k := by
  rintro rfl
  exact state (h.erasing e erasing)

/-- The takes agree with those who use them, and under `c` the chains with their samples: the two statements of O58 are
its instances. -/
structure TakesRule (c : Prop) (s : State) : Prop where
  agree : TakesAgree s
  chains : c → ChainsAgree s

namespace TakesRule

/-- The records that the invariant speaks of are the same in two states. -/
theorem of_same (h : TakesRule c s) (takes : t.store.takes = s.store.takes) (recorder : t.recorder.state = s.recorder.state)
    (held : t.recorder.take = s.recorder.take) (mask : t.recorder.mask = s.recorder.mask)
    (player : t.player.state = s.player.state) (played : t.player.take = s.player.take)
    (playerMask : t.player.mask = s.player.mask) (erasing : t.mgmt.erasing = s.mgmt.erasing) : TakesRule c t := by
  obtain ⟨⟨bare, idle, armed, recording, playing, eras, playerIdle, unmasked⟩, chains⟩ := h
  refine ⟨⟨?_, ?_, ?_, ?_, ?_, ?_, ?_, ?_⟩, fun hc => ?_⟩
  case refine_9 =>
    have := chainsAgree_iff.mp (chains hc)
    exact chainsAgree_iff.mpr (by simpa only [takes, recorder, mask] using this)
  all_goals simp only [takes, recorder, held, player, played, playerMask, erasing]
  all_goals assumption

/-- Another record for a take, which keeps its state unless nobody refers to the take. -/
theorem setTake (h : TakesRule c s) {k : Fin 32} {r : Take} {st : Store} (takes : st.takes = s.store.takes.set k.val r)
    (bare : r.state = .empty → r.chain = [] ∧ r.locked = false)
    (free : r.state = s.store.takes[k].state
      ∨ (s.recorder.take ≠ some k ∧ s.player.take ≠ some k ∧ ∀ e, s.mgmt.erasing = some e → e.take ≠ k))
    (fits : c → s.store.takes[k].Fits → r.Fits) : TakesRule c (s.withStore st) := by
  have got : ∀ j : Fin 32, st.takes[j] = if k = j then r else s.store.takes[j] := fun j => by
    simp [takes, Vector.getElem_set, Fin.ext_iff]
  have kept : ∀ (j : Fin 32) (x : TakeState), s.store.takes[j].state = x →
      (s.recorder.take = some j ∨ s.player.take = some j ∨ ∃ e, s.mgmt.erasing = some e ∧ e.take = j) →
        st.takes[j].state = x := by
    intro j x state used
    rw [got]
    split
    next same =>
      subst same
      obtain stands | ⟨notHeld, notPlayed, notErasing⟩ := free
      · rwa [stands]
      · obtain held | played | ⟨e, erasing, take⟩ := used
        · exact absurd held notHeld
        · exact absurd played notPlayed
        · exact absurd take (notErasing e erasing)
    next => exact state
  obtain ⟨agree, chains⟩ := h
  refine ⟨⟨fun j => ?_, agree.idle, fun j armed held => kept j _ (agree.armed j armed held) (.inl held),
    fun j recording held => kept j _ (agree.recording j recording held) (.inl held),
    fun j played => kept j _ (agree.playing j played) (.inr (.inl played)),
    fun e erasing => kept e.take _ (agree.erasing e erasing) (.inr (.inr ⟨e, erasing, rfl⟩)), agree.playerIdle,
    agree.unmasked⟩, fun hc => ?_⟩
  · simp only [State.withStore_store, got]
    split
    · exact bare
    · exact agree.bare j
  · obtain ⟨armed, all⟩ := chainsAgree_iff.mp (chains hc)
    refine chainsAgree_iff.mpr ⟨armed, fun j => ?_⟩
    simp only [State.withStore_store, got]
    split
    next same => exact fits hc (all k)
    next => exact all j

/-- Another recorder, which holds a take that its state lets it hold. -/
theorem withRecorder (h : TakesRule c s) {r : Recorder} (idle : r.state = .idle ↔ r.take = none)
    (armed : ∀ k, r.state = .armed → r.take = some k → s.store.takes[(k : Fin 32)].state = .empty)
    (recording : ∀ k, r.state = .recording → r.take = some k → s.store.takes[(k : Fin 32)].state = .recording)
    (masked : c → r.state ≠ .idle → FlagSet.isEmpty r.mask = false) : TakesRule c (s.withRecorder r) := by
  obtain ⟨agree, chains⟩ := h
  refine ⟨⟨agree.bare, idle, armed, recording, agree.playing, agree.erasing, agree.playerIdle, agree.unmasked⟩,
    fun hc => chainsAgree_iff.mpr ⟨masked hc, (chainsAgree_iff.mp (chains hc)).2⟩⟩

theorem dropRecorder (h : TakesRule c s) : TakesRule c (s.withRecorder Recorder.initial) :=
  h.withRecorder (by simp [Recorder.initial]) (by simp [Recorder.initial]) (by simp [Recorder.initial])
    (by simp [Recorder.initial])

/-- Another player, which references a CLOSED take unless it is IDLE. -/
theorem withPlayer (h : TakesRule c s) {p : Player} (playing : ∀ k, p.take = some k → s.store.takes[(k : Fin 32)].state = .closed)
    (idle : p.state = .idle ↔ p.take = none) (unmasked : p.state = .idle → p.mask = FlagSet.empty 10) :
    TakesRule c (s.withPlayer p) := by
  obtain ⟨agree, chains⟩ := h
  exact ⟨⟨agree.bare, agree.idle, agree.armed, agree.recording, playing, agree.erasing, idle, unmasked⟩,
    fun hc => have same := (chainsAgree_iff (s := s)).mp (chains hc); chainsAgree_iff.mpr same⟩

theorem dropPlayer (h : TakesRule c s) : TakesRule c (s.withPlayer Player.initial) :=
  h.withPlayer (by simp [Player.initial]) (by simp [Player.initial]) (by simp [Player.initial])

/-- Another ERASE under way, of a take that is ERASING, or none. -/
theorem withErasing (h : TakesRule c s) {m : Mgmt}
    (erasing : ∀ e, m.erasing = some e → s.store.takes[e.take].state = .erasing) : TakesRule c (s.withMgmt m) := by
  obtain ⟨agree, chains⟩ := h
  exact ⟨⟨agree.bare, agree.idle, agree.armed, agree.recording, agree.playing, erasing, agree.playerIdle, agree.unmasked⟩,
    fun hc => have same := (chainsAgree_iff (s := s)).mp (chains hc); chainsAgree_iff.mpr same⟩

end TakesRule

/-! ## A sample written (R146, R158) -/

/-- The pages that one sample more fills: one more exactly where the samples before it filled theirs. -/
theorem pages_succ {n p : Nat} (room : 0 < p) :
    (n + 1 + p - 1) / p = (n + p - 1) / p + if n % p = 0 then 1 else 0 := by
  rw [show n + 1 + p - 1 = n + p by omega, Nat.add_div_right n room]
  conv_rhs => rw [← Nat.div_add_mod n p]
  rw [Nat.add_sub_assoc room, Nat.add_assoc, Nat.mul_add_div room, Nat.mul_add_mod, Nat.mod_mod, Nat.add_assoc]
  congr 1
  have small := Nat.mod_lt n room
  split
  next zero => rw [zero, Nat.div_eq_of_lt (by omega)]
  next more => exact (Nat.div_eq_of_lt_le (k := 1) (by omega) (by omega)).symm

/-- A sample more: at the first place of a page the chain has a page more. -/
theorem Take.Fits.sampled {r : Take} (h : r.Fits) (has : r.state = .recording) (page : Nat) :
    ({ r with samples := r.samples + 1, chain := if r.samples % r.perPage = 0 then r.chain ++ [page] else r.chain } :
      Take).Fits := by
  have hasSamples : r.state.hasSamples := by simp [has, TakeState.hasSamples]
  have masked := h.masked hasSamples
  have room := Take.perPage_pos masked
  refine ⟨fun _ => masked, fun _ => ?_, fun loading => by simp [has] at loading⟩
  refine Eq.trans ?_ (pages_succ room).symm
  rw [← h.pages hasSamples]
  dsimp only
  split
  · exact List.length_append
  · rfl

/-- What a sample written leaves of the takes: the take has a sample more, and a page more where the sample is the first
of one. -/
theorem writeSample_takes {st st' : Store} {k : Fin 32} {values : List Int} (written : st.writeSample k values = some st') :
    ∃ page, st'.takes = st.takes.set k.val
      { st.takes[k] with
        samples := st.takes[k].samples + 1
        chain := if st.takes[k].samples % st.takes[k].perPage = 0 then st.takes[k].chain ++ [page]
          else st.takes[k].chain } := by
  unfold Store.writeSample at written
  dsimp only at written
  split at written
  next first =>
    obtain ⟨st1, allocated, rfl⟩ := Option.map_eq_some_iff.mp written
    unfold Store.allocate at allocated
    split at allocated
    · cases allocated
    next p rest _ =>
      obtain rfl := Option.some.inj allocated
      exact ⟨p, by rw [if_pos first]; simp [Store.setTake]⟩
  next later =>
    obtain rfl := Option.some.inj written
    exact ⟨0, by rw [if_neg later]; rfl⟩

/-! ## A page loaded (R150) -/

/-- What LOAD_PAGE leaves of the takes: the take has a page and the samples of it more. -/
theorem loadPage_takes {st st' : Store} {b : PageBody} {page : Nat} {rest : List Nat}
    (allocated : st.allocate b.take = some st') (free : st.free = page :: rest) :
    (st'.fillPage b page).takes = st.takes.set b.take.val
      { st.takes[b.take] with
        chain := st.takes[b.take].chain ++ [page], samples := st.takes[b.take].samples + b.samples
        isOpen := decide (b.samples = st.takes[b.take].perPage) } := by
  unfold Store.allocate at allocated
  rw [free] at allocated
  obtain rfl := Option.some.inj allocated
  simp [Store.fillPage, Store.setTake]
  rfl

/-- A page more, with samples for it alone, of an open take. -/
theorem Take.Fits.loaded {r : Take} (h : r.Fits) (loading : r.state = .loading) {b : PageBody}
    (valid : pageInvalid r b = false) (page : Nat) :
    ({ r with
      chain := r.chain ++ [page], samples := r.samples + b.samples, isOpen := decide (b.samples = r.perPage) } :
      Take).Fits := by
  simp only [pageInvalid, within, Bool.or_eq_false_iff, Bool.not_eq_false', bne_eq_false_iff_eq] at valid
  obtain ⟨⟨opened, room⟩, -⟩ := valid
  have hasSamples : r.state.hasSamples := by simp [loading, TakeState.hasSamples]
  have masked := h.masked hasSamples
  have full := h.full loading opened
  have bounds : 1 ≤ b.samples ∧ b.samples ≤ r.perPage := of_decide_eq_true room
  refine ⟨fun _ => masked, fun _ => ?_, fun _ isOpen => ?_⟩
  · show (r.chain ++ [page]).length = (r.samples + b.samples + r.perPage - 1) / r.perPage
    rw [List.length_append, List.length_singleton, full, Nat.add_assoc, Nat.add_sub_assoc (by omega), Nat.mul_comm,
      Nat.mul_add_div (by omega)]
    exact congrArg _ (Nat.div_eq_of_lt_le (by omega) (by omega)).symm
  · have whole : b.samples = r.perPage := of_decide_eq_true isOpen
    show r.samples + b.samples = (r.chain ++ [page]).length * r.perPage
    rw [List.length_append, List.length_singleton, full, whole, Nat.succ_mul]

/-! ## The shared operations -/

theorem takes_keptBeside (c) : KeptBeside (TakesRule c) where
  stop _ hs := hs.of_same rfl rfl rfl rfl rfl rfl rfl rfl
  other same hs := hs.of_same (by rw [same.store]) (by rw [same.recorder]) (by rw [same.recorder]) (by rw [same.recorder])
    (by rw [same.player]) (by rw [same.player]) (by rw [same.player]) (by rw [same.mgmt])
  occur _ _ hs := hs.of_same (by simp) (by simp) (by simp) (by simp) (by simp) (by simp) (by simp) (by simp)
  brake _ hs := hs.of_same (by simp) (by simp) (by simp) (by simp) (by simp) (by simp) (by simp) (by simp)
  decel _ _ hs := hs.of_same (by simp) (by simp) (by simp) (by simp) (by simp) (by simp) (by simp) (by simp)
  forward _ _ hs := hs.of_same (by simp) (by simp) (by simp) (by simp) (by simp) (by simp) (by simp) (by simp)
  queueD _ _ hs := hs.of_same (by simp) (by simp) (by simp) (by simp) (by simp) (by simp) (by simp) (by simp)
  closes {s k} e held hs := by
    have dropped := hs.dropRecorder
    unfold closeRecorder
    split
    next k' recording held' =>
      have state := hs.agree.recording k' recording held'
      refine dropped.setTake rfl (by simp) (.inr ⟨by simp [Recorder.initial],
        hs.agree.not_played (by simp only [state]; decide), hs.agree.not_erased (by simp only [state]; decide)⟩)
        fun _ fits => Take.Fits.of_same fits (fun _ => ?_) rfl rfl rfl (by simp)
      rw [show (s.withRecorder Recorder.initial).store.takes[k'].state = _ from state]
      simp [TakeState.hasSamples]
    next => exact dropped
  sample {s k st} recording held written hs := by
    obtain ⟨page, takes⟩ := writeSample_takes written
    have state := hs.agree.recording k recording held
    exact hs.setTake takes (fun empty => absurd (state.symm.trans empty) (by decide)) (.inl rfl) fun _ fits => fits.sampled state page
  recorder r state take mask hs := hs.of_same rfl state take mask rfl rfl rfl rfl
  starts {s k} cy tc armed held hs := by
    have empty := hs.agree.armed k armed held
    obtain ⟨chain, -⟩ := hs.agree.bare k empty
    have free := hs.dropRecorder.setTake (k := k) (r := startedTake s.recorder tc s.store.takes[k]) (st := s.store.setTake k _)
      rfl (by simp [startedTake]) (.inr ⟨by simp [Recorder.initial],
        hs.agree.not_played (by simp only [empty]; decide), hs.agree.not_erased (by simp only [empty]; decide)⟩)
      fun hc _ => Take.Fits.of_bare ((hs.chains hc).armed (by simp [armed])) rfl chain
    refine free.withRecorder (by simp [held]) (by simp) (fun j _ taken => ?_)
      fun hc _ => (hs.chains hc).armed (by simp [armed])
    obtain rfl := Option.some.inj (held.symm.trans taken)
    simp [Store.setTake, startedTake]
  arms r k idle empty armed held masked hs := by
    refine hs.withRecorder (by simp [armed, held]) (fun j _ taken => ?_) (by simp [armed]) fun _ _ => masked
    obtain rfl := Option.some.inj (held.symm.trans taken)
    exact empty
  playerState new busy play hs := by
    refine hs.withPlayer hs.agree.playing ?_ (fun idle => absurd idle play)
    have := hs.agree.playerIdle
    simp_all
  player p state take mask _ hs := hs.of_same rfl rfl rfl rfl state take mask rfl
  ring _ _ _ hs := hs.of_same rfl rfl rfl rfl rfl rfl rfl rfl
  cued k idle closed hs := by
    refine hs.withPlayer (fun j taken => ?_) (by simp [cuedPlayer]) (by simp [cuedPlayer])
    obtain rfl := Option.some.inj taken
    exact closed
  resumed {s} suspended hs := by
    refine hs.withPlayer hs.agree.playing ?_ (by simp [resumedPlayer])
    have := hs.agree.playerIdle
    simp_all [resumedPlayer]
  released hs := hs.dropPlayer
  counts _ _ hs := hs.of_same rfl rfl rfl rfl rfl rfl rfl rfl
  forwards _ _ _ hs := hs.of_same rfl rfl rfl rfl rfl rfl rfl rfl
  forgets hs := hs.of_same rfl rfl rfl rfl rfl rfl rfl rfl
  reloads _ hs := hs.of_same rfl rfl rfl rfl rfl rfl rfl rfl

/-! ## The requests of the take store, and the resets -/

namespace TakesRule

/-- The end of an ERASE leaves its take EMPTY. -/
theorem endErase (h : TakesRule c s) (tag) {k : Fin 32} (chain : s.store.takes[k].chain = [])
    (held : s.recorder.take ≠ some k) (played : s.player.take ≠ some k) : TakesRule c (endErase tag k s) := by
  have idle : TakesRule c (s.withMgmt { s.mgmt with erasing := none }) := h.withErasing (by simp)
  have emptied := idle.setTake (k := k) (st := s.store.emptyTake k) rfl (fun _ => ⟨chain, rfl⟩)
    (.inr ⟨held, played, by simp⟩) fun _ _ => Take.fits_of_state (by simp [TakeState.hasSamples, Take.initial])
  exact emptied.of_same (by simp [Machine.endErase]) (by simp [Machine.endErase]) (by simp [Machine.endErase])
    (by simp [Machine.endErase]) (by simp [Machine.endErase]) (by simp [Machine.endErase]) (by simp [Machine.endErase])
    (by simp [Machine.endErase])

theorem beginErase (h : TakesRule c s) (tag) {k : Fin 32} (accepted : eraseRefused k s = false) :
    TakesRule c (beginErase tag k s) := by
  simp only [eraseRefused, Bool.or_eq_false_iff, bne_eq_false_iff_eq, beq_eq_false_iff_ne] at accepted
  obtain ⟨⟨⟨-, closed⟩, held⟩, played⟩ := accepted
  unfold Machine.beginErase
  split
  next chain => exact h.endErase tag chain held played
  next =>
    have erasing := h.setTake (k := k) (r := { s.store.takes[k] with state := .erasing }) (st := s.store.setTake k _) rfl
      (by simp) (.inr ⟨held, played, h.agree.not_erased (by simp only [closed]; decide)⟩)
      fun _ _ => Take.fits_of_state (by simp [TakeState.hasSamples])
    refine erasing.withErasing fun e under => ?_
    obtain rfl := Option.some.inj under
    simp [Store.setTake]

theorem pageReturn (h : TakesRule c s) : TakesRule c (pageReturn s) := by
  unfold Machine.pageReturn
  split
  · exact h
  next e erasing =>
    have state := h.agree.erasing e erasing
    have held := h.agree.not_held (k := e.take) (by simp only [state]; decide) (by simp only [state]; decide)
    have returned : TakesRule c (s.withStore (s.store.returnPage e.take)) := by
      unfold Store.returnPage
      split
      · exact h
      · refine h.setTake (k := e.take) rfl (fun empty => absurd (state.symm.trans empty) (by decide)) (.inl rfl)
          fun _ _ => Take.fits_of_state ?_
        simp only [state, TakeState.hasSamples]
        decide
    dsimp only
    split
    next chain => exact returned.endErase e.tag chain held (h.agree.not_played (by simp only [state]; decide))
    next => exact returned

/-- The end of a recording, or of no recording. -/
theorem closeRecorder (h : TakesRule c s) (e) : TakesRule c (closeRecorder e s) := by
  cases held : s.recorder.take with
  | none =>
    unfold Machine.closeRecorder
    rw [held]
    split
    next taken => cases taken
    next => exact h.dropRecorder
  | some k => exact (takes_keptBeside c).closes e held h

/-- The erasure of a LOADING take that nobody refers to. -/
theorem eraseLoadings (h : TakesRule c s) (held : s.recorder.take = none) (played : s.player.take = none)
    (erasing : s.mgmt.erasing = none) : TakesRule c (s.withStore (eraseLoadings s.store)) := by
  have start : TakesRule c (s.withStore s.store) := h
  unfold Machine.eraseLoadings
  generalize s.store = st at start ⊢
  generalize List.finRange 32 = ks
  induction ks generalizing st with
  | nil => exact start
  | cons k rest ih =>
    refine ih _ ?_
    unfold Store.eraseLoading
    split
    · exact start.setTake rfl (fun _ => ⟨rfl, rfl⟩) (.inr ⟨by simp [held], by simp [played], by simp [erasing]⟩)
        fun _ _ => Take.fits_of_state (by simp [TakeState.hasSamples, Take.initial])
    · exact start

theorem warmReset (h : TakesRule c s) : TakesRule c (warmReset s) := by
  have closed := ((h.closeRecorder .interrupted).dropPlayer).withErasing
    (m := { s.mgmt with requests := [], replies := [], erasing := none, reset := .none }) (by simp)
  have erased := closed.eraseLoadings (by simp [Recorder.initial]) rfl rfl
  refine erased.of_same ?_ ?_ ?_ ?_ ?_ ?_ ?_ ?_ <;> simp [Machine.warmReset, Machine.eraseLoadings]

end TakesRule

theorem takesRule_reset (c) : TakesRule c State.reset := by
  refine ⟨⟨fun k _ => ?_, ?_, ?_, ?_, ?_, ?_, ?_, ?_⟩, fun _ => chainsAgree_iff.mpr ⟨?_, fun k => Take.fits_of_state ?_⟩⟩
  all_goals simp [State.reset, Take.initial, Recorder.initial, Player.initial, TakeState.hasSamples]

theorem takes_commands (c) : CommandsKeep (TakesRule c) (TakesRule c) where
  kept := (takes_keptBeside c).kept
  running := (takes_keptBeside c).kept
  fbk := KeptPose.fbkArrives ⟨(takes_keptBeside c).kept, fun _ _ hs => hs.of_same rfl rfl rfl rfl rfl rfl rfl rfl,
    fun _ _ hs => hs.of_same rfl rfl rfl rfl rfl rfl rfl rfl⟩
  offerRequest r hs := by
    unfold offerRequest
    split <;> exact hs.of_same rfl rfl rfl rfl rfl rfl rfl rfl
  completeU {s} hs := by
    unfold completeU
    split
    · exact hs
    · dsimp only
      split <;>
      exact hs.of_same (by simp) (by simp) (by simp) (by simp) (by simp) (by simp) (by simp) (by simp)
  completeD {s} hs := by
    unfold completeD
    split
    · exact hs
    · exact hs.of_same (by simp) (by simp) (by simp) (by simp) (by simp) (by simp) (by simp) (by simp)
  takes taken hs := by
    obtain ⟨rest, -, rfl⟩ := taken.head
    exact hs.of_same rfl rfl rfl rfl rfl rfl rfl rfl
  reply _ _ _ hs := hs.of_same (by simp) (by simp) (by simp) (by simp) (by simp) (by simp) (by simp) (by simp)
  resetReply _ hs := hs.of_same (by simp) (by simp) (by simp) (by simp) (by simp) (by simp) (by simp) (by simp)
  mgmt _ _ hs := hs.of_same rfl rfl rfl rfl rfl rfl rfl rfl
  axis _ _ hs := hs.of_same rfl rfl rfl rfl rfl rfl rfl rfl
  gesture _ hs := hs.of_same rfl rfl rfl rfl rfl rfl rfl rfl
  park _ := (takes_keptBeside c).park
  testing hs := hs.of_same rfl rfl rfl rfl rfl rfl rfl rfl
  lockTake k hs := by
    unfold runLockTake
    split
    next locks =>
      refine hs.setTake rfl (fun empty => ?_) (.inl rfl) fun _ fits => fits.of_same id rfl rfl rfl fun l o => ⟨l, o⟩
      obtain recording | closed := locks
      · exact absurd (recording.symm.trans empty) (by decide)
      · exact absurd (closed.symm.trans empty) (by decide)
    next => exact hs
  unlockTake {s} k hs := hs.setTake rfl (fun empty => ⟨(hs.agree.bare k empty).1, rfl⟩) (.inl rfl)
    fun _ fits => fits.of_same id rfl rfl rfl fun l o => ⟨l, o⟩
  loadBegin {s} b masked hs := by
    unfold runLoadBegin
    dsimp only
    split
    next => exact hs
    next free =>
      simp only [not_or, not_not] at free
      obtain ⟨empty, held⟩ := free
      exact hs.setTake rfl (by simp) (.inr ⟨held, hs.agree.not_played (by simp only [empty]; decide),
        hs.agree.not_erased (by simp only [empty]; decide)⟩)
        fun _ _ => Take.Fits.of_bare masked rfl (hs.agree.bare _ empty).1
  loadPage {s} b hs := by
    unfold runLoadPage
    dsimp only
    split
    next => exact hs
    next loading =>
      rw [not_not] at loading
      split
      next => exact hs
      next valid =>
        split
        next page rest st free allocated =>
          exact hs.setTake (loadPage_takes allocated free) (fun empty => absurd (loading.symm.trans empty) (by decide))
            (.inl rfl) fun _ fits => fits.loaded loading (by simpa using valid) page
        next => exact hs
  loadEnd k hs := by
    unfold runLoadEnd
    dsimp only
    split
    next loading =>
      exact hs.setTake rfl (by simp) (.inr ⟨hs.agree.not_held (by simp only [loading]; decide)
        (by simp only [loading]; decide), hs.agree.not_played (by simp only [loading]; decide),
        hs.agree.not_erased (by simp only [loading]; decide)⟩) fun _ fits =>
        fits.of_same (fun _ => by simp only [loading, TakeState.hasSamples]; decide) rfl rfl rfl (by simp)
    next => exact hs
  beginErase tag t accepted hs := hs.beginErase tag accepted
  pageReturn hs := hs.pageReturn
  coldReset _ := (takesRule_reset c).of_same rfl rfl rfl rfl rfl rfl rfl rfl
  warmReset hs := hs.warmReset

/-- Settles O58: every change of a take, of the recorder, of the player and of an ERASE leaves them in agreement, and every
sample and page of a take counts. -/
theorem takesAgreeAfterEveryStep : Obligations.TakesAgreeAfterEveryStep := by
  refine ⟨fun s t hs next => ?_, fun s t hs next => ?_⟩
  · exact ((takes_commands False).keptByStep (takes_keptBeside False).rearms s t ⟨hs, False.elim⟩ next).agree
  · have kept := (takes_commands True).keptByStep (takes_keptBeside True).rearms s t ⟨hs.1, fun _ => hs.2⟩ next
    exact ⟨kept.agree, kept.chains trivial⟩

end Sys2Proof.Machine
end

section
/-! PROOFS. Steps, and the bytes of frames (R1 to R3, R19, R20). -/

namespace Sys2Proof.Machine

/-! ## Steps -/

/-- Settles O1: the front command is what a step executes. -/
theorem stepRunsTheFrontCommand : Obligations.StepRunsTheFrontCommand := by
  intro s i rest waiting
  rw [step, waiting]

/-- The commands of those timers of a list that are due. -/
theorem mem_flatMap_whenDue {now : Nat} {timers : List (Timer × Instr)} (apart : (timers.map (·.2)).Nodup)
    {x : Timer × Instr} (mem : x ∈ timers) :
    x.2 ∈ timers.flatMap (fun y => whenDue now y.1 y.2) ↔ x.1.due now = true := by
  simp only [List.mem_flatMap, whenDue]
  constructor
  · rintro ⟨y, memY, command⟩
    split at command
    next due =>
      obtain rfl := List.inj_on_of_nodup_map apart mem memY (List.mem_singleton.mp command)
      exact due
    next => cases command
  · exact fun due => ⟨x, mem, by simp [due]⟩

theorem flatMap_whenDue_sublist (now : Nat) (timers : List (Timer × Instr)) :
    (timers.flatMap fun y => whenDue now y.1 y.2).Sublist (timers.map (·.2)) := by
  induction timers with
  | nil => exact List.Sublist.refl _
  | cons y rest ih =>
    rw [List.flatMap_cons, List.map_cons]
    unfold whenDue
    split
    · exact ih.cons_cons _
    · exact ih.cons _

theorem Timer.due_iff (t : Timer) (now : Nat) :
    t.due now = true ↔ ∃ start duration : Nat, t = .running start duration ∧ start + duration ≤ now := by
  cases t <;> simp [Timer.due]

/-- Settles O2: on an empty queue a step is a tick, and a tick queues the commands of the timers that are due. -/
theorem stepOnAnEmptyQueue : Obligations.StepOnAnEmptyQueue := by
  refine ⟨fun s empty => ?_, fun s => ⟨Config.arrivalOrder s.timebase, ?_⟩⟩
  · rw [step, empty]
    simp [tick, empty, State.withTimebase, State.withPending]
  · intro timers
    have due : dueCommands s = timers.flatMap fun y => whenDue s.timebase y.1 y.2 := by
      have lines : List.finRange 4 = [0, 1, 2, 3] := rfl
      simp [dueCommands, timers, lines]
    rw [due]
    refine ⟨flatMap_whenDue_sublist _ _, fun x mem => ?_⟩
    rw [mem_flatMap_whenDue (by simp [timers]) mem, Timer.due_iff]

/-! ## Bytes and the numbers they spell (R19) -/

theorem beNat_cons (b : Byte) (bs : List Byte) : beNat (b :: bs) = b.toNat * 256 ^ bs.length + beNat bs := by
  have := beNat_append [b] bs
  simpa [beNat] using this

theorem beNat_lt (bs : List Byte) : beNat bs < 256 ^ bs.length := by
  induction bs with
  | nil => simp [beNat]
  | cons b rest ih =>
    rw [beNat_cons, List.length_cons, Nat.pow_succ]
    have := b.isLt
    nlinarith

/-- Bytes of one length that spell one number are the same. -/
theorem beNat_inj {as bs : List Byte} (length : as.length = bs.length) (same : beNat as = beNat bs) : as = bs := by
  induction as generalizing bs with
  | nil => exact (List.length_eq_zero_iff.mp length.symm).symm
  | cons a as ih =>
    cases bs with
    | nil => cases length
    | cons b bs =>
      have lengths : as.length = bs.length := Nat.succ.inj length
      have restA := beNat_lt as
      have restB := beNat_lt bs
      rw [beNat_cons, beNat_cons, lengths] at same
      rw [lengths] at restA
      have room : 0 < 256 ^ bs.length := Nat.pow_pos (by decide)
      have heads : a.toNat = b.toNat := by
        have := congrArg (· / 256 ^ bs.length) same
        simpa [Nat.mul_comm _ (256 ^ bs.length), Nat.mul_add_div room, Nat.div_eq_of_lt restA, Nat.div_eq_of_lt restB]
          using this
      rw [heads] at same
      rw [BitVec.eq_of_toNat_eq heads, ih lengths (Nat.add_left_cancel same)]

/-- Bytes are the bytes of the number that they spell. -/
theorem natBE_beNat {bs : List Byte} {n : Nat} (length : bs.length = n) : natBE n (beNat bs) = bs := by
  subst length
  exact beNat_inj (natBE_length _ _) (by rw [beNat_natBE, Nat.mod_eq_of_lt (beNat_lt bs)])

/-! ## Frames and their bytes (R1 to R3, R20) -/

theorem FrameKind.ofCode_code (k : FrameKind) : FrameKind.ofCode k.code = some k := by
  cases k <;> rfl

theorem FrameKind.code_of_ofCode {b : Byte} {k : FrameKind} (h : FrameKind.ofCode b = some k) : k.code = b := by
  unfold FrameKind.ofCode at h
  split_ifs at h
  all_goals
    obtain rfl := Option.some.inj h
    exact Eq.symm ‹_›

/-- A length that agrees with a kind is one that the decoder takes. -/
theorem FrameKind.length_le {k : FrameKind} {n : Nat} (agrees : k.lengthAgrees n = true) : n ≤ 274 := by
  cases k <;> simp only [FrameKind.lengthAgrees, beq_iff_eq, decide_eq_true_eq] at agrees <;> omega

theorem Frame.covered_length (f : Frame) : f.covered.length = f.payload.length + 4 := by
  simp only [Frame.covered, List.length_cons, List.length_append, natBE_length]
  omega

/-- What a transmitter sends of a frame is judged as that frame. -/
theorem judge_wire {p : Port} {f : Frame} (arrives : f.kind.arrivesOn p = true)
    (agrees : f.kind.lengthAgrees f.payload.length = true) : judge p f.wire = .good f := by
  have body : f.wire.take (f.wire.length - 2) = f.covered := by simp [Frame.wire]
  have check : f.wire.drop (f.wire.length - 2) = natBE 2 (crc16 f.covered).toNat := by simp [Frame.wire]
  have payload : f.covered.drop 4 = f.payload := by simp [Frame.covered, natBE]
  have checked : beNat (natBE 2 (crc16 f.covered).toNat) = (crc16 f.covered).toNat := by
    rw [beNat_natBE]
    exact Nat.mod_eq_of_lt (crc16 f.covered).isLt
  unfold judge
  dsimp only
  rw [body, check, checked, payload, f.covered_length]
  simp [Frame.covered, FrameKind.ofCode_code, arrives, agrees]

theorem receive_wire {p : Port} {f : Frame} (arrives : f.kind.arrivesOn p = true)
    (agrees : f.kind.lengthAgrees f.payload.length = true) : receive p f.wire = .judged (.good f) := by
  have small := FrameKind.length_le agrees
  have announced : beNat ((f.wire.drop 2).take 2) = f.payload.length := by
    have : (f.wire.drop 2).take 2 = natBE 2 f.payload.length := by simp [Frame.wire, Frame.covered, natBE]
    rw [this, beNat_natBE]
    omega
  unfold receive
  rw [announced, if_neg (by rw [Frame.wire_length]; omega)]
  dsimp only
  rw [if_neg (by omega), if_neg (by rw [Frame.wire_length]; omega),
    List.take_of_length_le (by rw [Frame.wire_length]; omega), judge_wire arrives agrees]

/-- A frame that is judged good: the bytes judged are those of the frame. -/
theorem wire_of_judge {p : Port} {bytes : List Byte} {f : Frame} (long : 6 ≤ bytes.length)
    (announced : beNat ((bytes.drop 2).take 2) = bytes.length - 6) (good : judge p bytes = .good f) :
    bytes = f.wire ∧ f.kind.arrivesOn p = true ∧ f.kind.lengthAgrees f.payload.length = true := by
  match bytes with
  | a :: b :: c :: d :: rest =>
    simp only [List.length_cons] at long announced
    have split : (a :: b :: c :: d :: rest).length - 2 = rest.length - 2 + 4 := by
      simp only [List.length_cons]
      omega
    unfold judge at good
    rw [split] at good
    simp only [List.take_succ_cons, List.drop_succ_cons, List.headD_cons, List.drop_zero,
      List.length_cons] at good
    split at good
    · cases good
    next checked =>
      split at good
      · cases good
      next k code =>
        split_ifs at good with arrives agrees
        obtain rfl := Judged.good.inj good
        have payload : (rest.take (rest.length - 2)).length = rest.length - 2 := by simp
        have lengthBytes : natBE 2 (rest.length - 2) = [c, d] := by
          have count : beNat [c, d] = rest.length - 2 := by simpa using announced
          rw [← count]
          exact natBE_beNat rfl
        have covered : (⟨k, b, rest.take (rest.length - 2)⟩ : Frame).covered =
            a :: b :: c :: d :: rest.take (rest.length - 2) := by
          rw [Frame.covered, payload, lengthBytes, FrameKind.code_of_ofCode code]
          rfl
        refine ⟨?_, by simpa using arrives, by simpa [payload] using agrees⟩
        rw [Frame.wire, covered, not_not.mp checked, natBE_beNat (by rw [List.length_drop]; omega)]
        simp

theorem wire_of_receive {p : Port} {bytes : List Byte} {f : Frame} (good : receive p bytes = .judged (.good f)) :
    bytes.take (f.payload.length + 6) = f.wire ∧ f.kind.arrivesOn p = true
      ∧ f.kind.lengthAgrees f.payload.length = true := by
  unfold receive at good
  dsimp only at good
  split at good
  · cases good
  split at good
  · cases Reception.judged.inj good
  split at good
  · cases good
  next whole =>
    have length : (bytes.take (6 + beNat ((bytes.drop 2).take 2))).length = 6 + beNat ((bytes.drop 2).take 2) := by
      rw [List.length_take]
      omega
    have announced : ((bytes.take (6 + beNat ((bytes.drop 2).take 2))).drop 2).take 2 = (bytes.drop 2).take 2 := by
      rw [List.drop_take, List.take_take]
      congr 1
      omega
    obtain ⟨wire, arrives, agrees⟩ := wire_of_judge (by omega) (by rw [announced]; omega) (Reception.judged.inj good)
    refine ⟨?_, arrives, agrees⟩
    rw [← wire]
    congr 1
    rw [wire, f.wire_length] at length
    omega

/-- Settles O4: a frame and its bytes determine each other. -/
theorem framesAndBytesAgree : Obligations.FramesAndBytesAgree :=
  fun _ => ⟨fun _ arrives agrees => receive_wire arrives agrees, fun _ _ good => wire_of_receive good⟩

/-! ## The receive decoders (R1, R18) -/

/-- Bytes that wait act with those that follow as one frame. -/
theorem frameBytes_collected (cyc fbk p bytes cut) {s : State} (decodes : p = .d → s.inTest = false) :
    frameBytes cyc fbk p bytes cut s =
      frameBytes cyc fbk p (s.spine.receiving p ++ bytes) cut (s.withSpine (s.spine.setReceiving p [])) := by
  have silent : ¬ (p = .d ∧ s.inTest = true) := fun ⟨d, test⟩ => by simp [decodes d] at test
  have silent' : ¬ (p = .d ∧ (s.withSpine (s.spine.setReceiving p [])).inTest = true) := silent
  unfold frameBytes
  rw [if_neg silent, if_neg silent']
  cases p <;> rfl

/-- Bytes that complete no frame wait. -/
theorem frameBytes_incomplete (cyc fbk p bytes) {s : State} (decodes : p = .d → s.inTest = false)
    (incomplete : receive p (s.spine.receiving p ++ bytes) = .incomplete) :
    frameBytes cyc fbk p bytes false s = s.withSpine (s.spine.setReceiving p (s.spine.receiving p ++ bytes)) := by
  have silent : ¬ (p = .d ∧ s.inTest = true) := fun ⟨d, test⟩ => by simp [decodes d] at test
  unfold frameBytes
  rw [if_neg silent]
  dsimp only
  rw [incomplete]
  simp

theorem frameBytes_inTest (cyc fbk bytes cut) {s : State} (test : s.inTest = true) :
    frameBytes cyc fbk .d bytes cut s = s := if_pos ⟨rfl, test⟩

/-- Settles O5: the decoder of a port takes what waits there with the bytes that follow, and in TEST that of D takes
nothing. -/
theorem frameBytesAreCollected : Obligations.FrameBytesAreCollected := by
  refine ⟨fun s bytes now order => ?_, fun s bytes order cut => ⟨fun other => ?_, fun test => ?_⟩⟩
  · have collected : ∀ cyc cut (u : State), frameBytes cyc defaultFbkOrder .u bytes cut u = _ := fun cyc cut u =>
      frameBytes_collected cyc defaultFbkOrder .u bytes cut (s := u) (by simp)
    exact ⟨congrArg Host.Outcome.next (collected _ _ (s.withTimebase _)), congrArg Host.Outcome.next (collected _ _ s),
      congrArg Host.Outcome.next (collected _ _ s), fun _ => congrArg Host.Outcome.next (collected _ _ s),
      fun incomplete => congrArg Host.Outcome.next (frameBytes_incomplete _ _ .u bytes (by simp) incomplete)⟩
  · have decodes : Port.d = .d → s.inTest = false := fun _ => by simpa [State.inTest] using other
    exact ⟨congrArg Host.Outcome.next (frameBytes_collected _ _ .d bytes _ decodes),
      congrArg Host.Outcome.next (frameBytes_collected _ _ .d bytes _ decodes),
      congrArg Host.Outcome.next (frameBytes_collected _ _ .d bytes _ decodes),
      fun incomplete => congrArg Host.Outcome.next (frameBytes_incomplete _ _ .d bytes decodes incomplete)⟩
  · have test : s.inTest = true := by simpa [State.inTest] using test
    exact ⟨congrArg Host.Outcome.next (frameBytes_inTest _ _ _ _ test),
      congrArg Host.Outcome.next (frameBytes_inTest _ _ _ _ test),
      congrArg Host.Outcome.next (frameBytes_inTest _ _ _ _ test)⟩

end Sys2Proof.Machine
end

section
/-! PROOFS. Records as bytes, and read back (R19, R21, R23). -/

namespace Sys2Proof.Machine

/-! ## Fields at the front of a body -/

theorem readNat_append {n x : Nat} (fits : x < 256 ^ n) (rest : List Byte) :
    readNat n (natBE n x ++ rest) = some (x, rest) := by
  unfold readNat
  rw [if_neg (by simp)]
  simp [beNat_natBE, Nat.mod_eq_of_lt fits]

/-- A signed number that n bytes hold reads back from them. -/
theorem beInt_intBE {n : Nat} {x : Int} (low : -(256 ^ n : Nat) ≤ 2 * x) (high : 2 * x < (256 ^ n : Nat)) :
    beInt (intBE n x) = x := by
  have width : (2 : Int) ^ (8 * n) = ((256 ^ n : Nat) : Int) := by
    rw [pow_mul]
    norm_num
  have room : 0 < 256 ^ n := Nat.pow_pos (by decide)
  unfold beInt
  simp only [intBE_length]
  unfold intBE
  rw [beNat_natBE, width]
  have lt : x % ((256 ^ n : Nat) : Int) < (256 ^ n : Nat) := Int.emod_lt_of_pos _ (by exact_mod_cast room)
  have nonneg : 0 ≤ x % ((256 ^ n : Nat) : Int) := Int.emod_nonneg _ (by exact_mod_cast room.ne')
  rw [Nat.mod_eq_of_lt (by omega)]
  by_cases sign : 0 ≤ x
  · have same : x % ((256 ^ n : Nat) : Int) = x := Int.emod_eq_of_lt sign (by omega)
    rw [same, if_pos (by omega)]
    omega
  · have same : x % ((256 ^ n : Nat) : Int) = x + (256 ^ n : Nat) := by
      rw [← Int.add_emod_right]
      exact Int.emod_eq_of_lt (by omega) (by omega)
    rw [same, if_neg (by omega)]
    omega

theorem readInt_append {n : Nat} {x : Int} (low : -(256 ^ n : Nat) ≤ 2 * x) (high : 2 * x < (256 ^ n : Nat))
    (rest : List Byte) : readInt n (intBE n x ++ rest) = some (x, rest) := by
  unfold readInt
  rw [if_neg (by simp)]
  simp [beInt_intBE low high]

theorem readFlag_append (b : Bool) (rest : List Byte) : readFlag (flagByte b :: rest) = some (b, rest) := by
  cases b <;> rfl

/-- A field that the record has, behind its presence byte. -/
theorem readPresent_append {α : Type} {has : Bool} {n : Nat} {value : List Byte → α} {absent a : α} {bs : List Byte}
    (length : bs.length = n) (present : has = true → value bs = a) (missing : has = false → absent = a)
    (rest : List Byte) :
    readPresent has n value absent (optionBytes n (if has then some bs else none) ++ rest) = some (a, rest) := by
  subst length
  cases has with
  | true => simp [readPresent, optionBytes, present rfl]
  | false => simp [readPresent, optionBytes, missing rfl]

/-- One field read, then the rest of the body. -/
theorem bind_read {β γ : Type} {o : Option β} {f : β → Option γ} {b : β} {r : Option γ} (read : o = some b)
    (rest : f b = r) : (o >>= f) = r := by
  subst read
  exact rest

/-! ## Sets as numbers (R21, R23) -/

/-- The number whose bits are the members of a set. -/
def setNumber {n : Nat} (s : FlagSet n) : Nat := s.members.foldl (fun acc i => acc + 2 ^ i.val) 0

theorem FlagSet.mem_members {n : Nat} (s : FlagSet n) (k : Fin n) : k ∈ s.members ↔ s[k] = true := by
  simp [FlagSet.members]

/-- The bits of the number are the numbers of the members. -/
theorem testBit_setNumber_iff {n : Nat} (s : FlagSet n) (i : Nat) :
    (setNumber s).testBit i = true ↔ ∃ k ∈ s.members, k.val = i := by
  have sorted : (s.members.map Fin.val).SortedLT := by
    refine List.Pairwise.sortedLT (List.Pairwise.map _ (fun _ _ => id) ?_)
    exact (List.pairwise_lt_finRange n).filter _
  have sum : setNumber s = ((s.members.map Fin.val).map (2 ^ ·)).sum := by
    unfold setNumber
    generalize s.members = l
    have from_ : ∀ acc, l.foldl (fun acc i => acc + 2 ^ i.val) acc = acc + ((l.map Fin.val).map (2 ^ ·)).sum := by
      induction l with
      | nil => simp
      | cons k rest ih => intro acc; simp [ih, Nat.add_assoc]
    simpa using from_ 0
  rw [← Nat.mem_bitIndices, sum, Nat.bitIndices_sum_map_two_pow sorted, List.mem_map]

theorem testBit_setNumber {n : Nat} (s : FlagSet n) (k : Fin n) : (setNumber s).testBit k.val = s[k] := by
  rw [Bool.eq_iff_iff, testBit_setNumber_iff, ← FlagSet.mem_members]
  exact ⟨fun ⟨j, mem, same⟩ => Fin.ext same ▸ mem, fun mem => ⟨k, mem, rfl⟩⟩

theorem setNumber_lt {n : Nat} (s : FlagSet n) : setNumber s < 2 ^ n := by
  refine Nat.lt_pow_two_of_testBit _ fun i large => Bool.eq_false_iff.mpr fun set => ?_
  obtain ⟨k, -, rfl⟩ := (testBit_setNumber_iff s i).mp set
  exact absurd k.isLt (by omega)

theorem ofFn_testBit_setNumber {n : Nat} (s : FlagSet n) :
    (Vector.ofFn fun k : Fin n => (setNumber s).testBit k.val) = s := by
  ext i h
  simpa using testBit_setNumber s ⟨i, h⟩

theorem readAxisSet_append (s : FlagSet 10) (rest : List Byte) : readAxisSet (axisSetBytes s ++ rest) = some (s, rest) := by
  have small : setNumber s < 2 ^ 10 := setNumber_lt s
  have bytes : axisSetBytes s = natBE 2 (setNumber s) := rfl
  rw [readAxisSet, bytes, readNat_append (by omega)]
  dsimp only
  rw [if_pos small, ofFn_testBit_setNumber]

theorem readSourceSet_append (s : FlagSet 17) (rest : List Byte) :
    readSourceSet (sourceSetBytes s ++ rest) = some (s, rest) := by
  have small : setNumber s < 2 ^ 17 := setNumber_lt s
  have bytes : sourceSetBytes s = natBE 3 (setNumber s) := rfl
  rw [readSourceSet, bytes, readNat_append (by omega)]
  dsimp only
  rw [if_pos small, ofFn_testBit_setNumber]

/-! ## Records written (R40 to R43, R61, R118, R121, R122, R136, R178, R194, R35) -/

theorem within_iff {lo hi n : Nat} : within lo hi n = true ↔ lo ≤ n ∧ n ≤ hi := decide_eq_true_iff

theorem readStopConfig_bytes {c : StopConfig} (inRange : stopConfigInRange c = true) :
    readStopConfig (stopConfigBytes c) = some c := by
  simp only [stopConfigInRange, Bool.and_eq_true, within_iff] at inRange
  obtain ⟨⟨⟨⟨⟨⟨sync, ramp⟩, discrepancy⟩, factor⟩, linkUp⟩, hold⟩, high⟩ := inRange
  unfold readStopConfig stopConfigBytes
  rw [← List.append_nil (natBE 1 c.highError)]
  simp (disch := omega) only [List.append_assoc, readNat_append, Option.bind_eq_bind, Option.bind_some]
  rfl

theorem readGesture_bytes {g : Gesture} (inRange : gestureInRange g = true) :
    readGesture (gestureBytes g) = some g := by
  simp only [gestureInRange, Bool.and_eq_true, within_iff] at inRange
  obtain ⟨⟨pulse, gap⟩, confirm⟩ := inRange
  have kind : ∀ rest, readName [GestureKind.single, .double] (g.kind.code :: rest) = some (g.kind, rest) := by
    cases g.kind <;> exact fun _ => rfl
  unfold readGesture gestureBytes
  rw [← List.append_nil (natBE 1 g.confirm)]
  simp (disch := omega) only [List.append_assoc, List.cons_append, List.nil_append, kind, readNat_append, Option.bind_eq_bind,
    Option.bind_some]
  rfl

theorem readThresholds_bytes {t : Thresholds} (eu : t.erroredU ≤ 65535) (uu : t.unknownU ≤ 65535) (du : t.dropsU ≤ 65535)
    (ed : t.erroredD ≤ 65535) (ud : t.unknownD ≤ 65535) (dd : t.dropsD ≤ 65535) (seq : t.sequence ≤ 65535) :
    readThresholds (thresholdsBytes t) = some t := by
  unfold readThresholds thresholdsBytes
  rw [← List.append_nil (natBE 2 t.sequence)]
  simp (disch := omega) only [List.append_assoc, readNat_append, Option.bind_eq_bind, Option.bind_some]
  rfl

/-- A signed number of three or four bytes reads back. -/
theorem readInt_append' {n : Nat} {x : Int} (fits : 2 * x.natAbs < 256 ^ n) (rest : List Byte) :
    readInt n (intBE n x ++ rest) = some (x, rest) :=
  readInt_append (by omega) (by omega) rest

theorem readInt4_append {x : Int} (fits : isI32 x) (rest : List Byte) : readInt 4 (intBE 4 x ++ rest) = some (x, rest) := by
  obtain ⟨low, high⟩ := fits
  exact readInt_append (by norm_num; omega) (by norm_num; omega) rest

theorem readGeometry_bytes {g : Geometry} (inRange : geometryInRange g = true) :
    readGeometry (geometryBytes g) = some g := by
  simp only [geometryInRange, Bool.and_eq_true, within_iff, decide_eq_true_eq] at inRange
  obtain ⟨⟨⟨⟨x, y⟩, z⟩, drop⟩, radius⟩ := inRange
  unfold readGeometry readPoint geometryBytes
  rw [← List.append_nil (natBE 2 g.headRadius)]
  simp (disch := omega) only [List.append_assoc, List.cons_append, List.nil_append, readFlag_append, readNat_append, readInt_append',
    Option.bind_eq_bind, Option.bind_some]
  rfl

theorem readSubject_bytes {p : Subject} (point : p.point.isI32) (limit : p.trimLimit ≤ 10000) :
    readSubject (subjectBytes p) = some p := by
  obtain ⟨x, y, z⟩ := point
  unfold readSubject readPoint subjectBytes pointBytes
  rw [← List.append_nil (natBE 2 p.trimLimit)]
  simp (disch := first | omega | assumption) only [List.append_assoc, readNat_append, readInt4_append,
    Option.bind_eq_bind, Option.bind_some]
  rfl

theorem readNoticeConfig_bytes {c : NoticeConfig} (low : 1 ≤ c.order) (high : c.order ≤ 6) :
    readNoticeConfig (noticeConfigBytes c) = some c := by
  obtain ⟨order, safety, motion, link, global, express, wake⟩ := c
  dsimp only at low high
  have read : ∀ e : Nat, e ≤ expressNone → finOf 17 e = express →
      readNoticeConfig (natBE 1 order ++ [flagByte safety, flagByte motion, flagByte link, flagByte global] ++ natBE 1 e
        ++ sourceSetBytes wake) = some ⟨order, safety, motion, link, global, express, wake⟩ := by
    intro e few code
    unfold expressNone at few
    unfold readNoticeConfig
    rw [← List.append_nil (sourceSetBytes wake)]
    simp (disch := omega) only [List.append_assoc, List.cons_append, List.nil_append, readFlag_append, readNat_append,
      readSourceSet_append, Option.bind_eq_bind, Option.bind_some]
    rw [if_neg (by unfold expressNone; omega), if_neg (by omega), code]
    rfl
  cases express with
  | none => exact read expressNone (Nat.le_refl _) rfl
  | some k => exact read k.val (by unfold expressNone; omega) (by simp [finOf])

/-- Items laid out one after another read back, where each does. -/
theorem readMany_flatMap {α : Type} {item : List Byte → Option (α × List Byte)} {bytes : α → List Byte}
    (reads : ∀ a rest, item (bytes a ++ rest) = some (a, rest)) (l : List α) (rest : List Byte) :
    readMany item l.length (l.flatMap bytes ++ rest) = some (l, rest) := by
  induction l with
  | nil => rfl
  | cons a l ih =>
    rw [List.length_cons, readMany, List.flatMap_cons, List.append_assoc, reads]
    simp [ih]

theorem readLampMap_bytes (m : Vector PatternPair 9) : readLampMap (lampMapBytes m) = some m := by
  have pattern : ∀ (p : Pattern) rest, readName patterns (p.code :: rest) = some (p, rest) := by
    intro p rest
    cases p <;> rfl
  have pair : ∀ (p : PatternPair) rest, readPair ([p.amber.code, p.red.code] ++ rest) = some (p, rest) := by
    intro p rest
    simp [readPair, pattern]
  have table : tableOf 9 ⟨.off, .off⟩ m.toList = m := by
    ext i h
    all_goals simp [tableOf]
  have read := readMany_flatMap pair m.toList []
  rw [Vector.length_toList, List.append_nil] at read
  simp [readLampMap, lampMapBytes, read, finished, table]

theorem readZone_bytes {z : Zone} (lo : z.box.lo.isI32) (hi : z.box.hi.isI32) (band : z.band ≤ 5000)
    (factor : z.factor ≤ 16) (crew : z.presence.isSome = true ↔ z.kind = .crew) :
    ∃ b, readZone (zoneBytes z) = some b ∧ b.stored = z := by
  obtain ⟨enabled, kind, ⟨⟨x0, y0, z0⟩, ⟨x1, y1, z1⟩⟩, presence, band', factor'⟩ := z
  obtain ⟨hx0, hy0, hz0⟩ := lo
  obtain ⟨hx1, hy1, hz1⟩ := hi
  dsimp only at band factor crew
  have readKind : ∀ rest, readName [ZoneKind.obstacle, .crew, .soft] (kind.code :: rest) = some (kind, rest) := by
    cases kind <;> exact fun _ => rfl
  obtain ⟨n, readPresence, stored⟩ : ∃ n, (∀ rest, readPresent (kind == .crew) 1 beNat 0
      (absentOr 1 (fun i : Fin 8 => natBE 1 i.val) presence ++ rest) = some (n, rest))
      ∧ (if kind = .crew then finOf 8 n else none) = presence := by
    cases presence with
    | none =>
      have other : kind ≠ .crew := by simpa using crew
      exact ⟨0, fun rest => by simp [readPresent, absentOr, optionBytes, beq_eq_false_iff_ne.mpr other], if_neg other⟩
    | some i =>
      have same : kind = .crew := by simpa using crew
      have number : beNat (natBE 1 i.val) = i.val := by
        rw [beNat_natBE]
        omega
      exact ⟨i.val, fun rest => by simp [readPresent, absentOr, optionBytes, same, number], by simp [same, finOf]⟩
  refine ⟨⟨⟨enabled, kind, ⟨⟨x0, y0, z0⟩, ⟨x1, y1, z1⟩⟩, none, band', factor'⟩, n⟩, ?_, ?_⟩
  · unfold readZone zoneBytes
    rw [← List.append_nil (natBE 1 factor')]
    simp only [List.append_assoc, List.cons_append, List.nil_append]
    refine bind_read (readFlag_append _ _) (bind_read (readKind _) (bind_read (readInt4_append hx0 _) ?_))
    refine bind_read (readInt4_append hx1 _) (bind_read (readInt4_append hy0 _) (bind_read (readInt4_append hy1 _) ?_))
    refine bind_read (readInt4_append hz0 _) (bind_read (readInt4_append hz1 _) (bind_read (readPresence _) ?_))
    exact bind_read (readNat_append (by omega) _) (bind_read (readNat_append (by omega) _) rfl)
  · simp only [ZoneBody.stored, stored]

/-- An unsigned field that the record of an axis may not have. -/
theorem readPresent_nat {has : Bool} {n x : Nat} (fits : has = true → x < 256 ^ n) (missing : has = false → x = 0)
    (rest : List Byte) :
    readPresent has n beNat 0 (optionBytes n (if has then some (natBE n x) else none) ++ rest) = some (x, rest) :=
  readPresent_append (natBE_length _ _) (fun has => by rw [beNat_natBE, Nat.mod_eq_of_lt (fits has)])
    (fun has => (missing has).symm) rest

theorem readPresent_int {has : Bool} {n : Nat} {x : Int} (fits : has = true → 2 * x.natAbs < 256 ^ n)
    (missing : has = false → x = 0) (rest : List Byte) :
    readPresent has n beInt 0 (optionBytes n (if has then some (intBE n x) else none) ++ rest) = some (x, rest) :=
  readPresent_append (intBE_length _ _)
    (fun has => by have := fits has; exact beInt_intBE (by omega) (by omega)) (fun has => (missing has).symm) rest

theorem readAxisRecord_bytes {k : Axis} {r : AxisRecord} (inRange : axisInRange k r = true) (fits : r.fits k) :
    readAxisRecord k (axisRecordBytes k r) = some r := by
  simp only [axisInRange, Bool.and_eq_true, Bool.or_eq_true, Bool.not_eq_true', within_iff, decide_eq_true_eq] at inRange
  obtain ⟨⟨⟨⟨⟨⟨⟨-, step⟩, motion⟩, age⟩, threshold⟩, lag⟩, tolerance⟩, unit⟩ := inRange
  obtain ⟨low, high, noMotion, noUnit⟩ := fits
  have deceleration := readPresent_nat (has := hasMotionFields k) (n := 2) (x := r.deceleration)
    (fun has => by simp only [has, Bool.true_eq_false, false_or] at motion; omega) fun has => (noMotion has).1
  have standstill := readPresent_nat (has := hasMotionFields k) (n := 2) (x := r.standstill)
    (fun has => by simp only [has, Bool.true_eq_false, false_or] at motion; omega) fun has => (noMotion has).2.1
  have cueScale := readPresent_nat (has := hasMotionFields k) (n := 1) (x := r.cueScale)
    (fun has => by simp only [has, Bool.true_eq_false, false_or] at motion; omega) fun has => (noMotion has).2.2
  have multiplier := readPresent_int (has := hasUnitFields k) (n := 3) (x := r.unitMultiplier)
    (fun has => by simp only [has, Bool.true_eq_false, false_or] at unit; omega) fun has => (noUnit has).1
  have shift := readPresent_nat (has := hasUnitFields k) (n := 1) (x := r.unitShift)
    (fun has => by simp only [has, Bool.true_eq_false, false_or] at unit; omega) fun has => (noUnit has).2
  unfold readAxisRecord axisRecordBytes
  dsimp only
  simp only [natBE_length, intBE_length]
  rw [← List.append_nil (optionBytes 1 (if hasUnitFields k = true then _ else _))]
  simp only [List.append_assoc, List.cons_append, List.nil_append]
  refine bind_read (readFlag_append _ _) (bind_read (readInt4_append low _) (bind_read (readInt4_append high _) ?_))
  refine bind_read (readNat_append (by omega) _) (bind_read (deceleration _) (bind_read (standstill _) ?_))
  refine bind_read (readNat_append (by omega) _) (bind_read (readNat_append (by omega) _) ?_)
  refine bind_read (readNat_append (by omega) _) (bind_read (readNat_append (by omega) _) ?_)
  exact bind_read (cueScale _) (bind_read (multiplier _) (bind_read (shift _) rfl))

theorem readFin_append {n : Nat} (small : n ≤ 256) (k : Fin n) (rest : List Byte) :
    readFin n (u8 k.val :: rest) = some (k, rest) := by
  have : (u8 k.val).toNat = k.val := by
    simp only [u8, BitVec.toNat_ofNat]
    omega
  simp [readFin, finOf, this]

theorem readAction_bytes (a : CueAction)
    (masked : ∀ (t : Fin 32) (m : FlagSet 10), a = .recStart t m → ∃ k : Fin 10, m[k] = true) :
    readAction (a.code :: a.arguments) = some (a, []) := by
  cases a with
  | recStart t m =>
    obtain ⟨k, member⟩ := masked t m rfl
    have nonempty : FlagSet.isEmpty m = false := by
      simpa [FlagSet.isEmpty] using List.ne_nil_of_mem ((FlagSet.mem_members m k).mpr member)
    have set : readAxisSet (axisSetBytes m) = some (m, []) := by simpa using readAxisSet_append m []
    simp [readAction, CueAction.code, CueAction.arguments, readFin_append, readMask, set, nonempty]
  | cue t => simp [readAction, CueAction.code, CueAction.arguments, readFin_append]
  | subject k => simp [readAction, CueAction.code, CueAction.arguments, readFin_append]
  | recStop | go | release | mark => rfl

theorem readCueSlot_bytes {pattern : List Byte} (some_ : 1 ≤ pattern.length) (few : pattern.length ≤ 8) (a : CueAction)
    (masked : ∀ (t : Fin 32) (m : FlagSet 10), a = .recStart t m → ∃ k : Fin 10, m[k] = true) :
    readCueSlot (u8 pattern.length :: pattern ++ a.code :: a.arguments) = some ⟨pattern, some a, 0⟩ := by
  have length : ∀ rest, readNat 1 (u8 pattern.length :: rest) = some (pattern.length, rest) := by
    intro rest
    have : u8 pattern.length :: rest = natBE 1 pattern.length ++ rest := by simp [natBE, u8]
    rw [this, readNat_append (by omega)]
  unfold readCueSlot
  rw [List.cons_append, length]
  simp only [Option.bind_eq_bind, Option.bind_some]
  rw [if_neg (by omega), if_neg (by omega), if_neg (by simp), List.drop_left, List.take_left, readAction_bytes a masked]
  rfl

theorem readCueSlot_disabled (rest : List Byte) : readCueSlot (0x00#8 :: rest) = some ⟨[], none, 0⟩ := by
  have length : readNat 1 (0x00#8 :: rest) = some (0, rest) := readNat_append (n := 1) (x := 0) (by omega) rest
  unfold readCueSlot
  rw [length]
  rfl

/-! ## Payloads (R19, R21) -/

theorem ofNat_beNat_natBE (c : CycleNo) : BitVec.ofNat 16 (beNat (natBE 2 c.toNat)) = c := by
  have small : c.toNat < 256 ^ 2 := c.isLt
  rw [beNat_natBE, Nat.mod_eq_of_lt small, BitVec.ofNat_toNat, BitVec.setWidth_eq]

theorem cycFields_cycPayload {x : CycFields} (few : x.cues.length ≤ 4) : cycFields (cycPayload x) = x := by
  obtain ⟨cycle, timecode, grip, console, cues⟩ := x
  have number := ofNat_beNat_natBE cycle
  simp only [cycFields, cycPayload, natBE] at number ⊢
  have flags : ∀ a b : Bool, (BitVec.ofNat 8 ((if a then 1 else 0) + (if b then 2 else 0))).getLsbD 0 = a
      ∧ (BitVec.ofNat 8 ((if a then 1 else 0) + (if b then 2 else 0))).getLsbD 1 = b := by decide
  have count : min (BitVec.ofNat 8 cues.length).toNat 4 = cues.length := by
    simp only [BitVec.toNat_ofNat]
    dsimp only at few
    omega
  have listed : ((cues ++ List.replicate 4 0).take 4).take cues.length = cues := by
    rw [List.take_take, Nat.min_eq_left few, List.take_left]
  rw [CycFields.mk.injEq]
  refine ⟨number, rfl, (flags grip console).1, (flags grip console).2, ?_⟩
  show ((cues ++ List.replicate 4 0).take 4).take (min (BitVec.ofNat 8 cues.length).toNat 4) = cues
  rw [count, listed]

theorem setFields_setFrame (k : Axis) (cycle : CycleNo) {v : Int} (fits : isI32 v) :
    setFields (setFrame k cycle v).payload = ⟨cycle, basisCounts, v⟩ := by
  obtain ⟨low, high⟩ := fits
  have value : beInt (intBE 4 v) = v := beInt_intBE (by norm_num; omega) (by norm_num; omega)
  have parts : ∀ (a : List Byte) (b : Byte) (c : List Byte), a.length = 2 → c.length = 4 →
      (a ++ [b] ++ c).take 2 = a ∧ (a ++ [b] ++ c).getD 2 0 = b ∧ ((a ++ [b] ++ c).drop 3).take 4 = c := by
    intro a b c la lc
    match a with
    | [a0, a1] => simp [← lc]
  obtain ⟨first, second, third⟩ := parts (natBE 2 cycle.toNat) basisCounts (intBE 4 v) (natBE_length _ _)
    (intBE_length _ _)
  simp only [setFields, setFrame, first, second, third, value, ofNat_beNat_natBE]

theorem axisOf_setFrame (k : Axis) (cycle : CycleNo) (v : Int) : axisOf (setFrame k cycle v).address = some k := by
  have : (BitVec.ofNat 8 k.val).toNat = k.val := by
    simp only [BitVec.toNat_ofNat]
    omega
  simp [axisOf, setFrame, this]

/-- Settles O6: each field reads back from its bytes, whatever stands behind it. -/
theorem recordsReadBack : Obligations.RecordsReadBack := by
  refine ⟨⟨fun x few => cycFields_cycPayload few, fun k cycle v low high =>
    ⟨setFields_setFrame k cycle ⟨low, high⟩, axisOf_setFrame k cycle v, by simp [setFrame, FrameKind.lengthAgrees]⟩⟩,
    fun k r inRange fits => readAxisRecord_bytes inRange fits, fun g inRange => readGeometry_bytes inRange,
    fun z lo hi band factor crew => readZone_bytes lo hi band factor crew, fun c inRange => readStopConfig_bytes inRange,
    fun g inRange => readGesture_bytes inRange, readLampMap_bytes, fun p point limit => readSubject_bytes point limit,
    fun c low high => readNoticeConfig_bytes low high, fun pattern a some_ few masked => readCueSlot_bytes some_ few a masked,
    readCueSlot_disabled, fun t eu uu du ed ud dd seq => readThresholds_bytes eu uu du ed ud dd seq⟩

end Sys2Proof.Machine
end

section
/-! PROOFS. The sine table, its interpolation and its symmetries, and the head position (R54 to R59). -/

namespace Sys2Proof.Machine

/-! ## The table and the quarter turn (R56, R57) -/

/-- The entries do not fall, and up to entry 255 they rise strictly. -/
theorem sineEntry_steps :
    (∀ k < 256, sineEntry k ≤ sineEntry (k + 1)) ∧ (∀ k < 255, sineEntry k < sineEntry (k + 1)) := by
  decide +kernel

theorem sineEntry_bounds : ∀ k < 257, 0 ≤ sineEntry k ∧ sineEntry k ≤ 16384 := by decide +kernel

/-- The interpolation at a place between two entries; at an entry the part is 32 / 64, which is 0. -/
theorem sineMagnitude_between {f : Nat} (hf : f < 64) (k : Nat) :
    sineMagnitude (64 * k + f) = sineEntry k + ((sineEntry (k + 1) - sineEntry k) * f + 32) / 64 := by
  have entry : (64 * k + f) / 64 = k := by omega
  have part : (64 * k + f) % 64 = f := by omega
  unfold sineMagnitude
  simp only [entry, part]
  split
  next zero => simp [zero]
  next => rfl

theorem sineMagnitude_entry (k : Nat) : sineMagnitude (64 * k) = sineEntry k := by
  simpa using sineMagnitude_between (f := 0) (by decide) k

/-- A proportional part of a rise lies between 0 and the rise. -/
theorem part_bounds {rise f : Int} (h : 0 ≤ rise) (hf : 0 ≤ f) (hf' : f < 64) :
    0 ≤ (rise * f + 32) / 64 ∧ (rise * f + 32) / 64 ≤ rise := by
  have low : 0 ≤ rise * f := Int.mul_nonneg h hf
  have high : rise * f ≤ rise * 63 := Int.mul_le_mul_of_nonneg_left (by omega) h
  omega

theorem sineMagnitude_bounds {b : Nat} (hb : b ≤ 16384) : 0 ≤ sineMagnitude b ∧ sineMagnitude b ≤ 16384 := by
  obtain ⟨k, f, hf, rfl⟩ : ∃ k f, f < 64 ∧ b = 64 * k + f := ⟨b / 64, b % 64, by omega, by omega⟩
  by_cases last : k = 256
  · obtain ⟨rfl, rfl⟩ : k = 256 ∧ f = 0 := ⟨last, by omega⟩
    exact sineMagnitude_entry 256 ▸ sineEntry_bounds 256 (by decide)
  · have rise := sineEntry_steps.1 k (by omega)
    obtain ⟨part, whole⟩ := part_bounds (f := f) (Int.sub_nonneg_of_le rise) (by omega) (by omega)
    have low := (sineEntry_bounds k (by omega)).1
    have high := (sineEntry_bounds (k + 1) (by omega)).2
    rw [sineMagnitude_between hf]
    omega

/-! ## The four quarters (R57) -/

section
variable {b : Nat} (hb : b ≤ 16384) (turns : Int)
include hb

theorem sine_firstQuarter : sine (b + 65536 * turns) = sineMagnitude b := by
  unfold sine
  have at' : ((b + 65536 * turns : Int) % 65536).toNat = b := by omega
  dsimp only
  rw [at']
  split
  next => rfl
  next => simp [show b = 16384 by omega]

theorem sine_secondQuarter : sine (32768 - b + 65536 * turns) = sineMagnitude b := by
  unfold sine
  have at' : ((32768 - b + 65536 * turns : Int) % 65536).toNat = 32768 - b := by omega
  dsimp only
  rw [at']
  split
  next => omega
  next =>
    split
    next => rw [show 32768 - (32768 - b) = b by omega]
    next => simp [show b = 0 by omega, sineMagnitude, sineEntry, sineTable, sineTable0]

theorem sine_thirdQuarter : sine (32768 + b + 65536 * turns) = -sineMagnitude b := by
  unfold sine
  have at' : ((32768 + b + 65536 * turns : Int) % 65536).toNat = 32768 + b := by omega
  dsimp only
  rw [at', if_neg (by omega), if_neg (by omega)]
  split
  next => rw [show 32768 + b - 32768 = b by omega]
  next => simp [show b = 16384 by omega]

theorem sine_fourthQuarter : sine (-b + 65536 * turns) = -sineMagnitude b := by
  unfold sine
  dsimp only
  by_cases zero : b = 0
  · have at' : ((-b + 65536 * turns : Int) % 65536).toNat = 0 := by omega
    rw [at', zero]
    decide
  · have at' : ((-b + 65536 * turns : Int) % 65536).toNat = 65536 - b := by omega
    rw [at', if_neg (by omega), if_neg (by omega), if_neg (by omega), show 65536 - (65536 - b) = b by omega]

end

/-- Every angle is some whole turns and a place in one of the four quarters, counted from the horizontal. -/
theorem quarter_of_angle (a : Int) :
    ∃ (turns : Int) (b : Nat), b ≤ 16384
      ∧ (a = b + 65536 * turns ∨ a = 32768 - b + 65536 * turns ∨ a = 32768 + b + 65536 * turns
        ∨ a = -b + 65536 * turns) := by
  by_cases first : a % 65536 ≤ 16384
  · exact ⟨a / 65536, (a % 65536).toNat, by omega, .inl (by omega)⟩
  by_cases second : a % 65536 ≤ 32768
  · exact ⟨a / 65536, (32768 - a % 65536).toNat, by omega, .inr (.inl (by omega))⟩
  by_cases third : a % 65536 ≤ 49152
  · exact ⟨a / 65536, (a % 65536 - 32768).toNat, by omega, .inr (.inr (.inl (by omega)))⟩
  · exact ⟨a / 65536 + 1, (65536 - a % 65536).toNat, by omega, .inr (.inr (.inr (by omega)))⟩

theorem sine_bounds (a : Int) : -16384 ≤ sine a ∧ sine a ≤ 16384 := by
  obtain ⟨turns, b, hb, rfl | rfl | rfl | rfl⟩ := quarter_of_angle a <;> have := sineMagnitude_bounds hb
  · rw [sine_firstQuarter hb]; omega
  · rw [sine_secondQuarter hb]; omega
  · rw [sine_thirdQuarter hb]; omega
  · rw [sine_fourthQuarter hb]; omega

theorem sine_turn (a : Int) : sine (a + 65536) = sine a := by
  unfold sine
  rw [Int.add_emod_right]

theorem sine_neg (a : Int) : sine (-a) = -sine a := by
  obtain ⟨turns, b, hb, rfl | rfl | rfl | rfl⟩ := quarter_of_angle a
  · rw [sine_firstQuarter hb, ← sine_fourthQuarter hb (-turns)]
    congr 1; omega
  · rw [sine_secondQuarter hb, ← sine_thirdQuarter hb (-turns - 1)]
    congr 1; omega
  · rw [sine_thirdQuarter hb, neg_neg, ← sine_secondQuarter hb (-turns - 1)]
    congr 1; omega
  · rw [sine_fourthQuarter hb, neg_neg, ← sine_firstQuarter hb (-turns)]
    congr 1; omega

theorem sine_mirror (a : Int) : sine (32768 - a) = sine a := by
  obtain ⟨turns, b, hb, rfl | rfl | rfl | rfl⟩ := quarter_of_angle a
  · rw [sine_firstQuarter hb, ← sine_secondQuarter hb (-turns)]
    congr 1; omega
  · rw [sine_secondQuarter hb, ← sine_firstQuarter hb (-turns)]
    congr 1; omega
  · rw [sine_thirdQuarter hb, ← sine_fourthQuarter hb (-turns)]
    congr 1; omega
  · rw [sine_fourthQuarter hb, ← sine_thirdQuarter hb (-turns)]
    congr 1; omega

theorem sine_of_le {b : Nat} (hb : b ≤ 16384) : sine b = sineMagnitude b := by
  simpa using sine_firstQuarter hb 0

theorem sine_entry {k : Nat} (hk : k ≤ 256) : sine (64 * k) = sineEntry k := by
  rw [← sineMagnitude_entry, ← sine_of_le (by omega)]
  norm_cast

/-- Within a quarter turn either side of horizontal the cosine is not negative. -/
theorem cosine_nonneg {a : Int} (low : -16384 ≤ a) (high : a ≤ 16384) : 0 ≤ cosine a := by
  unfold cosine
  by_cases rising : a ≤ 0
  · obtain ⟨b, hb⟩ := Int.eq_ofNat_of_zero_le (show 0 ≤ a + 16384 by omega)
    rw [hb, sine_of_le (by omega)]
    exact (sineMagnitude_bounds (by omega)).1
  · obtain ⟨b, hb⟩ := Int.eq_ofNat_of_zero_le (show 0 ≤ 16384 - a by omega)
    rw [show a + 16384 = 32768 - b by omega, sine_mirror, sine_of_le (by omega)]
    exact (sineMagnitude_bounds (by omega)).1

/-- A length scaled by a cosine that is not negative stays within the length. -/
theorem scaled_bounds {v c : Int} (hv : 0 ≤ v) (hc : 0 ≤ c) (hc' : c ≤ 16384) :
    0 ≤ scaled v c ∧ scaled v c ≤ v := by
  have low : 0 ≤ v * c := Int.mul_nonneg hv hc
  have high : v * c ≤ v * 16384 := Int.mul_le_mul_of_nonneg_left hc' hv
  unfold scaled
  omega

/-! ## Unit values (R54) -/

theorem unitValue_unshifted {r : AxisRecord} (h : r.unitShift = 0) (n : Int) :
    unitValue r n = clampInt (-2147483648) 2147483647 (n * r.unitMultiplier) := by
  simp [unitValue, clampI32, h]

theorem unitValue_shifted {r : AxisRecord} (h : 1 ≤ r.unitShift) (n : Int) :
    unitValue r n =
      clampInt (-2147483648) 2147483647 ((n * r.unitMultiplier + 2 ^ (r.unitShift - 1)) / 2 ^ r.unitShift) := by
  simp only [unitValue, clampI32, if_neg (show ¬r.unitShift = 0 by omega)]

/-- Settles O46: the table is followed entry by entry, an angle by its quarter, and the reduced unit value is the one
number of a whole turn that differs from it by whole turns. -/
theorem sinesAndReachAreBounded : Obligations.SinesAndReachAreBounded := by
  refine ⟨fun a => ⟨sine_bounds a, sine_turn a, sine_neg a, sine_mirror a⟩, by decide +kernel, by decide +kernel,
    by decide +kernel, ?formula, by decide +kernel, ?rise, by decide +kernel, ?between, ?reach, ?unit, ?head⟩
  case formula =>
    intro k hk
    rw [sine_entry hk]
    exact sineEntry_near k hk
  case rise =>
    intro k hk
    have next := sine_entry (k := k + 1) (by omega)
    push_cast at next
    rw [sine_entry (by omega), next]
    exact sineEntry_steps.2 k hk
  case between =>
    intro k f hk hf
    have next := sine_entry (k := k + 1) (by omega)
    have place := sine_of_le (b := 64 * k + f) (by omega)
    push_cast at next place
    dsimp only
    rw [place, next, sine_entry (by omega), sineMagnitude_between hf]
    omega
  case reach =>
    intro a v low high hv
    have turned := cosine_nonneg low high
    exact ⟨turned, scaled_bounds hv turned (sine_bounds _).2⟩
  case unit =>
    intro r n
    refine ⟨fun h => unitValue_unshifted h n, fun h => ⟨_, ?_, ?_, unitValue_shifted h n⟩⟩
    · exact Int.mul_ediv_self_le (by positivity)
    · rw [Int.mul_add, Int.mul_one]
      exact Int.lt_mul_ediv_self_add (by positivity)
  case head =>
    intro p counts swing low high turns
    have reduced : unitValue p.axes[1] (counts 1) % 65536 = swing := by omega
    dsimp only [headPoint]
    rw [reduced]
    rfl

end Sys2Proof.Machine
end

section
/-! PROOFS. The translations of a curve (R125 to R131). -/

namespace Sys2Proof.Machine

/-! ## The rounded quotient (R129) -/

theorem roundHalfAway_neg_neg (a b : Int) : roundHalfAway (-a) (-b) = roundHalfAway a b := by
  simp [roundHalfAway]

theorem roundHalfAway_neg (a b : Int) : roundHalfAway (-a) b = -roundHalfAway a b := by
  simp [roundHalfAway]

theorem roundHalfAway_of_nonneg {a b : Int} (ha : 0 ≤ a) (hb : 0 < b) :
    roundHalfAway a b = (2 * a + b) / (2 * b) := by
  obtain ⟨a, rfl⟩ := Int.eq_ofNat_of_zero_le ha
  obtain ⟨b, rfl⟩ := Int.eq_ofNat_of_zero_le hb.le
  obtain rfl | pos := Nat.eq_zero_or_pos a
  · simp only [roundHalfAway, Nat.cast_zero, Int.sign_zero, zero_mul, mul_zero, zero_add]
    exact (Int.ediv_eq_zero_of_lt (by omega) (by omega)).symm
  · simp [roundHalfAway, Int.sign_eq_one_of_pos hb, Int.sign_eq_one_of_pos (a := (a : Int)) (by omega)]

theorem roundHalfAway_zero (b : Int) : roundHalfAway 0 b = 0 := by
  simp [roundHalfAway]

/-- The rounded quotient of a whole multiple is exact. -/
theorem roundHalfAway_mul {b : Int} (hb : 0 < b) (d : Int) : roundHalfAway (b * d) b = d := by
  have exact_of_nonneg : ∀ {d : Int}, 0 ≤ d → roundHalfAway (b * d) b = d := by
    intro d hd
    rw [roundHalfAway_of_nonneg (Int.mul_nonneg hb.le hd) hb, Int.ediv_eq_iff_of_pos (by omega)]
    constructor <;> nlinarith
  obtain hd | hd := Int.le_total 0 d
  · exact exact_of_nonneg hd
  · have := exact_of_nonneg (d := -d) (by omega)
    rwa [Int.mul_neg, roundHalfAway_neg, neg_inj] at this

/-- The part of a difference at a place within the divisor lies between 0 and the difference. -/
theorem roundHalfAway_between {x b : Int} (hb : 0 < b) (hx : 0 ≤ x) (hx' : x ≤ b) (d : Int) :
    min 0 d ≤ roundHalfAway (x * d) b ∧ roundHalfAway (x * d) b ≤ max 0 d := by
  have within : ∀ {d : Int}, 0 ≤ d → 0 ≤ roundHalfAway (x * d) b ∧ roundHalfAway (x * d) b ≤ d := by
    intro d hd
    have low : 0 ≤ x * d := Int.mul_nonneg hx hd
    have high : x * d ≤ b * d := Int.mul_le_mul_of_nonneg_right hx' hd
    rw [roundHalfAway_of_nonneg low hb]
    refine ⟨Int.ediv_nonneg (by omega) (by omega), Int.le_of_lt_add_one ?_⟩
    rw [Int.ediv_lt_iff_lt_mul (by omega)]
    nlinarith
  obtain hd | hd := Int.le_total 0 d
  · have := within hd; omega
  · have := within (d := -d) (by omega)
    rw [Int.mul_neg, roundHalfAway_neg] at this
    omega

/-- The rounded quotient is the nearest integer, with halves away from zero, and has the sign of the quotient. -/
theorem roundHalfAway_nearest (a : Int) {b : Int} (hb : b ≠ 0) :
    2 * b.natAbs * (roundHalfAway a b).natAbs ≤ 2 * a.natAbs + b.natAbs
      ∧ 2 * a.natAbs + b.natAbs < 2 * b.natAbs * ((roundHalfAway a b).natAbs + 1) ∧ 0 ≤ a * b * roundHalfAway a b := by
  have magnitude : (roundHalfAway a b).natAbs = (2 * a.natAbs + b.natAbs) / (2 * b.natAbs) := by
    obtain rfl | ha := eq_or_ne a 0
    · rw [roundHalfAway_zero]
      exact (Nat.div_eq_of_lt (by omega)).symm
    · rw [roundHalfAway, Int.natAbs_mul, Int.natAbs_mul, Int.natAbs_sign_of_ne_zero ha,
        Int.natAbs_sign_of_ne_zero hb, Int.natAbs_natCast, one_mul, one_mul]
  have signed : a * b * roundHalfAway a b =
      a.natAbs * b.natAbs * ((2 * a.natAbs + b.natAbs) / (2 * b.natAbs) : Nat) := by
    calc
      a * b * roundHalfAway a b =
          a.sign * a * (b.sign * b) * ((2 * a.natAbs + b.natAbs) / (2 * b.natAbs) : Nat) := by
        simp only [roundHalfAway]; ring
      _ = _ := by rw [Int.sign_mul_self_eq_natAbs, Int.sign_mul_self_eq_natAbs]
  rw [magnitude, signed]
  refine ⟨Nat.mul_div_le _ _, Nat.lt_mul_div_succ _ (by omega), by positivity⟩

/-! ## Clamping -/

theorem clampInt_below {lo hi x : Int} (ordered : lo ≤ hi) (below : x ≤ lo) : clampInt lo hi x = lo := by
  unfold clampInt
  split <;> [skip; split] <;> omega

theorem clampInt_above {lo hi x : Int} (ordered : lo ≤ hi) (above : hi ≤ x) : clampInt lo hi x = hi := by
  unfold clampInt
  split <;> [skip; split] <;> omega

theorem clampInt_within {lo hi x : Int} (low : lo ≤ x) (high : x ≤ hi) : clampInt lo hi x = x := by
  rw [clampInt, if_neg (by omega), if_neg (by omega)]

theorem clampInt_bounds {lo hi : Int} (ordered : lo ≤ hi) (x : Int) : lo ≤ clampInt lo hi x ∧ clampInt lo hi x ≤ hi := by
  unfold clampInt
  split <;> [skip; split] <;> omega

/-- A value stands after clamping exactly where it is beyond neither end. -/
theorem clampInt_ne_iff {lo hi x : Int} : clampInt lo hi x ≠ x ↔ x < lo ∨ hi < x := by
  unfold clampInt
  split <;> [skip; split] <;> omega

/-! ## The segment of a place (R129, R131) -/

theorem largestSegment_le (test : Nat → Bool) (m : Nat) : largestSegment test m ≤ m := by
  induction m with
  | zero => exact Nat.le_refl 0
  | succ m ih =>
    unfold largestSegment
    split <;> omega

theorem largestSegment_meets (test : Nat → Bool) (m : Nat) :
    largestSegment test m = 0 ∨ test (largestSegment test m) = true := by
  induction m with
  | zero => exact .inl rfl
  | succ m ih =>
    unfold largestSegment
    split
    next meets => exact .inr meets
    next => exact ih

theorem largestSegment_last (test : Nat → Bool) {m j : Nat} (above : largestSegment test m < j) (hj : j ≤ m) :
    test j = false := by
  induction m with
  | zero => omega
  | succ m ih =>
    unfold largestSegment at above
    split at above
    next => omega
    next fails =>
      obtain rfl | below := Nat.eq_or_lt_of_le hj
      · simpa using fails
      · exact ih above (by omega)

section
variable {x : Nat → Int} {last : Nat} {v : Int} (rises : ∀ i j, i < j → j ≤ last + 1 → x i < x j) (low : x 0 ≤ v)
  (high : v ≤ x (last + 1))
include rises low high

/-- The segment found holds the place, and another that holds it ends where the one found begins. -/
theorem largestSegment_holds :
    let i := largestSegment (fun i => decide (x i ≤ v)) last
    i ≤ last ∧ x i ≤ v ∧ v ≤ x (i + 1) ∧ ∀ j ≤ last, x j ≤ v → v ≤ x (j + 1) → j = i ∨ (j + 1 = i ∧ v = x i) := by
  intro i
  have inside : i ≤ last := largestSegment_le _ last
  have begins : x i ≤ v := by
    obtain zero | meets := largestSegment_meets (fun i => decide (x i ≤ v)) last
    · rw [show i = 0 from zero]
      exact low
    · exact of_decide_eq_true meets
  have beyond : ∀ j, i < j → j ≤ last → v < x j := fun j above hj => by
    simpa using largestSegment_last _ above hj
  have ends : v ≤ x (i + 1) := by
    obtain final | inner := Nat.eq_or_lt_of_le inside
    · rwa [final]
    · exact (beyond _ (Nat.lt_succ_self i) inner).le
  refine ⟨inside, begins, ends, fun j hj from' upto => ?_⟩
  obtain above | same | below := Nat.lt_trichotomy i j
  · exact absurd (beyond j above hj) (Int.not_lt.2 from')
  · exact .inl same.symm
  · obtain next | apart := Nat.eq_or_lt_of_le (Nat.succ_le_of_lt below)
    · exact .inr ⟨next, Int.le_antisymm (next ▸ upto) begins⟩
    · have := rises (j + 1) i apart (by omega)
      omega

/-- On every segment that holds the place, interpolation from its first point gives the one value. -/
theorem interpolation_agrees (y : Nat → Int) {j : Nat} (hj : j ≤ last) (from' : x j ≤ v) (upto : v ≤ x (j + 1)) :
    let i := largestSegment (fun i => decide (x i ≤ v)) last
    y i + roundHalfAway ((v - x i) * (y (i + 1) - y i)) (x (i + 1) - x i) =
      y j + roundHalfAway ((v - x j) * (y (j + 1) - y j)) (x (j + 1) - x j) := by
  obtain ⟨inside, begins, ends, only⟩ := largestSegment_holds rises low high
  dsimp only
  obtain rfl | ⟨next, meets⟩ := only j hj from' upto
  · rfl
  · rw [← next] at meets ⊢
    have length := rises j (j + 1) (Nat.lt_succ_self j) (by omega)
    rw [meets, sub_self, zero_mul, roundHalfAway_zero, roundHalfAway_mul (Int.sub_pos_of_lt length)]
    omega

end

/-! ## A curve whose points are in order (R125) -/

/-- A curve whose user values rise, with at least two points and its counts rising or falling. -/
structure Curve.Ordered (c : Curve) (last : Nat) : Prop where
  length : c.points.length = last + 2
  users : ∀ i j, i < j → j ≤ last + 1 → (c.at i).user < (c.at j).user
  counts : (∀ i j, i < j → j ≤ last + 1 → (c.at i).count < (c.at j).count)
    ∨ ∀ i j, i < j → j ≤ last + 1 → (c.at j).count < (c.at i).count

theorem Curve.at_eq_getElem (c : Curve) {i : Nat} (h : i < c.points.length) : c.at i = c.points[i] := by
  simp [Curve.at, h]

theorem ordered_of_pointsOk {i : Fin 3} {c : Curve} (ok : curvePointsOk i c.points = true) :
    c.Ordered (c.points.length - 2) := by
  simp only [curvePointsOk, Bool.and_eq_true, Bool.or_eq_true, decide_eq_true_eq, List.pairwise_iff_getElem] at ok
  obtain ⟨⟨⟨⟨two, -⟩, -⟩, users⟩, counts⟩ := ok
  have along : ∀ r : CurvePoint → CurvePoint → Prop,
      (∀ (i j : Nat) (hi : i < c.points.length) (hj : j < c.points.length), i < j → r c.points[i] c.points[j]) →
        ∀ i j, i < j → j ≤ c.points.length - 2 + 1 → r (c.at i) (c.at j) := by
    intro r h i j less hj
    rw [c.at_eq_getElem (by omega), c.at_eq_getElem (by omega)]
    exact h i j (by omega) (by omega) less
  exact ⟨by omega, along (fun p q => p.user < q.user) users,
    counts.imp (along fun p q => p.count < q.count) (along fun p q => q.count < p.count)⟩

section
variable {c : Curve} {last : Nat} (h : c.Ordered last)
include h

theorem Curve.Ordered.lastSegment : c.lastSegment = last := by
  simp [Curve.lastSegment, h.length]

theorem Curve.Ordered.final : c.points.length - 1 = last + 1 := by
  simp [h.length]

theorem Curve.Ordered.user_le {i j : Nat} (le : i ≤ j) (hj : j ≤ last + 1) : (c.at i).user ≤ (c.at j).user := by
  obtain rfl | less := Nat.eq_or_lt_of_le le
  · exact Nat.le_refl _
  · exact (h.users i j less hj).le

/-- The counts of the points lie between the first and the last. -/
theorem Curve.Ordered.count_between {i : Nat} (hi : i ≤ last + 1) :
    min (c.at 0).count (c.at (last + 1)).count ≤ (c.at i).count
      ∧ (c.at i).count ≤ max (c.at 0).count (c.at (last + 1)).count := by
  obtain rfl | pos := Nat.eq_zero_or_pos i
  · omega
  obtain rfl | less := Nat.eq_or_lt_of_le hi
  · omega
  obtain counts | counts := h.counts
  all_goals
    have := counts 0 i pos hi
    have := counts i (last + 1) less (Nat.le_refl _)
    omega

/-! ### Forward (R129) -/

/-- Between two points the forward translation is the first one's count plus the proportional part. -/
theorem Curve.Ordered.forward_segment {j : Nat} (hj : j ≤ last) {u : Int} (low : ((c.at j).user : Int) ≤ u)
    (high : u ≤ (c.at (j + 1)).user) :
    c.forward u = (c.at j).count + roundHalfAway ((u - (c.at j).user) * ((c.at (j + 1)).count - (c.at j).count))
      (((c.at (j + 1)).user : Int) - (c.at j).user) := by
  have above := h.user_le (Nat.zero_le j) (by omega)
  have below := h.user_le (show j + 1 ≤ last + 1 by omega) (Nat.le_refl _)
  have within : c.clampUser u = u := by
    rw [Curve.clampUser, h.final, clampInt_within (by omega) (by omega)]
  unfold Curve.forward
  dsimp only
  rw [within, h.lastSegment]
  exact interpolation_agrees (x := fun i => (c.at i).user) (fun i j less hj => by exact_mod_cast h.users i j less hj)
    (by omega) (by omega) (fun i => (c.at i).count) hj low high

/-- A value within the user values of the curve lies on a segment. -/
theorem Curve.Ordered.user_segment {u : Int} (low : ((c.at 0).user : Int) ≤ u) (high : u ≤ (c.at (last + 1)).user) :
    ∃ j ≤ last, ((c.at j).user : Int) ≤ u ∧ u ≤ (c.at (j + 1)).user := by
  obtain ⟨inside, begins, ends, -⟩ := largestSegment_holds (x := fun i => ((c.at i).user : Int)) (last := last)
    (fun i j less hj => by exact_mod_cast h.users i j less hj) low high
  exact ⟨_, inside, begins, ends⟩

theorem Curve.Ordered.forward_point {j : Nat} (hj : j ≤ last + 1) : c.forward (c.at j).user = (c.at j).count := by
  obtain rfl | inner := Nat.eq_or_lt_of_le hj
  · have length := h.users last (last + 1) (by omega) (Nat.le_refl _)
    rw [h.forward_segment (Nat.le_refl _) (by omega) (Int.le_refl _), roundHalfAway_mul (by omega)]
    omega
  · have length := h.users j (j + 1) (by omega) (by omega)
    rw [h.forward_segment (j := j) (by omega) (Int.le_refl _) (by omega), sub_self, zero_mul, roundHalfAway_zero]
    omega

theorem Curve.Ordered.clampUser_between (u : Int) :
    ((c.at 0).user : Int) ≤ c.clampUser u ∧ c.clampUser u ≤ (c.at (last + 1)).user := by
  have := h.user_le (Nat.zero_le (last + 1)) (Nat.le_refl _)
  rw [Curve.clampUser, h.final]
  exact clampInt_bounds (by omega) u

omit h in
theorem Curve.forward_clampUser (c : Curve) {u v : Int} (same : c.clampUser u = c.clampUser v) :
    c.forward u = c.forward v := by
  unfold Curve.forward
  rw [same]

theorem Curve.Ordered.clampUser_within {u : Int} (low : ((c.at 0).user : Int) ≤ u)
    (high : u ≤ (c.at (last + 1)).user) : c.clampUser u = u := by
  rw [Curve.clampUser, h.final, clampInt_within low high]

theorem Curve.Ordered.forward_between (u : Int) :
    min (c.at 0).count (c.at (last + 1)).count ≤ c.forward u
      ∧ c.forward u ≤ max (c.at 0).count (c.at (last + 1)).count := by
  obtain ⟨low, high⟩ := h.clampUser_between u
  rw [← c.forward_clampUser (h.clampUser_within low high)]
  obtain ⟨j, hj, low, high⟩ := h.user_segment low high
  have part := roundHalfAway_between (x := c.clampUser u - (c.at j).user)
    (b := ((c.at (j + 1)).user : Int) - (c.at j).user)
    (by have := h.users j (j + 1) (by omega) (by omega); omega) (by omega) (by omega)
    ((c.at (j + 1)).count - (c.at j).count)
  have := h.count_between (show j ≤ last + 1 by omega)
  have := h.count_between (show j + 1 ≤ last + 1 by omega)
  rw [h.forward_segment hj low high]
  omega

theorem Curve.Ordered.forward_below {u : Int} (hu : u ≤ (c.at 0).user) : c.forward u = (c.at 0).count := by
  have := h.user_le (Nat.zero_le (last + 1)) (Nat.le_refl _)
  rw [← h.forward_point (Nat.zero_le _)]
  apply c.forward_clampUser
  rw [Curve.clampUser, Curve.clampUser, h.final, clampInt_below (by omega) hu,
    clampInt_below (by omega) (Int.le_refl _)]

theorem Curve.Ordered.forward_above {u : Int} (hu : ((c.at (last + 1)).user : Int) ≤ u) :
    c.forward u = (c.at (last + 1)).count := by
  have := h.user_le (Nat.zero_le (last + 1)) (Nat.le_refl _)
  rw [← h.forward_point (Nat.le_refl _)]
  apply c.forward_clampUser
  rw [Curve.clampUser, Curve.clampUser, h.final, clampInt_above (by omega) hu,
    clampInt_above (by omega) (Int.le_refl _)]

/-! ### Inverse (R131) -/

theorem Curve.Ordered.clampCount_within {n : Int} (low : min (c.at 0).count (c.at (last + 1)).count ≤ n)
    (high : n ≤ max (c.at 0).count (c.at (last + 1)).count) :
    clampInt (min (c.at 0).count (c.at (c.points.length - 1)).count)
      (max (c.at 0).count (c.at (c.points.length - 1)).count) n = n := by
  rw [h.final, clampInt_within low high]

/-- Between two points the inverse translation is the first one's user value plus the proportional part. -/
theorem Curve.Ordered.inverse_segment {j : Nat} (hj : j ≤ last) {n : Int}
    (low : min (c.at j).count (c.at (j + 1)).count ≤ n) (high : n ≤ max (c.at j).count (c.at (j + 1)).count) :
    c.inverse n = (c.at j).user + roundHalfAway ((n - (c.at j).count) * (((c.at (j + 1)).user : Int) - (c.at j).user))
      ((c.at (j + 1)).count - (c.at j).count) := by
  have first := h.count_between (show j ≤ last + 1 by omega)
  have second := h.count_between (show j + 1 ≤ last + 1 by omega)
  unfold Curve.inverse Curve.increasing
  dsimp only
  rw [h.clampCount_within (by omega) (by omega), h.lastSegment, h.final]
  obtain rising | falling := h.counts
  · have := rising 0 (last + 1) (by omega) (Nat.le_refl _)
    have := rising j (j + 1) (by omega) (by omega)
    rw [decide_eq_true (by omega), if_pos rfl]
    exact interpolation_agrees rising (by omega) (by omega) (fun i => (c.at i).user) hj (by omega) (by omega)
  · have := falling 0 (last + 1) (by omega) (Nat.le_refl _)
    have := falling j (j + 1) (by omega) (by omega)
    have mirrored := interpolation_agrees (x := fun i => -(c.at i).count) (v := -n)
      (fun i j less hj => by have := falling i j less hj; omega) (by omega)
      (by omega) (fun i => ((c.at i).user : Int)) hj (by omega) (by omega)
    have turned : ∀ m k l d : Int, roundHalfAway ((-m - -k) * d) (-l - -k) = roundHalfAway ((m - k) * d) (l - k) :=
      fun m k l d => by
        rw [← roundHalfAway_neg_neg]
        congr 1 <;> ring
    rw [decide_eq_false (by omega), if_neg Bool.false_ne_true]
    simpa only [turned, neg_le_neg_iff] using mirrored

/-- A count between the first and the last lies on a segment. -/
theorem Curve.Ordered.count_segment {n : Int} (low : min (c.at 0).count (c.at (last + 1)).count ≤ n)
    (high : n ≤ max (c.at 0).count (c.at (last + 1)).count) :
    ∃ j ≤ last, min (c.at j).count (c.at (j + 1)).count ≤ n ∧ n ≤ max (c.at j).count (c.at (j + 1)).count := by
  obtain rising | falling := h.counts
  · have := rising 0 (last + 1) (by omega) (Nat.le_refl _)
    obtain ⟨inside, begins, ends, -⟩ := largestSegment_holds rising (v := n) (by omega) (by omega)
    exact ⟨_, inside, by omega, by omega⟩
  · have := falling 0 (last + 1) (by omega) (Nat.le_refl _)
    obtain ⟨inside, begins, ends, -⟩ := largestSegment_holds (x := fun i => -(c.at i).count) (last := last) (v := -n)
      (fun i j less hj => by have := falling i j less hj; omega) (by omega)
      (by omega)
    exact ⟨_, inside, by omega, by omega⟩

theorem Curve.Ordered.inverse_point {j : Nat} (hj : j ≤ last + 1) : c.inverse (c.at j).count = (c.at j).user := by
  obtain rfl | inner := Nat.eq_or_lt_of_le hj
  · rw [h.inverse_segment (Nat.le_refl _) (by omega) (by omega)]
    obtain rising | falling := h.counts
    · have := rising last (last + 1) (by omega) (Nat.le_refl _)
      rw [roundHalfAway_mul (by omega)]
      omega
    · have := falling last (last + 1) (by omega) (Nat.le_refl _)
      rw [← roundHalfAway_neg_neg, ← Int.neg_mul, roundHalfAway_mul (by omega)]
      omega
  · rw [h.inverse_segment (j := j) (by omega) (by omega) (by omega), sub_self, zero_mul, roundHalfAway_zero]
    omega

omit h in
theorem Curve.inverse_clamp (c : Curve) {m n : Int}
    (same : clampInt (min (c.at 0).count (c.at (c.points.length - 1)).count)
        (max (c.at 0).count (c.at (c.points.length - 1)).count) m =
      clampInt (min (c.at 0).count (c.at (c.points.length - 1)).count)
        (max (c.at 0).count (c.at (c.points.length - 1)).count) n) :
    c.inverse m = c.inverse n := by
  unfold Curve.inverse
  dsimp only
  rw [same]

/-- A count below the smallest of the curve is translated as that one, and one above the largest as that one. -/
theorem Curve.Ordered.inverse_beyond {n : Int} :
    (n ≤ min (c.at 0).count (c.at (last + 1)).count →
        c.inverse n = c.inverse (min (c.at 0).count (c.at (last + 1)).count))
      ∧ (max (c.at 0).count (c.at (last + 1)).count ≤ n →
        c.inverse n = c.inverse (max (c.at 0).count (c.at (last + 1)).count)) := by
  have ordered : min (c.at 0).count (c.at (last + 1)).count ≤ max (c.at 0).count (c.at (last + 1)).count := by omega
  constructor <;> intro beyond <;> apply c.inverse_clamp <;> rw [h.final]
  · rw [clampInt_below ordered beyond, clampInt_below ordered (Int.le_refl _)]
  · rw [clampInt_above ordered beyond, clampInt_above ordered (Int.le_refl _)]

/-- Every count is translated as one between the first and the last. -/
theorem Curve.Ordered.inverse_eq_within (n : Int) :
    ∃ m, min (c.at 0).count (c.at (last + 1)).count ≤ m ∧ m ≤ max (c.at 0).count (c.at (last + 1)).count
      ∧ c.inverse n = c.inverse m := by
  by_cases below : n ≤ min (c.at 0).count (c.at (last + 1)).count
  · exact ⟨_, by omega, by omega, h.inverse_beyond.1 below⟩
  by_cases above : max (c.at 0).count (c.at (last + 1)).count ≤ n
  · exact ⟨_, by omega, by omega, h.inverse_beyond.2 above⟩
  · exact ⟨n, by omega, by omega, rfl⟩

theorem Curve.Ordered.inverse_between (n : Int) :
    ((c.at 0).user : Int) ≤ c.inverse n ∧ c.inverse n ≤ (c.at (last + 1)).user := by
  obtain ⟨m, low, high, same⟩ := h.inverse_eq_within n
  obtain ⟨j, hj, low, high⟩ := h.count_segment low high
  have rise := h.users j (j + 1) (by omega) (by omega)
  have above := h.user_le (Nat.zero_le j) (by omega)
  have below := h.user_le (show j + 1 ≤ last + 1 by omega) (Nat.le_refl _)
  rw [same, h.inverse_segment hj low high]
  obtain rising | falling := h.counts
  · have := rising j (j + 1) (by omega) (by omega)
    have part := roundHalfAway_between (x := m - (c.at j).count) (b := (c.at (j + 1)).count - (c.at j).count)
      (by omega) (by omega) (by omega) (((c.at (j + 1)).user : Int) - (c.at j).user)
    omega
  · have := falling j (j + 1) (by omega) (by omega)
    have part := roundHalfAway_between (x := -(m - (c.at j).count))
      (b := -((c.at (j + 1)).count - (c.at j).count))
      (by omega) (by omega) (by omega) (((c.at (j + 1)).user : Int) - (c.at j).user)
    rw [Int.neg_mul, roundHalfAway_neg_neg] at part
    omega

end

/-- Settles O48: a clamped value lies on a segment, where interpolation is the rounded quotient of R129, and the two
segments that meet at a point agree there. -/
theorem translationsKeepToTheCurve : Obligations.TranslationsKeepToTheCurve := by
  intro i c ok
  have h := ordered_of_pointsOk ok
  have two : 2 ≤ c.points.length := by have := h.length; omega
  have final : c.points.length - 1 = c.points.length - 2 + 1 := by omega
  dsimp only
  rw [final]
  refine ⟨fun u => ?forward, fun n => ?inverse, fun j hj => ⟨fun u low high => ?user, fun n low high => ?count⟩,
    fun p mem => ?point⟩
  case forward =>
    obtain ⟨low, high⟩ := h.forward_between u
    exact ⟨low, high, h.forward_below, h.forward_above⟩
  case inverse =>
    obtain ⟨low, high⟩ := h.inverse_between n
    obtain ⟨below, above⟩ := h.inverse_beyond (n := n)
    have first := h.inverse_point (Nat.zero_le _)
    have last := h.inverse_point (Nat.le_refl _)
    refine ⟨low, high, fun rises => ?_, fun falls => ?_⟩
    · rw [min_eq_left rises.le, first] at below
      rw [max_eq_right rises.le, last] at above
      exact ⟨below, above⟩
    · rw [min_eq_right falls.le, last] at below
      rw [max_eq_left falls.le, first] at above
      exact ⟨above, below⟩
  case user =>
    have rise := h.users j (j + 1) (by omega) (by omega)
    exact ⟨_, roundHalfAway_nearest _ (by omega), h.forward_segment (by omega) low high⟩
  case count =>
    have apart : (c.at (j + 1)).count - (c.at j).count ≠ 0 := by
      obtain rising | falling := h.counts
      · have := rising j (j + 1) (by omega) (by omega); omega
      · have := falling j (j + 1) (by omega) (by omega); omega
    exact ⟨_, roundHalfAway_nearest _ apart, h.inverse_segment (by omega) low high⟩
  case point =>
    obtain ⟨j, hj, rfl⟩ := List.getElem_of_mem mem
    rw [← c.at_eq_getElem hj]
    exact ⟨h.forward_point (by omega), h.inverse_point (by omega)⟩

end Sys2Proof.Machine
end

section
/-! PROOFS. The follow distance and its submission, the stop projection and the swept box (R65, R67, R140). -/

namespace Sys2Proof.Machine

/-! ## The floor square root and the follow distance (R140) -/

/-- Bit by bit from bit m − 1 down, a root that is not too large, and too small by less than 2^m, becomes exact. -/
theorem rootBits_exact (n m : Nat) {r : Nat} (low : r * r ≤ n) (high : n < (r + 2 ^ m) * (r + 2 ^ m)) :
    let root := (List.range m).reverse.foldl (fun r i => if (r + 2 ^ i) * (r + 2 ^ i) ≤ n then r + 2 ^ i else r) r
    root * root ≤ n ∧ n < (root + 1) * (root + 1) := by
  induction m generalizing r with
  | zero => exact ⟨low, by simpa using high⟩
  | succ m ih =>
    rw [List.range_succ, List.reverse_append, List.reverse_singleton, List.singleton_append, List.foldl_cons]
    split
    next fits => exact ih fits (by rwa [Nat.add_assoc, ← Nat.two_mul, ← Nat.pow_succ'])
    next large => exact ih low (Nat.lt_of_not_le large)

theorem floorSqrt_exact {n : Nat} (h : n < 2 ^ 52) :
    floorSqrt n * floorSqrt n ≤ n ∧ n < (floorSqrt n + 1) * (floorSqrt n + 1) :=
  rootBits_exact n 26 (by simp) (by simpa using h)

theorem followDifference_bounds (a b : Int) : (followDifference a b).natAbs ≤ 16777215 := by
  have := clampInt_bounds (show (-16777215 : Int) ≤ 16777215 by decide) (a - b)
  unfold followDifference
  omega

/-- The square of a clamped difference, and its bound. -/
theorem followDifference_square (a b : Int) :
    (((followDifference a b).natAbs * (followDifference a b).natAbs : Nat) : Int) =
        clampInt (-16777215) 16777215 (a - b) ^ 2
      ∧ (followDifference a b).natAbs * (followDifference a b).natAbs ≤ 281474943156225 := by
  refine ⟨?_, Nat.mul_le_mul (followDifference_bounds a b) (followDifference_bounds a b)⟩
  rw [Int.natAbs_mul_self, sq]
  rfl

/-- Settles O47: the root is found bit by bit, and a translation sets the end-reached flag where its first step changed
the user value. -/
theorem followDistanceIsExact : Obligations.FollowDistanceIsExact := by
  refine ⟨fun n h => floorSqrt_exact h, fun p q => ?distance, fun p cycle s => ⟨fun off => ?off, fun on => ?on⟩⟩
  case distance =>
    obtain ⟨x, hx⟩ := followDifference_square p.x q.x
    obtain ⟨y, hy⟩ := followDifference_square p.y q.y
    obtain ⟨z, hz⟩ := followDifference_square p.z q.z
    refine ⟨_, ?_, ?_, rfl⟩
    · rw [Int.natCast_add, Int.natCast_add, x, y, z]
    · dsimp only
      omega
  case off => rw [followSubmission, off, if_neg Bool.false_ne_true]
  case on =>
    rw [followSubmission, if_pos on]
    dsimp only [translate]
    by_cases beyond : s.lens.curves[(0 : Fin 3)].clampUser
        (followUser (followDistance p s.lens.follow.subject) s.lens.follow.trim) ≠
          followUser (followDistance p s.lens.follow.subject) s.lens.follow.trim
    · rw [if_pos beyond]
      refine ⟨_, ?_, fun _ => ?_, fun within => absurd (clampInt_ne_iff.1 beyond) within, rfl⟩ <;> rfl
    · rw [if_neg beyond]
      refine ⟨_, ?_, fun past => absurd (clampInt_ne_iff.2 past) beyond, fun _ => ?_, rfl⟩ <;> rfl

/-! ## The stop projection (R65) -/

theorem stopDistance_exact (v : Int) {a : Nat} (ha : 0 < a) :
    v * v ≤ 2 * a * stopDistance v a ∧ (0 < stopDistance v a → 2 * a * (stopDistance v a - 1 : Int) < v * v) := by
  have up := Nat.lt_mul_div_succ (v.natAbs * v.natAbs + (2 * a - 1)) (show 0 < 2 * a by omega)
  have down := Nat.mul_div_le (v.natAbs * v.natAbs + (2 * a - 1)) (2 * a)
  rw [show (v.natAbs * v.natAbs + (2 * a - 1)) / (2 * a) = stopDistance v a from rfl] at up down
  zify [show 1 ≤ 2 * a by omega] at up down
  rw [abs_mul_abs_self] at up down
  constructor
  · linarith
  · intro _
    linarith

section
variable (r : AxisRecord) (m : Motion)

theorem projected_forward (h : 0 < m.velocity) :
    projected r m = r.clampTarget (m.position + stopDistance m.velocity r.deceleration) := by
  simp [projected, h]

theorem projected_backward (h : m.velocity < 0) :
    projected r m = r.clampTarget (m.position - stopDistance m.velocity r.deceleration) := by
  simp [projected, h, show ¬0 < m.velocity by omega]

theorem projected_still (h : m.velocity = 0) : projected r m = r.clampTarget m.position := by
  simp [projected, h]

end

/-! ## The swept box (R67) -/

/-- A point within the radius of either head point is in the swept box. -/
theorem sweptBox_holds {p q x : Point} {radius : Nat}
    (near : ∃ o : Point, (o = p ∨ o = q) ∧ (x.x - o.x).natAbs ≤ radius ∧ (x.y - o.y).natAbs ≤ radius
      ∧ (x.z - o.z).natAbs ≤ radius) : (sweptBox p q radius).holds x := by
  obtain ⟨o, of, nearX, nearY, nearZ⟩ := near
  simp only [Box.holds, sweptBox, spanning, Box.expand, Point.shift]
  obtain rfl | rfl := of
  · omega
  · omega

/-- Settles O49: the quotient rounded up, the branches of the projection, and the box coordinate by coordinate. -/
theorem projectionAndSweptBox : Obligations.ProjectionAndSweptBox := by
  refine ⟨fun v a ha => stopDistance_exact v ha, by decide, fun r m ordered => ?limits, fun r m => ?direction,
    fun p q radius => rfl, fun p q radius x => sweptBox_holds⟩
  case limits =>
    obtain ⟨low, high⟩ := clampTarget_within ordered
      (if 0 < m.velocity then m.position + (stopDistance m.velocity r.deceleration : Int)
        else if m.velocity < 0 then m.position - stopDistance m.velocity r.deceleration else m.position)
    refine ⟨low, high, fun still above below => ?_⟩
    rw [projected_still r m still, AxisRecord.clampTarget, clampInt_within above below]
  case direction => exact ⟨projected_forward r m, projected_backward r m, projected_still r m⟩

end Sys2Proof.Machine
end

section
/-! PROOFS. The answer to a request that is taken, the samples of a take, and the requests of the take store (R142 to
R151, R158, R184). -/

namespace Sys2Proof.Machine

/-! ## The answer to a request that is taken (R184, R185) -/

section
variable {s s' : State} {tag code : Byte} {body : List Byte} {row : Instr} (h : Takes s ⟨tag, code, body⟩ s')
  (isRow : (⟨tag, code, body⟩ : Request).row = row)
include h isRow

/-- The command of a request's row replies with the answer of the request. -/
theorem Takes.replies {run : Request → State → Answer} (runs : exec row s = .next (execute row run s)) ⦃result out t⦄
    (answers : run ⟨tag, code, body⟩ s' = ⟨result, out, t⟩) : Replies row s tag result out t := by
  rw [Replies, runs, execute_of_takes run h isRow, answers]

/-- A request whose body reads is answered with what it carries. -/
theorem Takes.replies_body {α : Type} {reader : List Byte → Option α} {run : α → State → Answer} {a : α}
    (read : reader body = some a) (runs : exec row s = .next (execute row (withBody reader run) s)) ⦃result out t⦄
    (answers : run a s' = ⟨result, out, t⟩) : Replies row s tag result out t :=
  h.replies isRow runs (by simp only [withBody, read, answers])

end

theorem oneFin_byte {n : Nat} (small : n ≤ 256) (k : Fin n) : oneFin n [u8 k.val] = some k := by
  rw [oneFin, readFin_append small]
  rfl

theorem Takes.store_eq {s s' : State} {r : Request} (h : Takes s r s') : s'.store = s.store :=
  h.frame.2.2.2.2.2.2.2.2.2.2.2.1

/-! ## One sample (R142, R146, R158) -/

/-- The sample written into the page of its position, which stands in the chain. -/
def Store.placeSample (st : Store) (t : Fin 32) (values : List Int) : Store :=
  let r := st.takes[t]
  let page := r.chain.getD (r.samples / r.perPage) 0
  { st with words := writeWords st.words (wordAddress page ((r.samples % r.perPage) * r.mask.size)) values }.setTake t
    { r with samples := r.samples + 1 }

theorem Store.writeSample_eq (st : Store) (t : Fin 32) (values : List Int) :
    st.writeSample t values =
      if st.takes[t].samples % st.takes[t].perPage = 0 then (st.allocate t).map fun st => st.placeSample t values
      else some (st.placeSample t values) :=
  rfl

theorem Store.allocate_none {st : Store} (free : st.free = []) (t : Fin 32) : st.allocate t = none := by
  simp [Store.allocate, free]

theorem Store.allocate_some {st : Store} {page : Nat} {rest : List Nat} (free : st.free = page :: rest) (t : Fin 32) :
    st.allocate t =
      some
        ⟨clearPage st.words page, rest,
          st.takes.set t.val { st.takes[t] with chain := st.takes[t].chain ++ [page] }⟩ := by
  simp [Store.allocate, free, Store.setTake]

/-- Words written from word 0 of a page just cleared: the page holds them, and 0 after them. -/
theorem readWord_newPage {m : List WordCell} (canonical : Memory.wf m = true) (page : Nat) {values : List Int}
    (fits : values.length ≤ 64) (a : Nat) :
    readWord (writeWords (clearPage m page) (wordAddress page 0) values) a =
      if wordAddress page 0 ≤ a ∧ a < wordAddress page 0 + 64 then values.getD (a - wordAddress page 0) 0
      else readWord m a := by
  have start : wordAddress page 0 = page * pageWords := rfl
  have whole : pageWords = 64 := rfl
  rw [readWord_writeWords (Memory.wf_clearPage canonical page), readWord_clearPage]
  by_cases inPage : wordAddress page 0 ≤ a ∧ a < wordAddress page 0 + 64
  · rw [if_pos inPage, if_pos (c := page * pageWords ≤ a ∧ _) (by omega)]
    split
    next => rfl
    next beyond => rw [List.getD_eq_default _ _ (by omega)]
  · rw [if_neg inPage, if_neg (by omega), if_neg (by omega)]

/-- Settles O41: a take with a nonempty mask has room for a sample in a page, so the first place of a page is its word
0, and its page the one just allocated. -/
theorem samplesAreWritten : Obligations.SamplesAreWritten := by
  intro st t values canonical whole masked
  have few : st.takes[t].mask.size ≤ 10 := (List.length_filter_le _ _).trans (List.length_finRange).le
  have room : 0 < st.takes[t].perPage := Nat.div_pos (few.trans (by decide)) masked
  refine ⟨fun first free => ?none, fun first full page rest free => ?new, fun inner => ?inner⟩
  case none => rw [Store.writeSample_eq, if_pos first, Store.allocate_none free, Option.map_none]
  case inner =>
    refine ⟨st.placeSample t values, by rw [Store.writeSample_eq, if_neg inner], rfl, rfl, fun a => ?_⟩
    exact readWord_writeWords canonical _ values a
  case new =>
    have ordinal : st.takes[t].samples / st.takes[t].perPage = st.takes[t].chain.length := by
      rw [full, Nat.mul_div_cancel _ room]
    have allocated : (st.takes[t].chain ++ [page]).getD (st.takes[t].samples / st.takes[t].perPage) 0 = page := by
      rw [ordinal, List.getD_append_right _ _ _ _ (Nat.le_refl _), Nat.sub_self, List.getD_cons_zero]
    refine ⟨_, by rw [Store.writeSample_eq, if_pos first, Store.allocate_some free, Option.map_some], rfl, ?_,
      fun a => ?_⟩
    · simp [Store.placeSample, Store.setTake]
    · rw [← readWord_newPage canonical page (by omega) a]
      simp only [Store.placeSample, Store.setTake, Fin.getElem_fin, Vector.getElem_set_self]
      simp only [Fin.getElem_fin] at allocated first
      have same : ({ st.takes[t.val] with chain := st.takes[t.val].chain ++ [page] } : Take).perPage =
          st.takes[t.val].perPage := rfl
      rw [same, allocated, first, Nat.zero_mul]

/-! ## The requests of the take store (R146 to R151) -/

section
variable {s s' : State} {tag : Byte} {t : Fin 32}

theorem eraseRefused_iff : eraseRefused t s = true ↔
    s.store.takes[t].locked = true ∨ s.store.takes[t].state ≠ .closed ∨ s.recorder.take = some t
      ∨ s.player.take = some t := by
  simp [eraseRefused, or_assoc]

theorem eraseRequest_of_takes (h : Takes s ⟨tag, 0x0C#8, [u8 t.val]⟩ s') :
    eraseRequest s = if eraseRefused t s then appendReply tag .refused [] false s' else beginErase tag t s' := by
  have taken := takeRequest_of_takes h
  rw [eraseRequest, show Instr.erase = (⟨tag, 0x0C#8, [u8 t.val]⟩ : Request).row from rfl, taken]
  obtain ⟨rest, -, rfl⟩ := h.head
  simp only [oneFin_byte (show 32 ≤ 256 by decide)]
  rfl

theorem Store.emptyTake_of_empty {st : Store} (empty : st.takes[t].chain = []) :
    st.emptyTake t = st.setTake t Take.initial := by
  rw [Store.emptyTake, empty]
  rfl

theorem Store.setTake_setTake (st : Store) (r r' : Take) : (st.setTake t r).setTake t r' = st.setTake t r' := by
  simp [Store.setTake]

theorem beginErase_empty (idle : s.mgmt.erasing = none) (empty : s.store.takes[t].chain = []) (tag : Byte) :
    beginErase tag t s = appendReply tag .ok [] false (s.withStore (s.store.setTake t Take.initial)) := by
  rw [beginErase, if_pos empty, endErase, Store.emptyTake_of_empty empty]
  congr 1
  rw [← idle]
  rfl

theorem beginErase_chain (pages : s.store.takes[t].chain ≠ []) (tag : Byte) :
    beginErase tag t s =
      (s.withStore (s.store.setTake t { s.store.takes[t] with state := .erasing })).withMgmt
        { s.mgmt with erasing := some ⟨tag, t⟩ } := by
  rw [beginErase, if_neg pages]

theorem pageReturn_idle (idle : s.mgmt.erasing = none) : pageReturn s = s := by
  simp [pageReturn, idle]

theorem returnPage_of_chain {st : Store} {page : Nat} {rest : List Nat} (chain : st.takes[t].chain = page :: rest) :
    st.returnPage t = { st with free := st.free ++ [page] }.setTake t { st.takes[t] with chain := rest } := by
  rw [Store.returnPage, chain]

theorem pageReturn_of_erasing (erasing : s.mgmt.erasing = some ⟨tag, t⟩) {page : Nat} {rest : List Nat}
    (chain : s.store.takes[t].chain = page :: rest) :
    (rest ≠ [] → pageReturn s =
        s.withStore
          ({ s.store with free := s.store.free ++ [page] }.setTake t { s.store.takes[t] with chain := rest }))
      ∧ (rest = [] → pageReturn s =
        appendReply tag .ok [] false
          ((s.withStore ({ s.store with free := s.store.free ++ [page] }.setTake t Take.initial)).withMgmt
            { s.mgmt with erasing := none })) := by
  rw [pageReturn, erasing]
  dsimp only
  rw [returnPage_of_chain chain]
  have left : (({ s.store with free := s.store.free ++ [page] }.setTake t
      { s.store.takes[t] with chain := rest }).takes[t]).chain = rest := by
    simp [Store.setTake]
  rw [State.withStore_store, left]
  refine ⟨fun more => if_neg more, fun last => ?_⟩
  rw [if_pos last, endErase, State.withStore_store, Store.emptyTake_of_empty (left.trans last), Store.setTake_setTake]
  rfl

/-- What makes a LOAD_PAGE of a LOADING take INVALID. -/
theorem pageInvalid_iff {r : Take} {b : PageBody} : pageInvalid r b = true ↔
    r.isOpen = false ∨ b.samples = 0 ∨ r.perPage < b.samples ∨ b.words.length ≠ b.samples * r.mask.size := by
  have outside : ¬(1 ≤ b.samples ∧ b.samples ≤ r.perPage) ↔ b.samples = 0 ∨ r.perPage < b.samples := by omega
  simp only [pageInvalid, within, Bool.or_eq_true, Bool.not_eq_true', decide_eq_false_iff_not, bne_iff_ne, outside,
    or_assoc]

/-- A LOAD_PAGE that is accepted: the page allocated holds its words from word 0 on. -/
theorem runLoadPage_accepts {b : PageBody} {page : Nat} {rest : List Nat}
    (loading : s.store.takes[b.take].state = .loading) (valid : ¬pageInvalid s.store.takes[b.take] b = true)
    (free : s.store.free = page :: rest) :
    runLoadPage b s =
      ⟨.ok, natBE 2 page ++ natBE 3 (s.store.takes[b.take].samples + b.samples),
        s.withStore
          { words := writeWords (clearPage s.store.words page) (wordAddress page 0) b.words, free := rest
            takes :=
              s.store.takes.set b.take.val
                { s.store.takes[b.take] with
                  chain := s.store.takes[b.take].chain ++ [page]
                  samples := s.store.takes[b.take].samples + b.samples
                  isOpen := decide (b.samples = s.store.takes[b.take].perPage) } }⟩ := by
  rw [runLoadPage]
  dsimp only
  rw [if_neg (not_not.2 loading), if_neg valid, Store.allocate_some free, free]
  simp [Store.fillPage, Store.setTake, Take.perPage]
  rfl

theorem runLoadPage_noSpace {b : PageBody} (loading : s.store.takes[b.take].state = .loading)
    (valid : ¬pageInvalid s.store.takes[b.take] b = true) (free : s.store.free = []) :
    runLoadPage b s = refuse .noSpace s := by
  rw [runLoadPage, if_neg (not_not.2 loading), if_neg valid, free]

theorem readPageBody_bytes (t : Fin 32) {ordinal : Nat} (small : ordinal < 65536) :
    readPageBody (u8 t.val :: natBE 2 ordinal) = some (t, ordinal) := by
  have number := readNat_append (n := 2) small []
  rw [List.append_nil] at number
  unfold readPageBody
  exact bind_read (readFin_append (by decide) t _) (bind_read number rfl)

/-- Settles O42: each request is answered by the branch of its tests; the page of a LOAD_PAGE is the one allocated. -/
theorem takeRequestsAct : Obligations.TakeRequestsAct := by
  intro s s' tag t
  refine ⟨fun h => ?erase, fun idle => congrArg _ (pageReturn_idle idle), fun page rest erasing chain => ?pageReturn,
    fun h => ?lock, fun h => ?unlock, fun body x read ofTake h => ?loadBegin, fun body x read ofTake h canonical => ?loadPage,
    fun h => ?loadEnd, fun ordinal small h => ?readPage⟩
  case erase =>
    have act := eraseRequest_of_takes h
    have onEmpty := beginErase_empty (s := s') (t := t) (tag := tag)
    have onChain := beginErase_chain (s := s') (t := t) (tag := tag)
    have idle := h.idle
    obtain ⟨rest, -, rfl⟩ := h.head
    refine ⟨fun refused => ?_, fun free empty => ?_, fun free pages => ?_⟩
    · rw [if_pos (eraseRefused_iff.2 refused)] at act
      exact congrArg _ act
    · rw [if_neg (mt eraseRefused_iff.1 free), onEmpty idle empty] at act
      exact congrArg _ act
    · rw [if_neg (mt eraseRefused_iff.1 free), onChain pages] at act
      exact congrArg _ act
  case pageReturn =>
    obtain ⟨more, last⟩ := pageReturn_of_erasing erasing chain
    exact ⟨fun h => congrArg _ (more h), fun h => congrArg _ (last h)⟩
  case lock =>
    have reply := h.replies_body (row := .lockTake) rfl (oneFin_byte (by decide) t) rfl
    obtain ⟨rest, -, rfl⟩ := h.head
    exact ⟨fun may => reply (if_pos may), fun open' closed => reply (if_neg (not_or.2 ⟨open', closed⟩))⟩
  case unlock =>
    have reply := h.replies_body (row := .unlockTake) rfl (oneFin_byte (by decide) t) rfl
    obtain ⟨rest, -, rfl⟩ := h.head
    exact reply rfl
  case loadBegin =>
    have reply := h.replies_body (row := .loadBegin) rfl read rfl
    obtain ⟨rest, -, rfl⟩ := h.head
    obtain rfl := ofTake
    exact ⟨fun refused => reply (if_pos refused), fun empty free => reply (if_neg (not_or.2 ⟨not_not.2 empty, free⟩))⟩
  case loadPage =>
    have reply := h.replies_body (row := .loadPage) rfl read rfl
    have accepts := @runLoadPage_accepts s' x
    have noSpace := runLoadPage_noSpace (s := s') (b := x)
    obtain ⟨rest, -, rfl⟩ := h.head
    obtain rfl := ofTake
    refine ⟨fun other => reply (if_pos other), fun loading bad => ?_, fun loading good free => ?_,
      fun loading good page rest free => ?_⟩
    · exact reply ((if_neg (not_not.2 loading)).trans (if_pos (pageInvalid_iff.2 bad)))
    · exact reply (noSpace loading (mt pageInvalid_iff.1 good) free)
    · exact ⟨_, reply (accepts loading (mt pageInvalid_iff.1 good) free),
        fun a fits => readWord_newPage canonical page fits a⟩
  case loadEnd =>
    have reply := h.replies_body (row := .loadEnd) rfl (oneFin_byte (by decide) t) rfl
    obtain ⟨rest, -, rfl⟩ := h.head
    exact ⟨fun other => reply (if_neg other), fun loading => reply (if_pos loading)⟩
  case readPage =>
    have reply := h.replies_body (row := .readPage) rfl (readPageBody_bytes t small) rfl
    obtain ⟨rest, -, rfl⟩ := h.head
    refine ⟨fun other => reply (if_pos other), fun closed beyond => reply ?_, fun closed page found => reply ?_⟩
    · refine (if_neg (not_not.2 closed)).trans ?_
      simp only [State.withMgmt_store, List.getElem?_eq_none beyond]
      rfl
    · refine (if_neg (not_not.2 closed)).trans ?_
      simp only [State.withMgmt_store, found, pageImage, List.flatMap_map]
      rfl

end

end Sys2Proof.Machine
end

section
/-! PROOFS. The choice of the Notice Arbiter (R191, R194, R195). -/

namespace Sys2Proof.Machine

theorem mem_classOrder (c : NoticeClass) (code : Nat) : c ∈ classOrder code := by
  unfold classOrder
  split <;> cases c <;> decide

theorem sourceLatched_iff (k : Fin 17) : sourceLatched k = true ↔ k.val ∈ [1, 4, 7, 8, 12, 14] := by
  simp [sourceLatched, or_assoc]

/-- A class is enabled exactly where the flag of the sources' range is set. -/
theorem enables_sourceClass (c : NoticeConfig) (k : Fin 17) :
    c.enables (sourceClass k) = true ↔ (k.val ≤ 4 → c.safety = true)
      ∧ (5 ≤ k.val → k.val ≤ 12 → c.motion = true) ∧ (13 ≤ k.val → c.link = true) := by
  unfold sourceClass
  split
  next safety =>
    simp only [NoticeConfig.enables, safety, forall_const, show ¬5 ≤ k.val by omega, show ¬13 ≤ k.val by omega,
      false_implies, and_true]
  next later =>
    split
    next motion =>
      simp only [NoticeConfig.enables, later, motion, forall_const, show 5 ≤ k.val by omega, show ¬13 ≤ k.val by omega,
        false_implies, and_true, true_and]
    next link =>
      simp only [NoticeConfig.enables, later, link, forall_const, show 5 ≤ k.val by omega, show 13 ≤ k.val by omega,
        false_implies, true_and]

theorem eligible_iff (n : Notices) (k : Fin 17) :
    n.eligible k = true ↔ n.entries[k].pending = true ∧ ¬(k.val ∈ [1, 4, 7, 8, 12, 14] ∧ n.entries[k].sent = true)
      ∧ n.config.global = true ∧ (k.val ≤ 4 → n.config.safety = true)
      ∧ (5 ≤ k.val → k.val ≤ 12 → n.config.motion = true) ∧ (13 ≤ k.val → n.config.link = true) := by
  rw [Notices.eligible, Bool.and_eq_true, Bool.and_eq_true, Bool.and_eq_true, Bool.not_eq_true',
    ← Bool.not_eq_true, Bool.and_eq_true, sourceLatched_iff, enables_sourceClass]
  tauto

theorem express_eq_some (n : Notices) (k : Fin 17) :
    n.express = some k ↔ n.config.express = some k ∧ n.eligible k = true := by
  unfold Notices.express
  split
  next e config =>
    rw [config, Option.some.injEq]
    split
    next eligible => rw [Option.some.injEq]; exact ⟨fun h => ⟨h, h ▸ eligible⟩, And.left⟩
    next not => simp only [reduceCtorEq, false_iff]; rintro ⟨rfl, eligible⟩; exact not eligible
  next config => simp [config]

/-- The first number that meets a test is the least. -/
theorem find_finRange_le {n : Nat} {test : Fin n → Bool} {k : Fin n} (found : (List.finRange n).find? test = some k) :
    test k = true ∧ ∀ j, test j = true → k ≤ j := by
  obtain ⟨meets, before, after, all, none⟩ := List.find?_eq_some_iff_append.1 found
  refine ⟨meets, fun j hj => ?_⟩
  have mem : j ∈ before ++ k :: after := all ▸ List.mem_finRange j
  have sorted : (before ++ k :: after).Pairwise (· < ·) := all ▸ List.pairwise_lt_finRange n
  obtain earlier | rfl | later := (List.mem_append.1 mem).imp_right List.mem_cons.1
  · exact absurd hj (by simpa using none j earlier)
  · exact Fin.le_refl _
  · exact (List.rel_of_pairwise_cons (List.pairwise_append.1 sorted).2.1 later).le

/-- In a class order, a class that is neither the one of a place nor before it stands after it. -/
theorem idxOf_lt_of_after {before after : List NoticeClass} {a c : NoticeClass} (ha : a ∉ before) (hc : c ∉ before)
    (other : c ≠ a) : (before ++ a :: after).idxOf a < (before ++ a :: after).idxOf c := by
  rw [List.idxOf_append_of_notMem ha, List.idxOf_append_of_notMem hc, List.idxOf_cons_self,
    List.idxOf_cons_ne _ other.symm]
  omega

theorem choice_none {n : Notices} (none : n.choice = none) (k : Fin 17) : n.eligible k = false := by
  have noneOfClass := List.findSome?_eq_none_iff.1 none _ (mem_classOrder (sourceClass k) _)
  simpa using List.find?_eq_none.1 noneOfClass k (List.mem_finRange k)

theorem choice_some {n : Notices} {k : Fin 17} (chosen : n.choice = some k) :
    n.eligible k = true
      ∧ ∀ j : Fin 17, n.eligible j = true →
        (classOrder n.config.order).idxOf (sourceClass k) < (classOrder n.config.order).idxOf (sourceClass j)
          ∨ (sourceClass k = sourceClass j ∧ k.val ≤ j.val) := by
  obtain ⟨before, c, after, order, found, none⟩ := List.findSome?_eq_some_iff.1 chosen
  obtain ⟨meets, least⟩ := find_finRange_le found
  simp only [Bool.and_eq_true, beq_iff_eq] at meets least
  obtain ⟨rfl, eligible⟩ := meets
  have notBefore : ∀ j : Fin 17, n.eligible j = true → sourceClass j ∉ before := fun j hj mem => by
    simpa [hj] using List.find?_eq_none.1 (none _ mem) j (List.mem_finRange j)
  refine ⟨eligible, fun j hj => ?_⟩
  by_cases same : sourceClass j = sourceClass k
  · exact .inr ⟨same.symm, least j ⟨same, hj⟩⟩
  · rw [order]
    exact .inl (idxOf_lt_of_after (notBefore k eligible) (notBefore j hj) same)

/-- Settles O17: the choice is the first of its class, and the classes before it have no eligible source. -/
theorem noticeChoiceIsTheFirstEligible : Obligations.NoticeChoiceIsTheFirstEligible := by
  refine ⟨by decide, eligible_iff, express_eq_some, fun n => ?_⟩
  cases chosen : n.choice with
  | none => exact choice_none chosen
  | some k => exact choice_some chosen

end Sys2Proof.Machine
end

section
/-! PROOFS. Bad frames: why a frame is bad, what is counted, and what a change of port state leaves (R1, R3, R30, R33,
R35). -/

namespace Sys2Proof.Machine

/-! ## The counts of the gate stand through a change of the cause sets -/

section
variable (s : State)

@[simp] theorem enterCut_counts (r) :
    (enterCut r s).gate.clamps = s.gate.clamps ∧ (enterCut r s).gate.withheld = s.gate.withheld
      ∧ (enterCut r s).gate.overridden = s.gate.overridden ∧ (enterCut r s).gate.refusals = s.gate.refusals := by
  unfold enterCut
  dsimp only
  split <;> simp [invalidateLast]

@[simp] theorem causeEnters_counts (c) :
    (causeEnters c s).gate.clamps = s.gate.clamps ∧ (causeEnters c s).gate.withheld = s.gate.withheld
      ∧ (causeEnters c s).gate.overridden = s.gate.overridden
      ∧ (causeEnters c s).gate.refusals = s.gate.refusals := by
  unfold causeEnters
  dsimp only
  repeat' split
  all_goals simp

@[simp] theorem handOver_counts (c b) :
    (handOver c b s).gate.clamps = s.gate.clamps ∧ (handOver c b s).gate.withheld = s.gate.withheld
      ∧ (handOver c b s).gate.overridden = s.gate.overridden ∧ (handOver c b s).gate.refusals = s.gate.refusals := by
  unfold handOver
  split <;> simp

@[simp] theorem handLink_counts :
    (handLink s).gate.clamps = s.gate.clamps ∧ (handLink s).gate.withheld = s.gate.withheld
      ∧ (handLink s).gate.overridden = s.gate.overridden ∧ (handLink s).gate.refusals = s.gate.refusals := by
  simp [handLink]

@[simp] theorem changePort_counts (p r new why) :
    (changePort p r new why s).gate.clamps = s.gate.clamps ∧ (changePort p r new why s).gate.withheld = s.gate.withheld
      ∧ (changePort p r new why s).gate.overridden = s.gate.overridden
      ∧ (changePort p r new why s).gate.refusals = s.gate.refusals := by
  cases p <;> simp [changePort]

end

/-! ## The port records through a change of port state (R30) -/

@[simp] theorem Link.port_setPort_same (l : Link) (p : Port) (r : PortRecord) : (l.setPort p r).port p = r := by
  cases p <;> rfl

/-- A change of port state leaves the record given, in the new state, with lock-held cleared outside UP and DEGRADED. -/
@[simp] theorem changePort_link (p r new why) (s : State) :
    (changePort p r new why s).link =
      s.link.setPort p { r with state := new, lockHeld := r.lockHeld && new.isUp } := by
  cases p <;> simp [changePort]

section
variable (s : State) (p : Port)

@[simp] theorem endWindow_counters (e) (r : PortRecord) :
    ((endWindow p e r s).link.port p).errored = r.errored
      ∧ ((endWindow p e r s).link.port p).unknownKind = r.unknownKind
      ∧ ((endWindow p e r s).link.port p).queueDrops = r.queueDrops := by
  unfold endWindow
  dsimp only
  repeat' split
  all_goals simp

@[simp] theorem countWindow_counters (e) (r : PortRecord) :
    ((countWindow p e r s).link.port p).errored = r.errored
      ∧ ((countWindow p e r s).link.port p).unknownKind = r.unknownKind
      ∧ ((countWindow p e r s).link.port p).queueDrops = r.queueDrops := by
  unfold countWindow
  dsimp only
  split <;> simp

@[simp] theorem linkBadState_counters :
    ((linkBadState p s).link.port p).errored = (s.link.port p).errored
      ∧ ((linkBadState p s).link.port p).unknownKind = (s.link.port p).unknownKind
      ∧ ((linkBadState p s).link.port p).queueDrops = (s.link.port p).queueDrops := by
  unfold linkBadState
  dsimp only
  repeat' split
  all_goals simp [PortRecord.dropped]

@[simp] theorem linkBadState_counts :
    (linkBadState p s).gate.clamps = s.gate.clamps ∧ (linkBadState p s).gate.withheld = s.gate.withheld
      ∧ (linkBadState p s).gate.overridden = s.gate.overridden
      ∧ (linkBadState p s).gate.refusals = s.gate.refusals := by
  unfold linkBadState countWindow endWindow
  dsimp only
  repeat' split
  all_goals simp

end

/-! ## Counters with thresholds (R35) -/

theorem crosses_iff {threshold before after : Nat} :
    crosses threshold before after = true ↔ threshold ≠ 0 ∧ before ≤ threshold ∧ threshold < after := by
  simp [crosses, and_assoc]

section
variable (s : State) (p : Port) (c : CounterName)

@[simp] theorem counter_setCounter (v : Nat) : (s.setCounter p c v).counter p c = v := by
  cases p <;> cases c <;> rfl

@[simp] theorem setCounter_thresholds (v : Nat) : (s.setCounter p c v).link.thresholds = s.link.thresholds := by
  cases p <;> cases c <;> rfl

theorem bumpCounter_crosses {s : State} {p : Port} {c : CounterName} (nonzero : s.link.thresholds.get p c ≠ 0)
    (below : s.counter p c ≤ s.link.thresholds.get p c)
    (above : s.link.thresholds.get p c < satInc 65535 (s.counter p c)) :
    bumpCounter p c s =
      raise 14 ([portCode p, c.code] ++ natBE 2 (s.link.thresholds.get p c))
        (s.setCounter p c (satInc 65535 (s.counter p c))) :=
  if_pos (crosses_iff.2 ⟨nonzero, below, above⟩)

theorem bumpCounter_quiet {s : State} {p : Port} {c : CounterName}
    (quiet : s.link.thresholds.get p c = 0 ∨ s.link.thresholds.get p c < s.counter p c
      ∨ satInc 65535 (s.counter p c) ≤ s.link.thresholds.get p c) :
    bumpCounter p c s = s.setCounter p c (satInc 65535 (s.counter p c)) := by
  refine if_neg fun h => ?_
  obtain ⟨nonzero, below, above⟩ := crosses_iff.1 h
  omega

theorem satInc_le {cap : Nat} (n : Nat) : satInc cap n ≤ cap := by
  unfold satInc
  split <;> omega

/-- An increment changes the ports and the cycle record as the counter set does. -/
theorem bumpCounter_link : (bumpCounter p c s).link = (s.setCounter p c (satInc 65535 (s.counter p c))).link
    ∧ (bumpCounter p c s).cycle = (s.setCounter p c (satInc 65535 (s.counter p c))).cycle := by
  unfold bumpCounter
  dsimp only
  split <;> simp

@[simp] theorem counter_bumpCounter : (bumpCounter p c s).counter p c = satInc 65535 (s.counter p c) := by
  obtain ⟨link, cycle⟩ := bumpCounter_link s p c
  rw [← counter_setCounter s p c (satInc 65535 (s.counter p c))]
  cases c <;> simp only [State.counter, link, cycle]

end

/-- The counters of a bad frame: errored frames, and unknown-kind frames for reason KIND. -/
theorem countBad_port (p : Port) (why : BadReason) (s : State) :
    (countBad p why s).link.port p =
      { s.link.port p with
        errored := satInc 65535 (s.link.port p).errored
        unknownKind :=
          if why = .kind then satInc 65535 (s.link.port p).unknownKind else (s.link.port p).unknownKind } := by
  unfold countBad
  dsimp only
  split
  · simp [bumpCounter_link, State.setCounter, State.counter]
  · simp [bumpCounter_link, State.setCounter, State.counter]

theorem countBad_cycle (p : Port) (why : BadReason) (s : State) : (countBad p why s).cycle = s.cycle := by
  unfold countBad
  dsimp only
  split <;> simp [bumpCounter_link, State.setCounter]

/-! ## The judgement of a frame (R1, R3, R20) -/

/-- The kinds that arrive on a port: the code, the kind, and its least and most payload lengths. -/
def arriving : Port → List (Byte × FrameKind × Nat × Nat)
  | .u => [(0x01#8, .cyc, 12, 12), (0x02#8, .set, 7, 7), (0x06#8, .mgt, 2, 274)]
  | .d => [(0x03#8, .fbk, 18, 18), (0x07#8, .rpy, 2, 274)]

theorem mem_arriving_of_arrivesOn {p : Port} {k : FrameKind} (arrives : k.arrivesOn p = true) :
    ∃ row ∈ arriving p, row.1 = k.code := by
  revert arrives
  cases p <;> cases k <;> decide

/-- The row of a kind that arrives names it, and gives the lengths that agree with it. -/
theorem of_mem_arriving {p : Port} {code : Byte} {k : FrameKind} {least most : Nat}
    (mem : (code, k, least, most) ∈ arriving p) :
    FrameKind.ofCode code = some k ∧ k.arrivesOn p = true
      ∧ ∀ n, k.lengthAgrees n = true ↔ least ≤ n ∧ n ≤ most := by
  cases p <;> simp only [arriving, List.mem_cons, Prod.mk.injEq, List.not_mem_nil, or_false] at mem
  · obtain ⟨rfl, rfl, rfl, rfl⟩ | ⟨rfl, rfl, rfl, rfl⟩ | ⟨rfl, rfl, rfl, rfl⟩ := mem
    · exact ⟨rfl, rfl, fun n => by simp only [FrameKind.lengthAgrees, beq_iff_eq]; omega⟩
    · exact ⟨rfl, rfl, fun n => by simp only [FrameKind.lengthAgrees, beq_iff_eq]; omega⟩
    · exact ⟨rfl, rfl, fun n => by simp only [FrameKind.lengthAgrees, decide_eq_true_eq]⟩
  · obtain ⟨rfl, rfl, rfl, rfl⟩ | ⟨rfl, rfl, rfl, rfl⟩ := mem
    · exact ⟨rfl, rfl, fun n => by simp only [FrameKind.lengthAgrees, beq_iff_eq]; omega⟩
    · exact ⟨rfl, rfl, fun n => by simp only [FrameKind.lengthAgrees, decide_eq_true_eq]⟩

theorem judge_check {p : Port} {bytes : List Byte}
    (differs : (crc16 (bytes.take (bytes.length - 2))).toNat ≠ beNat (bytes.drop (bytes.length - 2))) :
    judge p bytes = .bad .check :=
  if_pos differs

section
variable {p : Port} {bytes : List Byte}
  (same : (crc16 (bytes.take (bytes.length - 2))).toNat = beNat (bytes.drop (bytes.length - 2)))
include same

theorem judge_kind (unknown : ∀ row ∈ arriving p, row.1 ≠ (bytes.take (bytes.length - 2)).headD 0) :
    judge p bytes = .bad .kind := by
  unfold judge
  dsimp only
  rw [if_neg (not_not.2 same)]
  split
  next => rfl
  next k code =>
    have silent : k.arrivesOn p = false := Bool.eq_false_iff.mpr fun arrives => by
      obtain ⟨row, mem, names⟩ := mem_arriving_of_arrivesOn arrives
      exact unknown row mem (names.trans (FrameKind.code_of_ofCode code))
    rw [silent]
    rfl

theorem judge_arriving {code : Byte} {k : FrameKind} {least most : Nat}
    (first : (bytes.take (bytes.length - 2)).headD 0 = code) (mem : (code, k, least, most) ∈ arriving p) :
    judge p bytes =
      if least ≤ (bytes.take (bytes.length - 2)).length - 4 ∧ (bytes.take (bytes.length - 2)).length - 4 ≤ most then
        .good
          ⟨k, ((bytes.take (bytes.length - 2)).drop 1).headD 0, (bytes.take (bytes.length - 2)).drop 4⟩
      else .bad .length := by
  obtain ⟨named, arrives, agrees⟩ := of_mem_arriving mem
  unfold judge
  dsimp only
  rw [if_neg (not_not.2 same), first, named]
  simp only [arrives, Bool.not_true, Bool.false_eq_true, if_false, Bool.not_eq_true', ← Bool.not_eq_true, agrees,
    ite_not]

end

/-- The payload length that four bytes announce, and the decoder's answer while they are judged. -/
theorem receive_cases (p : Port) {bytes : List Byte} (long : 4 ≤ bytes.length) :
    let n := (bytes.getD 2 0x00#8).toNat * 256 + (bytes.getD 3 0x00#8).toNat
    (274 < n → receive p bytes = .judged (.bad .length))
      ∧ (n ≤ 274 → bytes.length < n + 6 → receive p bytes = .incomplete)
      ∧ (n ≤ 274 → n + 6 ≤ bytes.length → receive p bytes = .judged (judge p (bytes.take (n + 6)))) := by
  match bytes, long with
  | a :: b :: c :: d :: rest, _ =>
    intro n
    have announced : beNat (((a :: b :: c :: d :: rest).drop 2).take 2) = n := by simp [beNat, n]
    clear_value n
    unfold receive
    rw [announced, if_neg (by simp)]
    dsimp only
    rw [Nat.add_comm 6 n]
    refine ⟨fun large => if_pos large, fun small short => ?_, fun small whole => ?_⟩
    · rw [if_neg (by omega), if_pos short]
    · rw [if_neg (by omega), if_neg (by omega)]

/-- The bytes that a complete frame is judged by: what the check covers, the check, and the fields. -/
theorem complete_fields {bytes : List Byte} {n : Nat} (whole : n + 6 ≤ bytes.length) :
    (bytes.take (n + 6)).take ((bytes.take (n + 6)).length - 2) = bytes.take (n + 4)
      ∧ beNat ((bytes.take (n + 6)).drop ((bytes.take (n + 6)).length - 2)) =
        (bytes.getD (n + 4) 0x00#8).toNat * 256 + (bytes.getD (n + 5) 0x00#8).toNat
      ∧ (bytes.take (n + 4)).headD 0 = bytes.getD 0 0x00#8
      ∧ ((bytes.take (n + 4)).drop 1).headD 0 = bytes.getD 1 0x00#8
      ∧ (bytes.take (n + 4)).length - 4 = n ∧ (bytes.take (n + 4)).drop 4 = (bytes.drop 4).take n := by
  have length : (bytes.take (n + 6)).length = n + 6 := by rw [List.length_take]; omega
  have covered : (bytes.take (n + 4)).length = n + 4 := by rw [List.length_take]; omega
  refine ⟨?_, ?_, ?_, ?_, by omega, ?_⟩
  · rw [length, List.take_take]
    congr 1
    omega
  · have check : (bytes.take (n + 6)).drop (n + 6 - 2) = [bytes.getD (n + 4) 0x00#8, bytes.getD (n + 5) 0x00#8] := by
      rw [List.drop_take, show n + 6 - (n + 6 - 2) = 2 by omega, show n + 6 - 2 = n + 4 by omega,
        List.drop_eq_getElem_cons (show n + 4 < bytes.length by omega),
        List.drop_eq_getElem_cons (show n + 4 + 1 < bytes.length by omega),
        List.getD_eq_getElem _ _ (show n + 4 < bytes.length by omega),
        List.getD_eq_getElem _ _ (show n + 5 < bytes.length by omega)]
      rfl
    rw [length, check]
    simp [beNat]
  · match bytes with
    | a :: rest => rfl
  · match bytes with
    | a :: b :: rest => rfl
  · rw [List.drop_take, Nat.add_sub_cancel]

/-- What a bad frame leaves, counted at its port (R3, R33, R183). -/
theorem frameBytes_bad {cyc fbk} {p : Port} {bytes : List Byte} {cut : Bool} {why : BadReason} {s : State}
    (empty : s.spine.receiving p = []) (decodes : p = .u ∨ s.inTest = false)
    (bad : receive p bytes = .judged (.bad why) ∨ (receive p bytes = .incomplete ∧ cut = true ∧ why = .length)) :
    frameBytes cyc fbk p bytes cut s = badFrameAt p why (s.withSpine (s.spine.setReceiving p [])) := by
  have silent : ¬(p = .d ∧ s.inTest = true) := by
    rintro ⟨rfl, test⟩
    obtain u | d := decodes
    · cases u
    · simp [test] at d
  unfold frameBytes
  rw [if_neg silent, empty, List.nil_append]
  dsimp only
  obtain judged | ⟨incomplete, rfl, rfl⟩ := bad
  · rw [judged]
  · rw [incomplete, if_pos rfl]

theorem badFrameAt_cues (p : Port) (why : BadReason) (s : State) (n : Fin 8) :
    (badFrameAt p why s).cues[n] = { s.cues[n] with progress := if p = .u then 0 else s.cues[n].progress } := by
  cases p <;> simp [badFrameAt, resetProgress]

/-- All but the slots is left of a bad frame as the counts and the change of port state leave it. -/
theorem badFrameAt_rest (p : Port) (why : BadReason) (s : State) :
    badFrameAt p why s = (linkBad p why s).withCues (badFrameAt p why s).cues := by
  cases p <;> rfl

theorem linkBad_counts (p : Port) (why : BadReason) (s : State) :
    (linkBad p why s).gate.clamps = s.gate.clamps ∧ (linkBad p why s).gate.withheld = s.gate.withheld
      ∧ (linkBad p why s).gate.overridden = s.gate.overridden
      ∧ (linkBad p why s).gate.refusals = s.gate.refusals := by
  simp [linkBad]

theorem linkBad_cycle (p : Port) (why : BadReason) (s : State) : (linkBad p why s).cycle = s.cycle := by
  simp [linkBad, countBad_cycle]

/-- Settles O12: the reasons are read off the judgement, the counters are those of the port, and an increment crosses a
threshold or not. -/
theorem badFramesAreCounted : Obligations.BadFramesAreCounted := by
  refine ⟨fun p bytes long => ?reasons, fun p bytes short => if_pos short,
    fun s p bytes cut why empty decodes bad => ?counted, fun s p c => ?counter⟩
  case reasons =>
    obtain ⟨large, short, complete⟩ := receive_cases p long
    refine ⟨large, short, fun small whole => ?_⟩
    obtain ⟨covered, check, kind, address, length, payload⟩ := complete_fields whole
    rw [complete small whole]
    refine ⟨fun differs => ?_, fun same => ⟨fun unknown => ?_, fun k least most mem => ?_⟩⟩
    · rw [judge_check (by rwa [covered, check])]
    · rw [judge_kind (by rw [covered, check, same]) (by rwa [covered, kind])]
    · rw [judge_arriving (p := p) (by rw [covered, check, same]) (by rw [covered, kind]) mem, covered, length, address,
        payload]
      exact ⟨fun outside => by rw [if_neg (by omega)], fun low high => by rw [if_pos ⟨low, high⟩]⟩
  case counted =>
    refine ⟨_, congrArg Host.Outcome.next (frameBytes_bad empty decodes bad), ?_⟩
    have port : (s.withSpine (s.spine.setReceiving p [])).link.port p = s.link.port p := rfl
    obtain ⟨clamps, withheld, overridden, refusals⟩ := linkBad_counts p why (s.withSpine (s.spine.setReceiving p []))
    have cycle := linkBad_cycle p why (s.withSpine (s.spine.setReceiving p []))
    refine ⟨?_, ?_, fun n => badFrameAt_cues _ _ _ n, ?_⟩
    · rw [badFrameAt_rest]
      simp [linkBad, countBad_port]
    · rw [badFrameAt_rest]
      simp [linkBad, countBad_port]
    · rw [badFrameAt_rest]
      simp [clamps, withheld, overridden, refusals, cycle]
  case counter =>
    refine ⟨bumpCounter_crosses, bumpCounter_quiet, fun top => bumpCounter_quiet (.inr (.inr ?_)),
      counter_bumpCounter s p c, by simp⟩
    exact top ▸ satInc_le _

end Sys2Proof.Machine
end

section
/-! PROOFS. The occurrences of notices that an operation brings about, in order, while a frame is in transmission on U
(R191, R196). -/

namespace Sys2Proof.Machine

/-! ## A log of occurrences -/

/-- An occurrence of a notice source with its detail. -/
abbrev Note := Fin 17 × List Byte

/-- The notice entries after the occurrences of a log, in order (R191). -/
def noted (timecode : Timecode) (log : List Note) (entries : Vector NoticeEntry 17) : Vector NoticeEntry 17 :=
  log.foldl (fun es n => es.set n.1.val (es[n.1].occur (sourceLatched n.1) timecode n.2)) entries

/-- The details of a log's occurrences of one source. -/
def detailsOf (k : Fin 17) (log : List Note) : List (List Byte) := (log.filter fun n => n.1 == k).map Prod.snd

/-- Behind a frame in transmission on U, which stays there, the occurrences from one state to another are those of a
log; the timecode, with which they are stamped, stands. -/
structure Noted (log : List Note) (s t : State) : Prop where
  timecode : t.cycle.timecode = s.cycle.timecode
  sending : s.spine.sendingU.isSome = true → t.spine.sendingU = s.spine.sendingU
  entries : s.spine.sendingU.isSome = true → t.notices.entries = noted s.cycle.timecode log s.notices.entries

/-- The occurrences from one state to another are those of some log of the sources given. -/
def NotesAmong (ks : List (Fin 17)) (s t : State) : Prop := ∃ log, Noted log s t ∧ ∀ n ∈ log, n.1 ∈ ks

theorem noted_getElem (timecode : Timecode) (log : List Note) (entries : Vector NoticeEntry 17) (k : Fin 17) :
    (noted timecode log entries)[k] =
      (detailsOf k log).foldl (fun e detail => e.occur (sourceLatched k) timecode detail) entries[k] := by
  induction log generalizing entries with
  | nil => rfl
  | cons n rest ih =>
    rw [noted, List.foldl_cons, ← noted, ih]
    obtain ⟨j, detail⟩ := n
    simp only [detailsOf, List.filter_cons]
    by_cases same : j = k
    · subst same
      simp
    · have apart : j.val ≠ k.val := fun h => same (Fin.ext h)
      simp [same, Vector.getElem_set_ne, apart]

@[simp] theorem detailsOf_nil (k : Fin 17) : detailsOf k [] = [] := rfl

@[simp] theorem detailsOf_append (k : Fin 17) (log log' : List Note) :
    detailsOf k (log ++ log') = detailsOf k log ++ detailsOf k log' := by
  simp [detailsOf]

theorem detailsOf_cons_same (k : Fin 17) (d : List Byte) (log : List Note) :
    detailsOf k ((k, d) :: log) = d :: detailsOf k log := by
  simp [detailsOf]

theorem detailsOf_cons_other {j k : Fin 17} (other : j ≠ k) (d : List Byte) (log : List Note) :
    detailsOf k ((j, d) :: log) = detailsOf k log := by
  simp [detailsOf, other]

theorem detailsOf_eq_nil {k : Fin 17} {log : List Note} (none : ∀ n ∈ log, n.1 ≠ k) : detailsOf k log = [] := by
  simpa [detailsOf] using fun a b mem => none (a, b) mem

section
variable {s t u : State} {log log' : List Note} {ks ks' : List (Fin 17)} {k : Fin 17}

theorem Noted.refl (s : State) : Noted [] s s := ⟨rfl, fun _ => rfl, fun _ => rfl⟩

/-- A change outside the notice entries, the transmission on U and the timecode. -/
theorem Noted.of_same (timecode : t.cycle.timecode = s.cycle.timecode)
    (sending : s.spine.sendingU.isSome = true → t.spine.sendingU = s.spine.sendingU)
    (entries : s.spine.sendingU.isSome = true → t.notices.entries = s.notices.entries) : Noted [] s t :=
  ⟨timecode, sending, entries⟩

theorem Noted.trans (h : Noted log s t) (g : Noted log' t u) : Noted (log ++ log') s u where
  timecode := g.timecode.trans h.timecode
  sending busy := (g.sending (h.sending busy ▸ busy)).trans (h.sending busy)
  entries busy := by
    rw [g.entries (h.sending busy ▸ busy), h.entries busy, h.timecode]
    exact (List.foldl_append ..).symm

/-- The occurrences of one source that a log holds. -/
theorem Noted.occurrences (h : Noted log s t) {details : List (List Byte)} (same : detailsOf k log = details) :
    Occurrences k details s t := by
  intro busy
  rw [h.entries busy, noted_getElem, same]

theorem NotesAmong.trans (h : NotesAmong ks s t) (g : NotesAmong ks t u) : NotesAmong ks s u := by
  obtain ⟨log, first, among⟩ := h
  obtain ⟨log', second, among'⟩ := g
  refine ⟨log ++ log', first.trans second, fun n mem => ?_⟩
  obtain before | after := List.mem_append.1 mem
  · exact among n before
  · exact among' n after

theorem NotesAmong.of_noted (h : Noted log s t) (among : ∀ n ∈ log, n.1 ∈ ks) : NotesAmong ks s t := ⟨log, h, among⟩

theorem NotesAmong.of_same (timecode : t.cycle.timecode = s.cycle.timecode)
    (sending : s.spine.sendingU.isSome = true → t.spine.sendingU = s.spine.sendingU)
    (entries : s.spine.sendingU.isSome = true → t.notices.entries = s.notices.entries) : NotesAmong ks s t :=
  ⟨[], .of_same timecode sending entries, nofun⟩

theorem NotesAmong.refl (ks) (s : State) : NotesAmong ks s s := ⟨[], .refl s, nofun⟩

theorem NotesAmong.mono (h : NotesAmong ks s t) (sub : ks ⊆ ks') : NotesAmong ks' s t := by
  obtain ⟨log, noted, among⟩ := h
  exact ⟨log, noted, fun n mem => sub (among n mem)⟩

/-- A source outside those of the occurrences has none. -/
theorem NotesAmong.none (h : NotesAmong ks s t) (out : k ∉ ks) : Occurrences k [] s t := by
  obtain ⟨log, noted, among⟩ := h
  exact noted.occurrences (detailsOf_eq_nil fun n mem same => out (same ▸ among n mem))

/-- After occurrences that a log holds, others of other sources. -/
theorem Noted.then (h : Noted log s t) (g : NotesAmong ks t u) (out : k ∉ ks) {details : List (List Byte)}
    (same : detailsOf k log = details) : Occurrences k details s u := by
  obtain ⟨log', noted, among⟩ := g
  have quiet : detailsOf k log' = [] := detailsOf_eq_nil fun n mem here => out (here ▸ among n mem)
  exact (h.trans noted).occurrences (by rw [detailsOf_append, same, quiet, List.append_nil])

end

/-! ## The shared operations -/

theorem opportunityU_busy {s : State} (busy : s.spine.sendingU.isSome = true) : opportunityU s = s := by
  rw [opportunityU, if_neg]
  simpa [Option.isSome_iff_ne_none] using busy

section
variable (s : State)

theorem noteOccurrence_noted (k d) : Noted [(k, d)] s (noteOccurrence k d s) := by
  refine ⟨by simp, fun busy => ?_, fun busy => ?_⟩
  · rw [noteOccurrence, opportunityU_busy (by exact busy)]
    rfl
  · rw [noteOccurrence, opportunityU_busy (by exact busy)]
    rfl

theorem opportunityD_sendingU : (opportunityD s).spine.sendingU = s.spine.sendingU := by
  unfold opportunityD takeD
  dsimp only
  repeat' split
  all_goals rfl

theorem offerBrake_noted (a) : Noted [] s (offerBrake a s) := by
  refine .of_same (by simp) (fun _ => ?_) (by simp)
  unfold offerBrake
  split
  · rfl
  · exact opportunityD_sendingU _

theorem offerDecel_noted (k n) : Noted [] s (offerDecel k n s) := by
  refine .of_same (by simp) (fun _ => ?_) (by simp)
  unfold offerDecel
  split
  · rfl
  · exact opportunityD_sendingU _

theorem offerDecels_noted : Noted [] s (offerDecels s) := by
  have all : ∀ (ks : List (Fin 7)) (s : State),
      Noted [] s (ks.foldl (fun s k => offerDecel k s.pose.axes[k.val].deceleration s) s) := by
    intro ks
    induction ks with
    | nil => exact .refl
    | cons k rest ih => exact fun s => (offerDecel_noted s k _).trans (ih _)
  exact all _ s

theorem refreshLamps_noted : Noted [] s (refreshLamps s) := .of_same rfl (fun _ => rfl) fun _ => rfl

theorem withStop_noted (x) : Noted [] s (s.withStop x) := .of_same rfl (fun _ => rfl) fun _ => rfl

theorem changeState_noted (st r) : Noted [(0, [s.stop.state.code, st.code, r.code])] s (changeState st r s) :=
  (withStop_noted s _).trans (noteOccurrence_noted _ _ _)

theorem enterHeld_noted (r) :
    Noted [(0, [s.stop.state.code, StopState.held.code, r.code])] s (enterHeld r s) := by
  have held := (withStop_noted s { s.stop with
    rampTimer := .stopped, standstill := FlagSet.empty 7, detector := Detector.initial }).trans
    ((changeState_noted _ .held r).trans (offerBrake_noted _ .engage))
  exact held.trans (refreshLamps_noted _)

/-- The occurrences of a notice raised: its own, and those of the wake that it brings about where it becomes pending in a
PARKED part that it wakes. -/
def raiseLog (k : Fin 17) (d : List Byte) (s : State) : List Note :=
  (k, d)
    :: if !s.notices.entries[k].pending && s.notices.config.wake[k] && s.stop.state == .parked then
      [(0, [StopState.parked.code, StopState.held.code, StopReason.wakeSource.code]), (16, [0x01#8, u8 k.val])]
    else []

theorem raise_noted (k d) : Noted (raiseLog k d s) s (raise k d s) := by
  unfold raise raiseLog
  dsimp only
  have occurs := noteOccurrence_noted s k d
  split
  next wakes =>
    simp only [Bool.and_eq_true, beq_iff_eq] at wakes
    have held := enterHeld_noted (noteOccurrence k d s) (WakeReason.source k).stopReason
    have state : (noteOccurrence k d s).stop.state = .parked := by simpa using wakes.2
    rw [state] at held
    exact occurs.trans (held.trans (noteOccurrence_noted _ 16 (WakeReason.source k).detail))
  next => exact occurs

theorem raise_noted_awake {s : State} (awake : s.stop.state ≠ .parked) (k d) : Noted [(k, d)] s (raise k d s) := by
  have log : raiseLog k d s = [(k, d)] := by simp [raiseLog, awake]
  exact log ▸ raise_noted s k d

theorem raise_among {ks : List (Fin 17)} {k : Fin 17} (own : k ∈ ks) (zero : 0 ∈ ks) (wake : 16 ∈ ks) (d) :
    NotesAmong ks s (raise k d s) := by
  refine .of_noted (raise_noted s k d) fun n mem => ?_
  unfold raiseLog at mem
  split at mem
  · simp only [List.mem_cons, List.not_mem_nil, or_false] at mem
    obtain rfl | rfl | rfl := mem <;> assumption
  · obtain rfl := List.mem_singleton.1 mem
    exact own

end

/-! ## The stop supervision: notices 0, 1, 5, 9 and 16 (R104, R105, R114, R156, R162) -/

/-- The sources of the notices that a change of the cause sets may bring about. -/
def stopSources : List (Fin 17) := [0, 1, 5, 9, 16]

section
variable {s : State}

theorem raise_ofStop {k : Fin 17} (own : k ∈ stopSources) (d) (s : State) : NotesAmong stopSources s (raise k d s) :=
  raise_among s own (by decide) (by decide) d

theorem enterHeld_among (r) (s : State) : NotesAmong stopSources s (enterHeld r s) :=
  .of_noted (enterHeld_noted s r) (by simp [stopSources])

theorem enterPlayer_among (new) (s : State) : NotesAmong stopSources s (enterPlayer new s) := by
  have raised := raise_ofStop (k := 5) (by decide)
    ([s.player.state.code, new.code] ++ optionBytes 1 (s.player.take.map fun t => [u8 t.val])
      ++ natBE 3 s.player.index) (s.withPlayer { s.player with state := new })
  have entered : NotesAmong stopSources s (s.withPlayer { s.player with state := new }) :=
    .of_same rfl (fun _ => rfl) fun _ => rfl
  exact entered.trans (raised.trans (.of_noted (refreshLamps_noted _) nofun))

theorem closeRecorder_noted (e) (s : State) : Noted [] s (closeRecorder e s) := .of_same (by simp) (by simp) (by simp)

theorem endRecording_among (e) (s : State) : NotesAmong stopSources s (endRecording e s) := by
  unfold endRecording
  split
  · exact (NotesAmong.of_noted (closeRecorder_noted e s) nofun).trans
      ((raise_ofStop (by decide) _ _).trans (.of_noted (refreshLamps_noted _) nofun))
  · exact .refl _ s

theorem leaveRun_among (s : State) : NotesAmong stopSources s (leaveRun s) := by
  have interrupted : NotesAmong stopSources s (interruptRecorder s) := by
    unfold interruptRecorder
    split
    · exact .refl _ s
    · exact endRecording_among _ s
  unfold leaveRun suspendPlayer
  split
  · refine .trans ?_ (enterPlayer_among _ _)
    exact interrupted.trans (.of_same rfl (fun _ => rfl) fun _ => rfl)
  · exact interrupted

theorem invalidateLast_noted (s : State) : Noted [] s (invalidateLast s) := .of_same rfl (fun _ => rfl) fun _ => rfl

/-- The entry to CUT up to what leaving RUN brings about: one notice 0. -/
theorem enterCut_among (r) (s : State) : NotesAmong stopSources s (enterCut r s) := by
  unfold enterCut
  dsimp only
  have cut := (withStop_noted s { s.stop with
    rampTimer := .stopped, standstill := FlagSet.empty 7, detector := Detector.initial }).trans
    ((changeState_noted _ .cut r).trans ((invalidateLast_noted _).trans (offerBrake_noted _ .engage)))
  have among := NotesAmong.of_noted (ks := stopSources) cut (by simp [stopSources])
  split
  · exact among.trans ((leaveRun_among _).trans (.of_noted (refreshLamps_noted _) nofun))
  · exact among.trans (.of_noted (refreshLamps_noted _) nofun)

theorem enterRamp_among (r) (s : State) : NotesAmong stopSources s (enterRamp r s) := by
  unfold enterRamp
  dsimp only
  refine .trans ?_ (.of_noted (refreshLamps_noted _) nofun)
  refine .trans ?_ (leaveRun_among _)
  exact .of_noted ((changeState_noted s .ramp r).trans ((withStop_noted _ _).trans (offerDecels_noted _)))
    (by simp [stopSources])

theorem joinTrip_among (c) (s : State) : NotesAmong stopSources s (joinTrip c s) := by
  unfold joinTrip
  split
  · exact .refl _ s
  · exact (NotesAmong.of_noted (withStop_noted s _) nofun).trans (raise_ofStop (by decide) _ _)

theorem joinPresent_among (s : State) : NotesAmong stopSources s (joinPresent s) := by
  have all : ∀ (cs : List (Fin 21)) (s : State), NotesAmong stopSources s (cs.foldl (fun s c => joinTrip c s) s) := by
    intro cs
    induction cs with
    | nil => exact .refl _
    | cons c rest ih => exact fun s => (joinTrip_among c s).trans (ih _)
  exact all _ s

theorem judgeCut_among (s : State) : NotesAmong stopSources s (judgeCut s) := by
  unfold judgeCut
  split
  · exact enterHeld_among _ s
  · exact .refl _ s

theorem causeEnters_among (c) (s : State) : NotesAmong stopSources s (causeEnters c s) := by
  have inserted : NotesAmong stopSources s
      (s.withStop { s.stop with present := FlagSet.insert s.stop.present c.code }) := .of_noted (withStop_noted s _) nofun
  unfold causeEnters
  dsimp only
  split
  · exact .refl _ s
  · refine inserted.trans ?_
    split
    · split
      · exact (NotesAmong.of_noted (offerBrake_noted _ _) nofun).trans (joinTrip_among _ _)
      · split
        · exact (enterCut_among _ _).trans (joinPresent_among _)
        · exact (enterCut_among _ _).trans (joinTrip_among _ _)
    · split
      · exact (enterRamp_among _ _).trans (joinPresent_among _)
      · exact (joinTrip_among _ _).trans (judgeCut_among _)

theorem causeLeaves_among (c) (s : State) : NotesAmong stopSources s (causeLeaves c s) := by
  unfold causeLeaves
  split
  · exact (NotesAmong.of_noted (withStop_noted s _) nofun).trans (judgeCut_among _)
  · exact .refl _ s

theorem handOver_among (c b) (s : State) : NotesAmong stopSources s (handOver c b s) := by
  unfold handOver
  split
  · exact causeEnters_among c s
  · exact causeLeaves_among c s

theorem rampEvent_among (c) (s : State) : NotesAmong stopSources s (rampEvent c s) := by
  unfold rampEvent
  split
  · exact (enterRamp_among _ _).trans ((joinPresent_among _).trans (joinTrip_among _ _))
  · exact joinTrip_among _ s

end

end Sys2Proof.Machine
end

section
/-! PROOFS. The port states: what each change of state leaves, and how frames are counted (R24 to R33). -/

namespace Sys2Proof.Machine

/-! ## What the Link Supervisor does in each state (R25 to R29) -/

theorem isUp_iff {x : PortState} : x.isUp = true ↔ x = .up ∨ x = .degraded := by
  cases x <;> simp [PortState.isUp]

section
variable {s : State} {p : Port} {r : PortRecord} (port : s.link.port p = r)
include port

theorem linkGood_down (down : r.state = .down) :
    linkGood p s =
      if 8 ≤ r.goodRun + 1 then
        changePort p { r with goodRun := 0, linkUpTimer := s.startTimer s.stop.config.linkUpTime } .acquiring
          .eightGood s
      else s.withLink (s.link.setPort p { r with goodRun := r.goodRun + 1 }) := by
  simp only [linkGood, port, down]

theorem linkGood_idle (idle : r.state = .acquiring ∨ r.state = .test) : linkGood p s = s := by
  obtain state | state := idle <;> simp only [linkGood, port, state]

theorem linkGood_up (up : r.state.isUp = true) : linkGood p s = countWindow p 0 { r with badRun := 0 } s := by
  obtain state | state := isUp_iff.1 up <;> simp only [linkGood, port, state]

theorem linkBadState_down (down : r.state = .down) :
    linkBadState p s = s.withLink (s.link.setPort p { r with goodRun := 0 }) := by
  simp only [linkBadState, port, down]

theorem linkBadState_acquiring (acquiring : r.state = .acquiring) :
    linkBadState p s = changePort p r.dropped .down .badFrame s := by
  simp only [linkBadState, port, acquiring]

theorem linkBadState_fourth (up : r.state.isUp = true) (run : 3 ≤ r.badRun) :
    linkBadState p s = changePort p { r.dropped with badRun := r.badRun + 1 } .down .badRun s := by
  have fourth : 4 ≤ r.badRun + 1 := by omega
  obtain state | state := isUp_iff.1 up <;> simp only [linkBadState, port, state, fourth, if_true]

theorem linkBadState_counted (up : r.state.isUp = true) (run : r.badRun < 3) :
    linkBadState p s = countWindow p 1 { r with badRun := r.badRun + 1 } s := by
  have few : ¬4 ≤ r.badRun + 1 := by omega
  obtain state | state := isUp_iff.1 up <;> simp only [linkBadState, port, state, few, if_false]

theorem signalLost_down (down : r.state = .down) :
    signalLost p s =
      (s.withSpine (s.spine.setReceiving p [])).withLink
        (s.link.setPort p { r with signal := false, goodRun := 0 }) := by
  have port' : (s.withSpine (s.spine.setReceiving p [])).link.port p = r := port
  simp only [signalLost, port', down]
  rfl

theorem signalLost_test (test : r.state = .test) :
    signalLost p s =
      (s.withSpine (s.spine.setReceiving p [])).withLink
        { s.link.setPort p { r with signal := false } with
          test := { s.link.test with checking := false, latest := [] } } := by
  have port' : (s.withSpine (s.spine.setReceiving p [])).link.port p = r := port
  simp only [signalLost, port', test]
  cases p <;> rfl

theorem signalLost_up (up : r.state = .acquiring ∨ r.state = .up ∨ r.state = .degraded) :
    signalLost p s =
      changePort p { r with signal := false : PortRecord }.dropped .down .signalLost
        (s.withSpine (s.spine.setReceiving p [])) := by
  have port' : (s.withSpine (s.spine.setReceiving p [])).link.port p = r := port
  obtain state | state | state := up <;> simp only [signalLost, port', state]

end

theorem countWindow_inside {s : State} {p : Port} {e : Nat} {r : PortRecord} (inside : r.windowFrames < 1023) :
    countWindow p e r s =
      s.withLink
        (s.link.setPort p { r with windowFrames := r.windowFrames + 1, windowErrors := r.windowErrors + e }) :=
  if_neg (by omega)

theorem countWindow_ends {s : State} {p : Port} {e : Nat} {r : PortRecord} (ends : 1023 ≤ r.windowFrames) :
    countWindow p e r s = endWindow p (r.windowErrors + e) r s :=
  if_pos (by omega)

section
variable {s : State} {p : Port} {e : Nat} {r : PortRecord}

theorem endWindow_degrades (up : r.state = .up) (bad : s.stop.config.highError ≤ e) :
    endWindow p e r s =
      changePort p
        { r with
          windowFrames := 0, windowErrors := 0, holdPassed := false
          holdTimer := s.startTimer s.stop.config.degradeHold }
        .degraded .window s := by
  simp only [endWindow, up, bad, decide_true, if_true]

theorem endWindow_recovers (degraded : r.state = .degraded) (good : e < s.stop.config.highError)
    (passed : r.holdPassed = true) :
    endWindow p e r s =
      changePort p { r with windowFrames := 0, windowErrors := 0, holdPassed := false } .up .window s := by
  have fine : ¬s.stop.config.highError ≤ e := by omega
  simp only [endWindow, degraded, fine, passed, decide_false, Bool.not_false, Bool.and_self, if_true]

theorem endWindow_stays
    (stays : r.state = .up ∧ e < s.stop.config.highError
      ∨ r.state = .degraded ∧ (s.stop.config.highError ≤ e ∨ r.holdPassed = false)) :
    endWindow p e r s = s.withLink (s.link.setPort p { r with windowFrames := 0, windowErrors := 0 }) := by
  obtain ⟨up, good⟩ | ⟨degraded, bad | waits⟩ := stays
  · have fine : ¬s.stop.config.highError ≤ e := by omega
    simp [endWindow, up, fine]
  · simp [endWindow, degraded, bad]
  · simp [endWindow, degraded, waits]

end

/-! ## A change of port state (R30 to R32) -/

theorem detailsOf_raiseLog {k : Fin 17} (own : k ≠ 0) (own' : k ≠ 16) (d : List Byte) (s : State) :
    detailsOf k (raiseLog k d s) = [d] := by
  unfold raiseLog
  rw [detailsOf_cons_same]
  split
  · rw [detailsOf_cons_other own.symm, detailsOf_cons_other own'.symm, detailsOf_nil]
  · rfl

theorem handLink_among (s : State) : NotesAmong stopSources s (handLink s) := by
  unfold handLink
  exact (handOver_among _ _ s).trans (.of_same rfl (fun _ => rfl) fun _ => rfl)

/-- A change of port state raises notice 13 once. -/
theorem changePort_notes (p r new why) (s : State) :
    Occurrences 13 [[portCode p, (s.link.port p).state.code, new.code, why.code]] s (changePort p r new why s) := by
  unfold changePort
  dsimp only
  have raised := (Noted.of_same (t := s.withLink (s.link.setPort p
    { r with state := new, lockHeld := r.lockHeld && new.isUp })) rfl (fun _ => rfl) fun _ => rfl).trans
    (raise_noted _ 13 [portCode p, (s.link.port p).state.code, new.code, why.code])
  have one := detailsOf_raiseLog (k := 13) (by decide) (by decide)
    [portCode p, (s.link.port p).state.code, new.code, why.code]
  split
  · exact raised.occurrences (one _)
  · exact raised.then (handLink_among _) (by decide) (one _)

/-- After one occurrence of a source that is not latched, it is pending with the detail. -/
theorem Occurrences.pending {k : Fin 17} {d : List Byte} {s t : State} (h : Occurrences k [d] s t)
    (free : sourceLatched k = false) (busy : s.spine.sendingU.isSome = true) :
    t.notices.entries[k].pending = true ∧ t.notices.entries[k].detail = d := by
  rw [h busy, List.foldl_cons, List.foldl_nil, NoticeEntry.occur, free]
  split
  next => exact ⟨rfl, rfl⟩
  next pending => exact ⟨by simpa using pending, rfl⟩

/-- The state in which a change of port state begins, as far as the change depends on it: the counters of a port may
have been raised, and its reception ended. -/
structure BeforeChange (p : Port) (s s' : State) : Prop where
  state : (s'.link.port p).state = (s.link.port p).state
  env : s'.env = s.env
  pose : s'.pose = s.pose
  lens : s'.lens = s.lens
  cues : s'.cues = s.cues
  pins : s'.pins = s.pins
  config : s'.stop.config = s.stop.config
  other : p = .u → s'.link.d = s.link.d
  notes : NotesAmong [14, 0, 16] s s'

/-- What a change of port state leaves: the record, notice 13 with the reason, for D the hand-overs, and every record
beside. -/
def PortReaches (p : Port) (r' : PortRecord) (reason : Byte) (s t : State) : Prop :=
  t.link.port p = r'
    ∧ (s.spine.sendingU.isSome = true →
      t.notices.entries[13].pending = true
        ∧ t.notices.entries[13].detail = [portCode p, (s.link.port p).state.code, r'.state.code, reason])
    ∧ (p = .d → Mirrors t .linkD r'.state.isDown
      ∧ t.env.scale.link = (if r'.state = .degraded then s.stop.config.degradeFactor else 16)
      ∧ ScaleAgrees t)
    ∧ (p = .u → t.env = s.env ∧ t.link.d = s.link.d)
    ∧ t.pose = s.pose ∧ t.lens = s.lens ∧ t.cues = s.cues ∧ t.pins = s.pins

theorem BeforeChange.refl (p : Port) (s : State) : BeforeChange p s s :=
  ⟨rfl, rfl, rfl, rfl, rfl, rfl, rfl, fun _ => rfl, .refl _ s⟩

theorem BeforeChange.received (p : Port) (bs : List Byte) (s : State) :
    BeforeChange p s (s.withSpine (s.spine.setReceiving p bs)) :=
  ⟨rfl, rfl, rfl, rfl, rfl, rfl, rfl, fun _ => rfl, .of_same rfl (fun _ => by cases p <;> rfl) fun _ => rfl⟩

theorem BeforeChange.trans {p : Port} {s s' s'' : State} (h : BeforeChange p s s') (g : BeforeChange p s' s'') :
    BeforeChange p s s'' :=
  ⟨g.state.trans h.state, g.env.trans h.env, g.pose.trans h.pose, g.lens.trans h.lens, g.cues.trans h.cues,
    g.pins.trans h.pins, g.config.trans h.config, fun u => (g.other u).trans (h.other u), h.notes.trans g.notes⟩

/-- An increment raises notice 14 or none. -/
theorem bumpCounter_among (p c) (s : State) : NotesAmong [14, 0, 16] s (bumpCounter p c s) := by
  have set : Noted [] s (s.setCounter p c (satInc 65535 (s.counter p c))) := by
    cases c <;> exact .of_same rfl (fun _ => rfl) fun _ => rfl
  unfold bumpCounter
  dsimp only
  split
  · exact (NotesAmong.of_noted set nofun).trans (raise_among _ (by decide) (by decide) (by decide) _)
  · exact .of_noted set nofun

theorem bumpCounter_before (p c) (s : State) : BeforeChange p s (bumpCounter p c s) := by
  refine ⟨?_, by simp, by simp, by simp, by simp, by simp, by simp, ?_, bumpCounter_among p c s⟩
  · cases p <;> simp [Link.port]
  · rintro rfl
    rw [(bumpCounter_link s .u c).1]
    cases c <;> rfl

theorem countBad_before (p why) (s : State) : BeforeChange p s (countBad p why s) := by
  unfold countBad
  dsimp only
  split
  · exact (bumpCounter_before p .errored s).trans (bumpCounter_before p .unknownKind _)
  · exact bumpCounter_before p .errored s

theorem BeforeChange.reaches {p : Port} {s s' : State} (h : BeforeChange p s s') (r : PortRecord) (new : PortState)
    (why : PortReason) :
    PortReaches p { r with state := new, lockHeld := r.lockHeld && new.isUp } why.code s
      (changePort p r new why s') := by
  have notes : Occurrences 13 [[portCode p, (s.link.port p).state.code, new.code, why.code]] s
      (changePort p r new why s') := by
    obtain ⟨log, before, among⟩ := h.notes
    have change := changePort_notes p r new why s'
    rw [h.state] at change
    intro busy
    have quiet := before.occurrences (k := 13) (details := [])
      (detailsOf_eq_nil fun n mem here => absurd (here ▸ among n mem) (by decide)) busy
    rw [change (before.sending busy ▸ busy), quiet, before.timecode]
    rfl
  refine ⟨by simp, fun busy => notes.pending rfl busy, ?_, ?_, by simp [h.pose], by simp [h.lens], by simp [h.cues],
    by simp [h.pins]⟩
  · rintro rfl
    refine ⟨?_, ?_, rfl⟩
    · simp [changePort, handLink, Mirrors, handOver_present, Link.setPort]
    · simp [changePort, handLink, State.linkComponent, Link.setPort, h.config]
      rfl
  · rintro rfl
    exact ⟨by simp [changePort, h.env], by simp [Link.setPort, h.other]⟩

/-- The same, where the record is the one given with the new state. -/
theorem BeforeChange.reaches_of {p : Port} {s s' : State} (h : BeforeChange p s s') {r r' : PortRecord}
    {new : PortState} {why : PortReason}
    (record : { r with state := new, lockHeld := r.lockHeld && new.isUp } = r') :
    PortReaches p r' why.code s (changePort p r new why s') :=
  record ▸ h.reaches r new why

/-! ## The commands that report a frame (R25, R27, R29) -/

/-- The record of a port with the counters of a bad frame raised. -/
def PortRecord.countedBad (r : PortRecord) (why : BadReason) : PortRecord :=
  { r with
    errored := satInc 65535 r.errored
    unknownKind := if why = .kind then satInc 65535 r.unknownKind else r.unknownKind }

section
variable {s : State} {p : Port} {why : BadReason}

theorem countBad_record : (countBad p why s).link.port p = (s.link.port p).countedBad why := countBad_port p why s

theorem linkBad_down (down : (s.link.port p).state = .down) :
    linkBad p why s =
      (countBad p why s).withLink
        ((countBad p why s).link.setPort p { (s.link.port p).countedBad why with goodRun := 0 }) :=
  linkBadState_down countBad_record down

theorem linkBad_acquiring (acquiring : (s.link.port p).state = .acquiring) :
    linkBad p why s = changePort p ((s.link.port p).countedBad why).dropped .down .badFrame (countBad p why s) :=
  linkBadState_acquiring countBad_record acquiring

theorem linkBad_fourth (up : (s.link.port p).state.isUp = true) (run : 3 ≤ (s.link.port p).badRun) :
    linkBad p why s =
      changePort p { ((s.link.port p).countedBad why).dropped with badRun := (s.link.port p).badRun + 1 } .down .badRun
        (countBad p why s) :=
  linkBadState_fourth countBad_record up run

theorem linkBad_counted (up : (s.link.port p).state.isUp = true) (run : (s.link.port p).badRun < 3) :
    linkBad p why s =
      countWindow p 1 { (s.link.port p).countedBad why with badRun := (s.link.port p).badRun + 1 }
        (countBad p why s) :=
  linkBadState_counted countBad_record up run

end

/-- What a frame that changes no port state leaves: the port record, and every record but the counters beside it. -/
theorem BeforeChange.withRecord {p : Port} {s s' : State} (h : BeforeChange p s s') (r : PortRecord) :
    (s'.withLink (s'.link.setPort p r)).link.port p = r ∧ (s'.withLink (s'.link.setPort p r)).env = s.env
      ∧ (s'.withLink (s'.link.setPort p r)).pose = s.pose ∧ (s'.withLink (s'.link.setPort p r)).lens = s.lens
      ∧ (s'.withLink (s'.link.setPort p r)).cues = s.cues :=
  ⟨by simp, h.env, h.pose, h.lens, h.cues⟩

theorem countBad_other_port (why : BadReason) (s : State) :
    (countBad .u why s).link.d = s.link.d ∧ (countBad .d why s).link.u = s.link.u := by
  refine ⟨(countBad_before .u why s).other rfl, ?_⟩
  unfold countBad
  dsimp only
  split <;> simp [bumpCounter_link, State.setCounter, Link.setPort]

section
variable (s : State) (p : Port)

/-- The commands that change a port's state, each where its condition holds and where it does not. -/
theorem portStates_reach :
    let r := s.link.port p
    let reaches (i : Instr) (r' : PortRecord) (reason : Byte) : Prop := Nexts (exec i s) (PortReaches p r' reason s)
    let down : PortRecord :=
      { r with
        state := .down, goodRun := 0, windowFrames := 0, windowErrors := 0, holdPassed := false, lockHeld := false
        linkUpTimer := .stopped, holdTimer := .stopped }
    (r.state = .down → 7 ≤ r.goodRun →
        reaches (.eightGood p)
          { r with
            state := .acquiring, goodRun := 0, lockHeld := false
            linkUpTimer := .running s.timebase s.stop.config.linkUpTime }
          0x00#8)
      ∧ (IsDue r.linkUpTimer s.timebase →
        reaches (.linkUpTimerExpiry p)
          { r with
            state := .up, badRun := 0, windowFrames := 0, windowErrors := 0, holdPassed := false
            linkUpTimer := .stopped }
          0x01#8)
      ∧ (∀ why : BadReason, r.state = .up ∨ r.state = .degraded → 3 ≤ r.badRun →
        reaches (.badRun p why)
          { down with
            badRun := r.badRun + 1, errored := satInc 65535 r.errored
            unknownKind := if why = .kind then satInc 65535 r.unknownKind else r.unknownKind }
          0x03#8)
      ∧ (r.state = .acquiring ∨ r.state = .up ∨ r.state = .degraded →
        reaches (.signalLost p) { down with signal := false } 0x04#8) := by
  refine ⟨fun down run => ?_, fun due => ?_, fun why up run => ?_, fun up => ?_⟩
  · refine ⟨_, congrArg Host.Outcome.next ((if_pos ⟨down, by omega⟩).trans
      ((linkGood_down rfl down).trans (if_pos (by omega)))), ?_⟩
    exact (BeforeChange.refl p s).reaches_of (by simp [PortState.isUp, State.startTimer])
  · refine ⟨_, congrArg Host.Outcome.next (if_pos ((isDue_iff _ _).1 due)), ?_⟩
    exact (BeforeChange.refl p s).reaches_of (by simp [PortState.isUp, PortRecord.risen])
  · have up := isUp_iff.2 up
    refine ⟨_, congrArg Host.Outcome.next ((if_pos ⟨up, by omega⟩).trans (linkBad_fourth up run)), ?_⟩
    exact (countBad_before p why s).reaches_of
      (by simp [PortState.isUp, PortRecord.dropped, PortRecord.countedBad])
  · refine ⟨_, congrArg Host.Outcome.next (signalLost_up rfl up), ?_⟩
    exact (BeforeChange.received p [] s).reaches_of (by simp [PortState.isUp, PortRecord.dropped])

/-- The 1,024th frame of a window, a good one. -/
theorem exec_window_good {s : State} {p : Port} (up : (s.link.port p).state.isUp = true)
    (full : 1023 ≤ (s.link.port p).windowFrames) :
    exec (.window p none) s =
      .next (endWindow p (s.link.port p).windowErrors { s.link.port p with badRun := 0 } s) :=
  congrArg Host.Outcome.next
    ((if_pos ⟨up, by omega⟩).trans ((linkGood_up rfl up).trans (countWindow_ends (by exact full))))

/-- The 1,024th frame of a window, a bad one that completes no run of four. -/
theorem exec_window_bad {s : State} {p : Port} {why : BadReason} (up : (s.link.port p).state.isUp = true)
    (full : 1023 ≤ (s.link.port p).windowFrames) (run : (s.link.port p).badRun < 3) :
    exec (.window p (some why)) s =
      .next
        (endWindow p ((s.link.port p).windowErrors + 1)
          { (s.link.port p).countedBad why with badRun := (s.link.port p).badRun + 1 } (countBad p why s)) :=
  congrArg Host.Outcome.next
    ((if_pos ⟨up, by omega⟩).trans
      ((if_neg (by omega)).trans ((linkBad_counted up run).trans (countWindow_ends (by exact full)))))

/-- The ends of a window in which the last frame is good. -/
theorem goodWindow_reaches (up : (s.link.port p).state = .up ∨ (s.link.port p).state = .degraded)
    (full : (s.link.port p).windowFrames = 1023) :
    let r := s.link.port p
    let ended : PortRecord := { r with badRun := 0, windowFrames := 0, windowErrors := 0 }
    (r.state = .up → s.stop.config.highError ≤ r.windowErrors →
        Nexts (exec (.window p none) s)
          (PortReaches p
            { ended with
              state := .degraded, holdPassed := false, holdTimer := .running s.timebase s.stop.config.degradeHold }
            0x05#8 s))
      ∧ (r.state = .degraded → r.windowErrors < s.stop.config.highError → r.holdPassed = true →
        Nexts (exec (.window p none) s) (PortReaches p { ended with state := .up, holdPassed := false } 0x05#8 s))
      ∧ (r.state = .up ∧ r.windowErrors < s.stop.config.highError
          ∨ r.state = .degraded ∧ (s.stop.config.highError ≤ r.windowErrors ∨ r.holdPassed = false) →
        exec (.window p none) s = .next { s with link := s.link.setPort p ended }) := by
  have ends := exec_window_good (isUp_iff.2 up) full.ge
  refine ⟨fun up bad => ?_, fun degraded good passed => ?_, fun stays => ?_⟩
  · refine ⟨_, ends.trans (congrArg _ (endWindow_degrades (by exact up) bad)), ?_⟩
    exact (BeforeChange.refl p s).reaches_of (by simp [PortState.isUp, State.startTimer])
  · refine ⟨_, ends.trans (congrArg _ (endWindow_recovers (by exact degraded) good (by exact passed))), ?_⟩
    exact (BeforeChange.refl p s).reaches_of (by simp [PortState.isUp])
  · exact ends.trans (congrArg _ (endWindow_stays (by exact stays)))

/-- The ends of a window in which the last frame is bad. -/
theorem badWindow_reaches (why : BadReason) (up : (s.link.port p).state = .up ∨ (s.link.port p).state = .degraded)
    (full : (s.link.port p).windowFrames = 1023) :
    let r := s.link.port p
    let ended : PortRecord :=
      { r with
        badRun := r.badRun + 1, windowFrames := 0, windowErrors := 0, errored := satInc 65535 r.errored
        unknownKind := if why = .kind then satInc 65535 r.unknownKind else r.unknownKind }
    (3 ≤ r.badRun → exec (.window p (some why)) s = .next s)
      ∧ (r.badRun < 3 → r.state = .up → s.stop.config.highError ≤ r.windowErrors + 1 →
        Nexts (exec (.window p (some why)) s)
          (PortReaches p
            { ended with
              state := .degraded, holdPassed := false, holdTimer := .running s.timebase s.stop.config.degradeHold }
            0x05#8 s))
      ∧ (r.badRun < 3 → r.state = .degraded → r.windowErrors + 1 < s.stop.config.highError → r.holdPassed = true →
        Nexts (exec (.window p (some why)) s)
          (PortReaches p { ended with state := .up, holdPassed := false } 0x05#8 s))
      ∧ (r.badRun < 3 →
        r.state = .up ∧ r.windowErrors + 1 < s.stop.config.highError
          ∨ r.state = .degraded ∧ (s.stop.config.highError ≤ r.windowErrors + 1 ∨ r.holdPassed = false) →
        Nexts (exec (.window p (some why)) s) fun t =>
          t.link.port p = ended ∧ t.env = s.env ∧ t.pose = s.pose ∧ t.lens = s.lens ∧ t.cues = s.cues) := by
  have ends := exec_window_bad (why := why) (isUp_iff.2 up) full.ge
  have before := countBad_before p why s
  have config : (countBad p why s).stop.config = s.stop.config := before.config
  have now : (countBad p why s).timebase = s.timebase := by simp
  refine ⟨fun run => ?_, fun run up bad => ?_, fun run degraded good passed => ?_, fun run stays => ?_⟩
  · exact congrArg Host.Outcome.next ((if_pos ⟨isUp_iff.2 up, by omega⟩).trans (if_pos (by omega)))
  · refine ⟨_, (ends run).trans (congrArg _ (endWindow_degrades (by exact up) (by rw [config]; exact bad))), ?_⟩
    exact before.reaches_of (by simp [PortState.isUp, State.startTimer, PortRecord.countedBad])
  · refine ⟨_, (ends run).trans (congrArg _
      (endWindow_recovers (by exact degraded) (by rw [config]; exact good) (by exact passed))), ?_⟩
    exact before.reaches_of (by simp [PortState.isUp, PortRecord.countedBad])
  · refine ⟨_, (ends run).trans (congrArg _ (endWindow_stays (by rw [config]; exact stays))), ?_⟩
    exact before.withRecord _

/-- A bad frame in ACQUIRING takes the port down. -/
theorem acquiring_badFrame (acquiring : (s.link.port p).state = .acquiring) (why : BadReason) (bytes : List Byte)
    (empty : s.spine.receiving p = []) (bad : receive p bytes = .judged (.bad why)) :
    Nexts (exec (.badFrame p bytes false) s)
      fun t => ∃ u : State, t = u.withCues t.cues
        ∧ PortReaches p
          { s.link.port p with
            state := .down, goodRun := 0, windowFrames := 0, windowErrors := 0, holdPassed := false, lockHeld := false
            linkUpTimer := .stopped, holdTimer := .stopped, errored := satInc 65535 (s.link.port p).errored
            unknownKind :=
              if why = .kind then satInc 65535 (s.link.port p).unknownKind else (s.link.port p).unknownKind }
          0x02#8 s u := by
  have decodes : p = .u ∨ s.inTest = false := by
    cases p with
    | u => exact .inl rfl
    | d => exact .inr (by simp [State.inTest, show s.link.d.state = .acquiring from acquiring])
  refine ⟨_, congrArg Host.Outcome.next (frameBytes_bad empty decodes (.inl bad)), _, badFrameAt_rest _ _ _, ?_⟩
  rw [linkBad_acquiring (by exact acquiring)]
  exact ((BeforeChange.received p [] s).trans (countBad_before p why _)).reaches_of
    (by simp [PortState.isUp, PortRecord.dropped, PortRecord.countedBad])

end

theorem setReceiving_receiving (sp : Spine) (p : Port) (bs : List Byte) : (sp.setReceiving p bs).receiving p = bs := by
  cases p <;> rfl

theorem PortState.cases_signal (x : PortState) :
    x = .down ∨ x = .test ∨ x = .acquiring ∨ x = .up ∨ x = .degraded := by
  cases x <;> simp

/-- The partial frame is discarded at the loss of signal. -/
theorem signalLost_receiving (s : State) (p : Port) : (signalLost p s).spine.receiving p = [] := by
  obtain down | test | up := (s.link.port p).state.cases_signal
  · rw [signalLost_down rfl down]
    exact setReceiving_receiving _ p []
  · rw [signalLost_test rfl test]
    exact setReceiving_receiving _ p []
  · rw [signalLost_up rfl up]
    cases p <;> simp [Spine.receiving, Spine.setReceiving]

/-- Outside TEST the loss of signal leaves the checker. -/
theorem signalLost_checker (s : State) (p : Port) (other : (s.link.port p).state ≠ .test) :
    (signalLost p s).link.test = s.link.test := by
  obtain down | test | up := (s.link.port p).state.cases_signal
  · rw [signalLost_down rfl down]
    cases p <;> rfl
  · exact absurd test other
  · rw [signalLost_up rfl up]
    cases p <;> simp [Link.setPort]

/-- Settles O30: each command is followed through the branch of its port's state; a change of state is `changePort`, and
a frame counted is another port record. -/
theorem portStatesChange : Obligations.PortStatesChange := by
  refine ⟨fun s p => ?changes, fun s p => ?counts, fun s p notTest => ?signal⟩
  case changes =>
    obtain ⟨eight, rises, fourth, lost⟩ := portStates_reach s p
    refine ⟨eight, fun other => ?_, rises, fun notDue => ?_, fourth, fun why other => ?_, goodWindow_reaches s p,
      badWindow_reaches s p, fun judged other => ?_, fun due => ?_, fun notDue => ?_, lost,
      fun acquiring why bytes empty bad => ?_⟩
    · exact congrArg Host.Outcome.next (if_neg fun ⟨down, run⟩ => by
        obtain state | few := other
        · exact state down
        · omega)
    · exact congrArg Host.Outcome.next (if_neg (mt (isDue_iff _ _).2 notDue))
    · exact congrArg Host.Outcome.next (if_neg fun ⟨up, run⟩ => by
        obtain ⟨notUp, notDegraded⟩ | few := other
        · exact (isUp_iff.1 up).elim notUp notDegraded
        · omega)
    · exact congrArg Host.Outcome.next (if_neg fun ⟨up, full⟩ => by
        obtain ⟨notUp, notDegraded⟩ | few := other
        · exact (isUp_iff.1 up).elim notUp notDegraded
        · omega)
    · exact congrArg Host.Outcome.next (if_pos ((isDue_iff _ _).1 due))
    · exact congrArg Host.Outcome.next (if_neg (mt (isDue_iff _ _).2 notDue))
    · obtain ⟨t, next, u, cues, record, notice, d, u', pose, lens, -, pins⟩ :=
        acquiring_badFrame s p acquiring why bytes empty bad
      rw [acquiring] at notice
      refine ⟨t, next, ?_⟩
      rw [cues]
      exact ⟨record, notice, d, u', pose, lens, pins⟩
  case counts =>
    refine ⟨fun down few => ?_, fun down run => ?_, fun idle => linkGood_idle rfl idle, fun up full => ⟨?_, fun why run => ?_⟩,
      fun up run why => ?_, fun ⟨up, inside⟩ => ?_, fun why => ⟨fun down => ?_, fun ⟨up, inside⟩ run => ?_, fun counted => ?_⟩⟩
    · exact (linkGood_down rfl down).trans (if_neg (by omega))
    · exact congrArg Host.Outcome.next (if_pos ⟨down, by omega⟩)
    · exact congrArg Host.Outcome.next (if_pos ⟨isUp_iff.2 up, by omega⟩)
    · exact congrArg Host.Outcome.next ((if_pos ⟨isUp_iff.2 up, by omega⟩).trans (if_neg (by omega)))
    · exact congrArg Host.Outcome.next (if_pos ⟨isUp_iff.2 up, by omega⟩)
    · exact (linkGood_up rfl (isUp_iff.2 up)).trans (countWindow_inside (by exact inside))
    · rw [linkBad_down down]
      simp [PortRecord.countedBad]
    · rw [linkBad_counted (isUp_iff.2 up) run, countWindow_inside (by exact inside)]
      simp [PortRecord.countedBad]
    · have before := countBad_before p why s
      obtain ⟨other, other'⟩ := countBad_other_port why s
      obtain ⟨r, left⟩ : ∃ r, linkBad p why s = (countBad p why s).withLink ((countBad p why s).link.setPort p r) := by
        obtain down | ⟨⟨up, inside⟩, run⟩ := counted
        · exact ⟨_, linkBad_down down⟩
        · exact ⟨_, (linkBad_counted (isUp_iff.2 up) run).trans (countWindow_inside (by exact inside))⟩
      rw [left]
      refine ⟨before.env, by cases p <;> simp [Link.setPort], by cases p <;> simp [Link.setPort], ?_, ?_⟩
      · rintro rfl
        exact other
      · rintro rfl
        exact other'
  case signal =>
    refine ⟨⟨_, rfl, signalLost_receiving s p, fun down => ?_, fun test => ?_, fun test => ?_, signalLost_checker s p,
      by simp, by simp, by simp⟩, fun other => congrArg Host.Outcome.next (if_neg other), fun test d => ?_⟩
    · rw [signalLost_down rfl down]
      exact ⟨by simp, rfl⟩
    · rw [signalLost_test rfl test]
      exact ⟨by cases p <;> rfl, rfl⟩
    · rw [signalLost_test rfl test]
      exact ⟨rfl, rfl, by cases p <;> rfl⟩
    · subst d
      exact congrArg Host.Outcome.next (if_pos test)

end Sys2Proof.Machine
end

section
/-! PROOFS. The link test (R37 to R39). -/

namespace Sys2Proof.Machine

/-! ## What the U transmitter leaves of the D transmitter -/

section
variable (s : State)

@[simp] theorem opportunityU_spineD :
    (opportunityU s).spine.brake = s.spine.brake ∧ (opportunityU s).spine.decel = s.spine.decel
      ∧ (opportunityU s).spine.queueD = s.spine.queueD ∧ (opportunityU s).spine.sendingD = s.spine.sendingD := by
  unfold opportunityU takeU sendNotice
  dsimp only
  repeat' split
  all_goals exact ⟨rfl, rfl, rfl, rfl⟩

@[simp] theorem noteOccurrence_spineD (k d) :
    (noteOccurrence k d s).spine.brake = s.spine.brake ∧ (noteOccurrence k d s).spine.decel = s.spine.decel
      ∧ (noteOccurrence k d s).spine.queueD = s.spine.queueD
      ∧ (noteOccurrence k d s).spine.sendingD = s.spine.sendingD :=
  opportunityU_spineD _

end

/-- A notice raised outside PARKED is its occurrence. -/
theorem raise_awake {s : State} (awake : s.stop.state ≠ .parked) (k d) : raise k d s = noteOccurrence k d s := by
  simp [raise, awake]

/-- In TEST the D transmitter discards a brake order. -/
theorem offerBrake_inTest {s : State} (test : s.inTest = true) (a) : offerBrake a s = s := if_pos test

/-! ## The branches of a cause's entry (R104, R105) -/

/-- The state with a cause in the present set. -/
def State.withPresent (s : State) (c : Cause) : State :=
  s.withStop { s.stop with present := FlagSet.insert s.stop.present c.code }

section
variable {s : State} {c : Cause}

theorem causeEnters_again (present : s.stop.present[c.code] = true) : causeEnters c s = s := if_pos present

theorem causeEnters_cutInCut (absent : s.stop.present[c.code] = false) (isCut : c.isCut = true)
    (cut : s.stop.state = .cut) :
    causeEnters c s = joinTrip c.code (offerBrake .engage (s.withPresent c)) :=
  (if_neg (by simp [absent])).trans ((if_pos isCut).trans (if_pos cut))

theorem causeEnters_cutFromRun (absent : s.stop.present[c.code] = false) (isCut : c.isCut = true)
    (run : s.stop.state = .run) :
    causeEnters c s = joinPresent (enterCut (.cause c) (s.withPresent c)) :=
  (if_neg (by simp [absent])).trans ((if_pos isCut).trans ((if_neg (by simp [run])).trans (if_pos run)))

theorem causeEnters_cutElsewhere (absent : s.stop.present[c.code] = false) (isCut : c.isCut = true)
    (notCut : s.stop.state ≠ .cut) (notRun : s.stop.state ≠ .run) :
    causeEnters c s = joinTrip c.code (enterCut (.cause c) (s.withPresent c)) :=
  (if_neg (by simp [absent])).trans ((if_pos isCut).trans ((if_neg notCut).trans (if_neg notRun)))

theorem causeEnters_rampFromRun (absent : s.stop.present[c.code] = false) (isRamp : c.isCut = false)
    (run : s.stop.state = .run) :
    causeEnters c s = joinPresent (enterRamp (.cause c) (s.withPresent c)) :=
  (if_neg (by simp [absent])).trans ((if_neg (by simp [isRamp])).trans (if_pos run))

theorem causeEnters_rampElsewhere (absent : s.stop.present[c.code] = false) (isRamp : c.isCut = false)
    (notRun : s.stop.state ≠ .run) :
    causeEnters c s = judgeCut (joinTrip c.code (s.withPresent c)) :=
  (if_neg (by simp [absent])).trans ((if_neg (by simp [isRamp])).trans (if_neg notRun))

/-- Outside PARKED a cause that joins the trip set changes nothing of the D transmitter. -/
theorem joinTrip_spineD (awake : s.stop.state ≠ .parked) (k) :
    (joinTrip k s).spine.brake = s.spine.brake ∧ (joinTrip k s).spine.decel = s.spine.decel
      ∧ (joinTrip k s).spine.queueD = s.spine.queueD ∧ (joinTrip k s).spine.sendingD = s.spine.sendingD := by
  unfold joinTrip
  split
  · exact ⟨rfl, rfl, rfl, rfl⟩
  · rw [raise_awake (by exact awake)]
    exact noteOccurrence_spineD (s.withStop _) _ _

end

/-! ## The link test (R37 to R39) -/

/-- In CUT with the D port in TEST, LINK_D joins both sets and nothing else of the stop supervision or of the D
transmitter changes. -/
theorem linkD_inCut {s : State} (cut : s.stop.state = .cut) (test : s.inTest = true) :
    (causeEnters .linkD s).stop.state = .cut ∧ (causeEnters .linkD s).gate = s.gate
      ∧ (causeEnters .linkD s).spine.brake = s.spine.brake ∧ (causeEnters .linkD s).spine.decel = s.spine.decel
      ∧ (causeEnters .linkD s).spine.queueD = s.spine.queueD
      ∧ (causeEnters .linkD s).spine.sendingD = s.spine.sendingD := by
  by_cases present : s.stop.present[Cause.linkD.code] = true
  · rw [causeEnters_again present]
    exact ⟨cut, rfl, rfl, rfl, rfl, rfl⟩
  · rw [causeEnters_cutInCut (by simpa using present) rfl cut, offerBrake_inTest (by exact test)]
    have awake : (s.withPresent .linkD).stop.state ≠ .parked := by simp [State.withPresent, cut]
    refine ⟨?_, by simp [State.withPresent], joinTrip_spineD awake _⟩
    rw [joinTrip_core awake]
    exact cut

/-- What the start of a link test makes of the transmitter and the checker before the port's state changes. -/
def linkTestPrepared (s : State) : State :=
  (s.withSpine { s.spine with receivingD := [], brake := none, decel := Vector.replicate 7 none, queueD := [] }).withLink
    { s.link with testErrors := 0, test := { generator := 0x7FFF#15, checking := s.link.d.signal, latest := [] } }

theorem startTest_starts {s : State} (cut : s.stop.state = .cut) (other : s.inTest = false) :
    startTest s = (.ok, changePort .d s.link.d.testing .test .testStart (linkTestPrepared s)) :=
  if_pos ⟨cut, other⟩

/-- A change of the D port into TEST in CUT leaves the stop state, the gate and the D transmitter. -/
theorem changePort_test_inCut {s : State} (cut : s.stop.state = .cut) (r why) :
    (changePort .d r .test why s).stop.state = .cut ∧ (changePort .d r .test why s).gate = s.gate
      ∧ (changePort .d r .test why s).spine.brake = s.spine.brake
      ∧ (changePort .d r .test why s).spine.decel = s.spine.decel
      ∧ (changePort .d r .test why s).spine.queueD = s.spine.queueD
      ∧ (changePort .d r .test why s).spine.sendingD = s.spine.sendingD := by
  unfold changePort
  dsimp only
  rw [raise_awake (by simp [cut])]
  generalize noted : noteOccurrence 13 _ _ = u
  have test : u.inTest = true := by simp [← noted, State.inTest, Link.setPort]
  have cut' : u.stop.state = .cut := by simp [← noted, cut]
  have down : u.link.d.state.isDown = true := by simp [← noted, Link.setPort, PortState.isDown]
  have entered := linkD_inCut cut' test
  have before : u.gate = s.gate ∧ u.spine.brake = s.spine.brake ∧ u.spine.decel = s.spine.decel
      ∧ u.spine.queueD = s.spine.queueD ∧ u.spine.sendingD = s.spine.sendingD := by
    simp [← noted]
  obtain ⟨gate, brake, decel, queue, sending⟩ := before
  rw [gate, brake, decel, queue, sending] at entered
  unfold handLink handOver
  rw [down, if_pos rfl]
  exact entered

/-- A request without a body is answered by the operation it asks for. -/
theorem Takes.replies_operation {s s' : State} {tag code : Byte} {row : Instr} {run : State → Answer}
    (h : Takes s ⟨tag, code, []⟩ s') (isRow : (⟨tag, code, []⟩ : Request).row = row)
    (runs : exec row s = .next (execute row (withoutBody run) s)) ⦃result out t⦄ (answers : run s' = ⟨result, out, t⟩) :
    Replies row s tag result out t :=
  h.replies isRow runs answers

theorem inTest_iff {s : State} : s.inTest = true ↔ s.link.d.state = .test := by simp [State.inTest]

/-- What the start of a link test leaves (R37, R38). -/
theorem startTest_leaves {s : State} (cut : s.stop.state = .cut) :
    let t := changePort .d s.link.d.testing .test .testStart (linkTestPrepared s)
    t.link.d =
        { s.link.d with
          state := .test, goodRun := 0, badRun := 0, windowFrames := 0, windowErrors := 0, holdPassed := false
          lockHeld := false, linkUpTimer := .stopped, holdTimer := .stopped }
      ∧ t.link.testErrors = 0 ∧ t.link.test = ⟨0x7FFF#15, s.link.d.signal, []⟩ ∧ t.link.u = s.link.u
      ∧ t.spine.brake = none ∧ (∀ k : Fin 7, t.spine.decel[k] = none) ∧ t.spine.queueD = []
      ∧ t.spine.sendingD = s.spine.sendingD ∧ t.spine.receivingD = []
      ∧ Mirrors t .linkD true ∧ t.stop.state = .cut ∧ t.env.scale.link = 16 ∧ t.pose = s.pose
      ∧ t.gate = s.gate ∧ t.lens = s.lens
      ∧ Occurrences 13 [[0x01#8, s.link.d.state.code, 0x04#8, 0x06#8]] s t := by
  intro t
  obtain ⟨state, gate, brake, decel, queue, sending⟩ :=
    changePort_test_inCut (s := linkTestPrepared s) cut s.link.d.testing .testStart
  obtain ⟨record, -, handed, -, pose, lens, -⟩ :=
    (BeforeChange.refl .d (linkTestPrepared s)).reaches s.link.d.testing .test .testStart
  obtain ⟨mirrors, link, -⟩ := handed rfl
  refine ⟨?_, by simp [t, linkTestPrepared, Link.setPort], by simp [t, linkTestPrepared, Link.setPort],
    by simp [t, linkTestPrepared, Link.setPort], brake, fun k => ?_, queue, sending,
    by simp [t, linkTestPrepared], mirrors, state, link, pose, gate, lens,
    changePort_notes .d s.link.d.testing .test .testStart (linkTestPrepared s)⟩
  · refine Eq.trans (show t.link.d = _ from record) ?_
    simp [PortRecord.testing, PortRecord.dropped, PortState.isUp]
  · have none : t.spine.decel = Vector.replicate 7 none := decel
    simp [none]

/-- What the stop of a link test leaves (R39). -/
theorem stopTest_leaves {s : State} (test : s.link.d.state = .test) :
    let t := changePort .d { s.link.d with goodRun := 0 } .down .testStop
      (s.withLink { s.link with test := { s.link.test with checking := false, latest := [] } })
    t.link.d = { s.link.d with state := .down, goodRun := 0, lockHeld := false }
      ∧ t.link.testErrors = s.link.testErrors ∧ t.link.test.checking = false ∧ t.link.u = s.link.u
      ∧ Mirrors t .linkD true ∧ t.env.scale.link = 16 ∧ t.pose = s.pose ∧ t.lens = s.lens
      ∧ Occurrences 13 [[0x01#8, 0x04#8, 0x00#8, 0x07#8]] s t := by
  intro t
  obtain ⟨record, -, handed, -, pose, lens, -⟩ :=
    (BeforeChange.refl .d (s.withLink { s.link with test := { s.link.test with checking := false, latest := [] } })).reaches
      { s.link.d with goodRun := 0 } .down .testStop
  obtain ⟨mirrors, link, -⟩ := handed rfl
  have notes := changePort_notes .d { s.link.d with goodRun := 0 } .down .testStop
    (s.withLink { s.link with test := { s.link.test with checking := false, latest := [] } })
  have state : ((s.withLink { s.link with test := { s.link.test with checking := false, latest := [] } }).link.port
      .d).state = .test := test
  rw [state] at notes
  refine ⟨?_, by simp [t, Link.setPort], by simp [t, Link.setPort], by simp [t, Link.setPort], mirrors, link, pose,
    lens, notes⟩
  refine Eq.trans (show t.link.d = _ from record) ?_
  simp [PortState.isUp]

/-- A generator step makes the next bit and moves the others up by one place (R38). -/
theorem patternStep_bits (g : BitVec 15) :
    (patternStep g).getLsbD 0 = Bool.xor (g.getLsbD 13) (g.getLsbD 14)
      ∧ ∀ n : Nat, n < 14 → (patternStep g).getLsbD (n + 1) = g.getLsbD n := by
  have low : ∀ i, (if patternBit g then 1#15 else 0#15).getLsbD i = (decide (i = 0) && patternBit g) := by
    intro i
    split
    next one => simp [one, BitVec.getLsbD_one]
    next zero => simp [zero]
  refine ⟨?_, fun n hn => ?_⟩
  · rw [patternStep, BitVec.getLsbD_or, low, BitVec.getLsbD_shiftLeft]
    simp [patternBit]
  · rw [patternStep, BitVec.getLsbD_or, low, BitVec.getLsbD_shiftLeft]
    simp
    omega

/-- Settles O31: START and STOP are changes of port state in a prepared state, and a bit is one generator step. -/
theorem linkTestsRun : Obligations.LinkTestsRun := by
  refine ⟨fun s s' tag h => ?start, fun s s' tag h => ?stop, patternStep_bits, fun s bit => ?bit⟩
  case start =>
    have reply := h.replies_operation (row := .linkTestStart) rfl rfl
    have starts := @startTest_starts s'
    have leaves := @startTest_leaves s'
    obtain ⟨rest, -, rfl⟩ := h.head
    refine ⟨fun refused => reply (congrArg answerOf (if_neg fun ⟨cut, other⟩ => ?_)), fun cut other =>
      ⟨_, reply (congrArg answerOf (starts cut (by simpa [State.inTest] using other))), leaves cut⟩⟩
    obtain notCut | test := refused
    · exact notCut cut
    · exact absurd ((inTest_iff.2 test).symm.trans other) (by decide)
  case stop =>
    have reply := h.replies_operation (row := .linkTestStop) rfl rfl
    have leaves := @stopTest_leaves s'
    obtain ⟨rest, -, rfl⟩ := h.head
    exact ⟨fun other => reply (congrArg answerOf (if_neg (mt inTest_iff.1 other))),
      fun test => ⟨_, reply (congrArg answerOf (if_pos (inTest_iff.2 test))), leaves test⟩⟩
  case bit =>
    have generator : (if s.spine.sendingD.isSome then s.link.test.generator else patternStep s.link.test.generator) =
        if s.spine.sendingD.isNone then patternStep s.link.test.generator else s.link.test.generator := by
      cases s.spine.sendingD <;> rfl
    have wrong : (15 ≤ s.link.test.latest.length
          ∧ bit ≠ Bool.xor (s.link.test.latest.getD 13 false) (s.link.test.latest.getD 14 false))
        ↔ (decide (15 ≤ s.link.test.latest.length) && bit != predictedBit s.link.test.latest) = true := by
      simp [predictedBit]
    refine ⟨fun other => congrArg Host.Outcome.next (if_neg (mt inTest_iff.1 other)), fun test => ?_⟩
    dsimp only
    simp only [generator, wrong]
    exact ⟨fun idle => congrArg Host.Outcome.next ((if_pos (inTest_iff.2 test)).trans (if_neg (by simp [idle]))),
      fun checks => congrArg Host.Outcome.next ((if_pos (inTest_iff.2 test)).trans (if_pos checks))⟩

end Sys2Proof.Machine
end

section
/-! PROOFS. The entry to HELD, PARK and WAKE, and a notice that wakes the part (R110, R113, R114, R196). -/

namespace Sys2Proof.Machine

/-! ## Orders behind a frame in transmission on D (R16) -/

/-- Behind a frame in transmission on D, a brake order waits in its entry. -/
theorem offerBrake_busy {s : State} (other : s.inTest = false) (busy : s.spine.sendingD.isSome = true) (a) :
    offerBrake a s = s.withSpine { s.spine with brake := some (brkFrame a) } := by
  refine (if_neg (by simp [other])).trans (if_neg ?_)
  simpa [Option.isSome_iff_ne_none] using busy

section
variable {s : State}

theorem changeState_spineD (st r) (s : State) :
    (changeState st r s).spine.brake = s.spine.brake ∧ (changeState st r s).spine.decel = s.spine.decel
      ∧ (changeState st r s).spine.queueD = s.spine.queueD
      ∧ (changeState st r s).spine.sendingD = s.spine.sendingD :=
  noteOccurrence_spineD (s.withStop _) _ _

theorem changeState_inTest (st r) (s : State) : (changeState st r s).inTest = s.inTest := by
  simp [State.inTest, changeState]

theorem changeState_offerBrake_busy (other : s.inTest = false) (busy : s.spine.sendingD.isSome = true) (st r a) :
    offerBrake a (changeState st r s) =
      (changeState st r s).withSpine { (changeState st r s).spine with brake := some (brkFrame a) } := by
  obtain ⟨-, -, -, sending⟩ := changeState_spineD st r s
  exact offerBrake_busy ((changeState_inTest st r s).trans other) (by rwa [sending]) a

/-- The entry to HELD leaves BRK ENGAGE behind a frame in transmission on D. -/
theorem enterHeld_brake (other : s.inTest = false) (busy : s.spine.sendingD.isSome = true) (why) :
    (enterHeld why s).spine.brake = some (brkFrame .engage) := by
  unfold enterHeld
  dsimp only
  rw [changeState_offerBrake_busy (by exact other) (by exact busy)]
  rfl

end

/-- What the entry to HELD leaves (R110). -/
theorem enterHeld_leaves (why : StopReason) (s : State) :
    let t := enterHeld why s
    t.stop.state = .held ∧ t.stop.driveEnable = true ∧ t.stop.detector = ⟨.waitRelease, 0⟩
      ∧ t.stop.rampTimer = .stopped ∧ t.stop.standstill = FlagSet.empty 7
      ∧ (s.inTest = false → s.spine.sendingD.isSome = true →
        t.spine.brake = some ⟨.brk, 63#8, [0x00#8, 0x7F#8, 0x01#8]⟩)
      ∧ Occurrences 0 [[s.stop.state.code, 0x02#8, why.code]] s t
      ∧ t.stop.present = s.stop.present ∧ t.stop.trip = s.stop.trip ∧ t.stop.lines = s.stop.lines
      ∧ t.stop.config = s.stop.config ∧ t.gate = s.gate ∧ t.pose = s.pose ∧ t.player = s.player
      ∧ t.recorder = s.recorder ∧ t.store = s.store ∧ t.lens = s.lens ∧ t.env = s.env ∧ t.link = s.link := by
  obtain ⟨state, enable, timer, still, detector⟩ := enterHeld_core why s
  refine ⟨state, enable, detector, timer, still, fun other busy => enterHeld_brake other busy why,
    (enterHeld_noted s why).occurrences rfl, ?_⟩
  simp

/-! ## Waking -/

/-- A source that becomes pending wakes the part: PARKED, in the wake set, and not pending before. -/
def Wakes (k : Fin 17) (s : State) : Prop :=
  s.stop.state = .parked ∧ s.notices.config.wake[k] = true ∧ s.notices.entries[k].pending = false

theorem wakes_iff {k : Fin 17} {s : State} :
    (!s.notices.entries[k].pending && s.notices.config.wake[k] && s.stop.state == .parked) = true ↔ Wakes k s := by
  simp [Wakes, and_comm]

theorem raise_wakes {k : Fin 17} {s : State} (wakes : Wakes k s) (d) :
    raise k d s = wake (.source k) (noteOccurrence k d s) :=
  if_pos (wakes_iff.2 wakes)

theorem raise_leaves {k : Fin 17} {s : State} (still : ¬Wakes k s) (d) : raise k d s = noteOccurrence k d s :=
  if_neg (mt wakes_iff.1 still)

theorem raiseLog_wakes {k : Fin 17} {s : State} (wakes : Wakes k s) (d) :
    raiseLog k d s =
      [(k, d), (0, [StopState.parked.code, StopState.held.code, StopReason.wakeSource.code]), (16, [0x01#8, u8 k.val])] := by
  rw [raiseLog, if_pos (wakes_iff.2 wakes)]

theorem raiseLog_leaves {k : Fin 17} {s : State} (still : ¬Wakes k s) (d) : raiseLog k d s = [(k, d)] := by
  rw [raiseLog, if_neg (mt wakes_iff.1 still)]

theorem wakePending_iff {n : Notices} :
    n.wakePending = true ↔ ∃ k : Fin 17, n.config.wake[k] = true ∧ n.entries[k].pending = true := by
  simp [Notices.wakePending]

/-- The state of a part that is PARKED, before its notice. -/
def parking (s : State) : State :=
  refreshLamps (s.withStop { s.stop with state := .parked, driveEnable := false, detector := Detector.initial })

/-- PARK leaves the part PARKED, or in HELD where its own notice wakes it (R113). -/
theorem park_leaves {s : State}
    (idle : ∀ k : Fin 17, s.notices.config.wake[k] = true → s.notices.entries[k].pending = false) :
    let t := park s
    t.stop.state = (if s.notices.config.wake[0] then .held else .parked)
      ∧ t.stop.driveEnable = s.notices.config.wake[0]
      ∧ Occurrences 0 ([0x02#8, 0x04#8, 0x18#8] :: if s.notices.config.wake[0] then [[0x04#8, 0x02#8, 0x1A#8]] else []) s t
      ∧ Occurrences 16 (if s.notices.config.wake[0] then [[0x01#8, 0x00#8]] else []) s t
      ∧ t.stop.detector = ⟨.waitRelease, 0⟩ ∧ t.stop.present = s.stop.present ∧ t.stop.trip = s.stop.trip
      ∧ t.gate = s.gate ∧ t.pose = s.pose ∧ t.player = s.player ∧ t.link = s.link := by
  intro t
  have rests : t.stop.present = s.stop.present ∧ t.stop.trip = s.stop.trip
      ∧ t.gate = s.gate ∧ t.pose = s.pose ∧ t.player = s.player ∧ t.link = s.link := by
    simp [t, park]
  have notes : Noted (raiseLog 0 [0x02#8, 0x04#8, 0x18#8] (parking s)) s t := by
    have parked : Noted [] s (parking s) := .of_same rfl (fun _ => rfl) fun _ => rfl
    exact parked.trans (raise_noted (parking s) 0 _)
  have same : (parking s).stop.state = .parked ∧ (parking s).notices = s.notices := by simp [parking]
  obtain ⟨parked, notices⟩ := same
  by_cases inSet : s.notices.config.wake[0] = true
  · have wakes : Wakes 0 (parking s) := ⟨parked, by rwa [notices], by rw [notices]; exact idle 0 inSet⟩
    have woken : t = wake (.source 0) (noteOccurrence 0 [0x02#8, 0x04#8, 0x18#8] (parking s)) := raise_wakes wakes _
    obtain ⟨state, enable, -, -, detector⟩ := wake_core (.source 0) (noteOccurrence 0 [0x02#8, 0x04#8, 0x18#8] (parking s))
    rw [← woken] at state enable detector
    rw [raiseLog_wakes wakes] at notes
    rw [inSet]
    exact ⟨state, enable, notes.occurrences rfl, notes.occurrences rfl, detector, rests⟩
  · have still : ¬Wakes 0 (parking s) := fun ⟨_, wakes, _⟩ => inSet (by rwa [notices] at wakes)
    have quiet : t = noteOccurrence 0 [0x02#8, 0x04#8, 0x18#8] (parking s) := raise_leaves still _
    have core : t.stop.state = .parked ∧ t.stop.driveEnable = false ∧ t.stop.detector = ⟨.waitRelease, 0⟩ := by
      simp [quiet, parking, Detector.initial]
    obtain ⟨state, enable, detector⟩ := core
    rw [raiseLog_leaves still] at notes
    simp only [Bool.not_eq_true] at inSet
    rw [inSet]
    exact ⟨state, enable, notes.occurrences rfl, notes.occurrences rfl, detector, rests⟩

/-- Settles O20: the entry to HELD by what it leaves, PARK and WAKE by their tests, and a notice by whether it wakes. -/
theorem heldParkAndWakeAct : Obligations.HeldParkAndWakeAct := by
  refine ⟨enterHeld_leaves, ⟨fun c => rfl, by decide, by decide⟩, fun s s' tag => ⟨fun h => ?park, fun h => ?wake⟩,
    fun k detail s => ⟨fun wakes => ?wakes, fun still => ?still⟩⟩
  case park =>
    have reply := h.replies_operation (row := .park) rfl rfl
    have leaves := @park_leaves s'
    obtain ⟨rest, -, rfl⟩ := h.head
    refine ⟨fun other => reply (if_pos other), fun pending held => ?_, fun held idle => ⟨_, ?_, leaves idle⟩⟩
    · exact reply ((if_neg (not_not.2 held)).trans (if_pos (wakePending_iff.2 pending)))
    · refine reply ((if_neg (not_not.2 held)).trans (if_neg ?_))
      rw [wakePending_iff]
      exact fun ⟨k, inSet, pending⟩ => Bool.false_ne_true ((idle k inSet).symm.trans pending)
  case wake =>
    have reply := h.replies_operation (row := .wake) rfl rfl
    have noted := enterHeld_noted s' .wakeRequest
    obtain ⟨rest, -, rfl⟩ := h.head
    refine ⟨fun other => reply (if_neg other), fun parked => ⟨reply (if_pos parked), ?_⟩⟩
    have state : (s.withMgmt { s.mgmt with requests := rest }).stop.state = .parked := parked
    rw [state] at noted
    exact noted.occurrences rfl
  case wakes =>
    have woken := raise_wakes wakes detail
    exact ⟨woken, woken ▸ (wake_core _ _).1⟩
  case still => exact ⟨raise_leaves still detail, by simp⟩

end Sys2Proof.Machine
end

section
/-! PROOFS. What the changes of stop state and of the cause sets leave, with their notices in order (R104 to R109, R156,
R162). -/

namespace Sys2Proof.Machine

/-! ## The D transmitter through operations that order nothing -/

/-- The queue, the entries and the transmission of the D transmitter stand. -/
structure SameOrders (s t : State) : Prop where
  brake : t.spine.brake = s.spine.brake
  decel : t.spine.decel = s.spine.decel
  queueD : t.spine.queueD = s.spine.queueD
  sendingD : t.spine.sendingD = s.spine.sendingD

section
variable {s t u : State}

theorem SameOrders.refl (s : State) : SameOrders s s := ⟨rfl, rfl, rfl, rfl⟩

theorem SameOrders.trans (h : SameOrders s t) (g : SameOrders t u) : SameOrders s u :=
  ⟨g.brake.trans h.brake, g.decel.trans h.decel, g.queueD.trans h.queueD, g.sendingD.trans h.sendingD⟩

theorem SameOrders.of_spine (same : t.spine = s.spine) : SameOrders s t := by
  constructor <;> rw [same]

theorem withStop_orders (s : State) (x) : SameOrders s (s.withStop x) := .of_spine rfl

theorem withPlayer_orders (s : State) (x) : SameOrders s (s.withPlayer x) := .of_spine rfl

theorem refreshLamps_orders (s : State) : SameOrders s (refreshLamps s) := .of_spine rfl

theorem noteOccurrence_orders (k d) (s : State) : SameOrders s (noteOccurrence k d s) := by
  obtain ⟨brake, decel, queue, sending⟩ := noteOccurrence_spineD s k d
  exact ⟨brake, decel, queue, sending⟩

theorem changeState_orders (st r) (s : State) : SameOrders s (changeState st r s) :=
  (withStop_orders s _).trans (noteOccurrence_orders _ _ _)

theorem raise_orders (awake : s.stop.state ≠ .parked) (k d) : SameOrders s (raise k d s) :=
  raise_awake awake k d ▸ noteOccurrence_orders k d s

theorem joinTrip_orders (awake : s.stop.state ≠ .parked) (c) : SameOrders s (joinTrip c s) := by
  obtain ⟨brake, decel, queue, sending⟩ := joinTrip_spineD awake c
  exact ⟨brake, decel, queue, sending⟩

theorem joinTrip_awake (awake : s.stop.state ≠ .parked) (c) : (joinTrip c s).stop.state ≠ .parked := by
  rw [joinTrip_core awake]
  exact awake

theorem joinPresent_orders (awake : s.stop.state ≠ .parked) : SameOrders s (joinPresent s) := by
  have all : ∀ (cs : List (Fin 21)) (s : State), s.stop.state ≠ .parked →
      SameOrders s (cs.foldl (fun s c => joinTrip c s) s) := by
    intro cs
    induction cs with
    | nil => exact fun s _ => .refl s
    | cons c rest ih => exact fun s awake => (joinTrip_orders awake c).trans (ih _ (joinTrip_awake awake c))
  exact all _ s awake

theorem enterPlayer_orders (awake : s.stop.state ≠ .parked) (p) : SameOrders s (enterPlayer p s) :=
  (withPlayer_orders s _).trans ((raise_orders (by exact awake) 5 _).trans (refreshLamps_orders _))

theorem closeRecorder_orders (e) (s : State) : SameOrders s (closeRecorder e s) := by
  unfold closeRecorder
  split <;> exact ⟨rfl, rfl, rfl, rfl⟩

theorem endRecording_orders (awake : s.stop.state ≠ .parked) (e) : SameOrders s (endRecording e s) := by
  unfold endRecording
  split
  · exact (closeRecorder_orders e s).trans ((raise_orders (by simpa using awake) 9 _).trans (refreshLamps_orders _))
  · exact .refl s

theorem interruptRecorder_state (awake : s.stop.state ≠ .parked) :
    (interruptRecorder s).stop.state = s.stop.state := by
  unfold interruptRecorder
  split
  · rfl
  · exact (endRecording_core awake _).1

theorem leaveRun_orders (awake : s.stop.state ≠ .parked) : SameOrders s (leaveRun s) := by
  have interrupted : SameOrders s (interruptRecorder s) := by
    unfold interruptRecorder
    split
    · exact .refl s
    · exact endRecording_orders awake _
  have state := interruptRecorder_state awake
  unfold leaveRun suspendPlayer
  split
  · refine interrupted.trans (.trans ?_ (enterPlayer_orders ?_ _))
    · exact ⟨rfl, rfl, rfl, rfl⟩
    · exact fun parked => awake (state.symm.trans parked)
  · exact interrupted

end

/-! ## The notices of leaving RUN (R156, R162) -/

/-- Notice 9 of a recording or an arming that ends. -/
def endLog (e : EndReason) (s : State) : List Note :=
  match s.recorder.take with
  | some t =>
    [(9, if s.recorder.state = .recording then
        recordEndDetail t e s.store.takes[t].samples s.store.takes[t].chain.length
      else recordEndDetail t e 0 0)]
  | none => []

/-- Notice 9 of a recorder that is interrupted. -/
def interruptLog (s : State) : List Note := if s.recorder.state = .idle then [] else endLog .interrupted s

/-- The detail of notice 5 at an entry of the player (R162). -/
def playerDetail (new : PlayerState) (p : Player) : List Byte :=
  [p.state.code, new.code] ++ optionBytes 1 (p.take.map fun t => [u8 t.val]) ++ natBE 3 p.index

/-- Notice 5 of a player that is suspended. -/
def suspendLog (s : State) : List Note :=
  if s.player.state.suspends then [(5, playerDetail .suspended s.player)] else []

section
variable {s : State}

theorem enterPlayer_noted (awake : s.stop.state ≠ .parked) (new) :
    Noted [(5, playerDetail new s.player)] s (enterPlayer new s) := by
  have raised := raise_noted_awake (s := s.withPlayer { s.player with state := new }) awake 5 (playerDetail new s.player)
  have entered : Noted [] s (s.withPlayer { s.player with state := new }) := .of_same rfl (fun _ => rfl) fun _ => rfl
  exact entered.trans (raised.trans (refreshLamps_noted _))

theorem endRecording_noted (awake : s.stop.state ≠ .parked) (e) : Noted (endLog e s) s (endRecording e s) := by
  unfold endRecording endLog
  cases s.recorder.take with
  | none => exact .refl s
  | some t =>
    exact (closeRecorder_noted e s).trans
      ((raise_noted_awake (by simpa using awake) 9 _).trans (refreshLamps_noted _))

theorem interruptRecorder_noted (awake : s.stop.state ≠ .parked) :
    Noted (interruptLog s) s (interruptRecorder s) := by
  unfold interruptRecorder interruptLog
  split
  · exact .refl s
  · exact endRecording_noted awake _

theorem interruptRecorder_player : (interruptRecorder s).player = s.player := by
  unfold interruptRecorder
  split <;> simp

theorem leaveRun_noted (awake : s.stop.state ≠ .parked) :
    Noted (interruptLog s ++ suspendLog s) s (leaveRun s) := by
  have interrupted := interruptRecorder_noted awake
  have state := interruptRecorder_state awake
  unfold leaveRun suspendPlayer suspendLog
  rw [interruptRecorder_player]
  split
  · refine interrupted.trans ?_
    have before : Noted [] (interruptRecorder s) ((interruptRecorder s).withPlayer
      { s.player with suspendedFrom := some s.player.state, goPending := false }) :=
      .of_same rfl (fun _ => rfl) fun _ => rfl
    rw [← state] at awake
    have entered := enterPlayer_noted (s := (interruptRecorder s).withPlayer
      { s.player with suspendedFrom := some s.player.state, goPending := false }) awake .suspended
    exact before.trans entered
  · simpa using interrupted

/-! ## The recorder and the player on leaving RUN (R160, R170) -/

theorem leaveRun_player_suspends (suspends : s.player.state.suspends = true) :
    (leaveRun s).player =
      { s.player with state := .suspended, suspendedFrom := some s.player.state, goPending := false } := by
  unfold leaveRun suspendPlayer
  rw [interruptRecorder_player, if_pos suspends, enterPlayer_player]
  rfl

theorem leaveRun_player_stands (stands : s.player.state.suspends = false) : (leaveRun s).player = s.player := by
  unfold leaveRun suspendPlayer
  rw [interruptRecorder_player, if_neg (by simp [stands]), interruptRecorder_player]

theorem leaveRun_interrupts (s : State) :
    (leaveRun s).recorder = (interruptRecorder s).recorder ∧ (leaveRun s).store = (interruptRecorder s).store := by
  unfold leaveRun suspendPlayer
  split
  · simp [enterPlayer]
  · exact ⟨rfl, rfl⟩

theorem interruptRecorder_idle (idle : s.recorder.state = .idle) : interruptRecorder s = s := if_pos idle

/-- A recorder at work with a take is closed. -/
theorem interruptRecorder_closes {k : Fin 32} (take : s.recorder.take = some k) (works : s.recorder.state ≠ .idle) :
    (interruptRecorder s).recorder = Recorder.initial
      ∧ (interruptRecorder s).store = (closeRecorder .interrupted s).store := by
  unfold interruptRecorder endRecording
  rw [if_neg works, take]
  simp

theorem closeRecorder_recording {k : Fin 32} (take : s.recorder.take = some k) (records : s.recorder.state = .recording)
    (e) :
    (closeRecorder e s).store = s.store.setTake k { s.store.takes[k] with state := .closed, endReason := some e } := by
  simp [closeRecorder, take, records]

theorem closeRecorder_armed (armed : s.recorder.state ≠ .recording) (e) : (closeRecorder e s).store = s.store := by
  unfold closeRecorder
  split
  next records _ => exact absurd records armed
  next => rfl

end

/-! ## The entries to CUT and RAMP (R105 to R108) -/

/-- A part in CUT before what leaving RUN brings about. -/
def cutting (reason : StopReason) (s : State) : State :=
  invalidateLast (changeState .cut reason (s.withStop
    { s.stop with rampTimer := .stopped, standstill := FlagSet.empty 7, detector := Detector.initial }))

/-- A part in RAMP before its deceleration orders and what leaving RUN brings about. -/
def ramping (reason : StopReason) (s : State) : State :=
  let t := changeState .ramp reason s
  t.withStop
    { t.stop with
      entryCycle := t.cycle.last
      standstill := FlagSet.empty 7
      rampTimer := t.startTimer t.stop.config.rampLimit }

section
variable {s : State}

theorem enterCut_run (run : s.stop.state = .run) (why) :
    enterCut why s = refreshLamps (leaveRun (offerBrake .engage (cutting why s))) :=
  congrArg refreshLamps (if_pos (by simpa using run))

theorem enterCut_elsewhere (other : s.stop.state ≠ .run) (why) :
    enterCut why s = refreshLamps (offerBrake .engage (cutting why s)) :=
  congrArg refreshLamps (if_neg (by simpa using other))

theorem enterRamp_eq (why) (s : State) : enterRamp why s = refreshLamps (leaveRun (offerDecels (ramping why s))) := rfl

theorem cutting_orders (why) (s : State) : SameOrders s (cutting why s) :=
  (withStop_orders s _).trans ((changeState_orders .cut why _).trans (.of_spine rfl))

theorem ramping_orders (why) (s : State) : SameOrders s (ramping why s) :=
  (changeState_orders .ramp why s).trans (.of_spine rfl)

theorem cutting_noted (why) (s : State) : Noted [(0, [s.stop.state.code, 0x03#8, why.code])] s (cutting why s) := by
  have cut := (withStop_noted s { s.stop with
    rampTimer := .stopped, standstill := FlagSet.empty 7, detector := Detector.initial }).trans
    ((changeState_noted _ .cut why).trans (invalidateLast_noted _))
  exact cut

theorem ramping_noted (why) (s : State) : Noted [(0, [s.stop.state.code, 0x01#8, why.code])] s (ramping why s) :=
  (changeState_noted s .ramp why).trans (withStop_noted _ _)

theorem cutting_awake (why) (s : State) : (offerBrake .engage (cutting why s)).stop.state ≠ .parked := by
  simp [cutting, invalidateLast]

theorem ramping_awake (why) (s : State) : (offerDecels (ramping why s)).stop.state ≠ .parked := by
  simp [ramping]

/-- The entry to CUT elsewhere than from RUN raises notice 0 alone. -/
theorem enterCut_noted_elsewhere (other : s.stop.state ≠ .run) (why) :
    Noted [(0, [s.stop.state.code, 0x03#8, why.code])] s (enterCut why s) := by
  rw [enterCut_elsewhere other]
  exact (cutting_noted why s).trans ((offerBrake_noted _ _).trans (refreshLamps_noted _))

/-- The logs of leaving RUN depend on the recorder, the player and the store alone. -/
theorem leaveLogs_congr {t : State} (recorder : t.recorder = s.recorder) (store : t.store = s.store)
    (player : t.player = s.player) : interruptLog t ++ suspendLog t = interruptLog s ++ suspendLog s := by
  simp only [interruptLog, endLog, suspendLog, recorder, store, player]

/-- The entry to CUT from RUN raises notice 0, then those of leaving RUN. -/
theorem enterCut_noted_run (run : s.stop.state = .run) (why) :
    Noted ((0, [0x00#8, 0x03#8, why.code]) :: (interruptLog s ++ suspendLog s)) s (enterCut why s) := by
  have left := leaveRun_noted (cutting_awake why s)
  rw [leaveLogs_congr (s := s) (by simp [cutting, invalidateLast]) (by simp [cutting, invalidateLast])
    (by simp [cutting, invalidateLast])] at left
  rw [enterCut_run run]
  have cut := cutting_noted why s
  rw [run] at cut
  have entered := cut.trans ((offerBrake_noted _ .engage).trans (left.trans (refreshLamps_noted _)))
  simpa [StopState.code] using entered

/-- The entry to RAMP from RUN raises notice 0, then those of leaving RUN. -/
theorem enterRamp_noted (run : s.stop.state = .run) (why) :
    Noted ((0, [0x00#8, 0x01#8, why.code]) :: (interruptLog s ++ suspendLog s)) s (enterRamp why s) := by
  have left := leaveRun_noted (ramping_awake why s)
  rw [leaveLogs_congr (s := s) (by simp [ramping]) (by simp [ramping]) (by simp [ramping])] at left
  rw [enterRamp_eq]
  have ramp := ramping_noted why s
  rw [run] at ramp
  have entered := ramp.trans ((offerDecels_noted _).trans (left.trans (refreshLamps_noted _)))
  simpa [StopState.code] using entered

end

/-! ## Causes that join the trip set (R104) -/

section
variable {s : State}

/-- Notice 1 of a cause that joins the trip set. -/
def joinLog (c : Fin 21) (trip : FlagSet 21) : List Note := if trip[c] then [] else [(1, [u8 c.val])]

theorem joinTrip_absent {c : Fin 21} (absent : s.stop.trip[c] = false) :
    joinTrip c s = raise 1 [u8 c.val] (s.withStop { s.stop with trip := FlagSet.insert s.stop.trip c }) :=
  if_neg (by simpa using absent)

theorem joinTrip_again {c : Fin 21} (present : s.stop.trip[c] = true) : joinTrip c s = s := if_pos present

theorem joinTrip_noted (awake : s.stop.state ≠ .parked) (c) : Noted (joinLog c s.stop.trip) s (joinTrip c s) := by
  by_cases present : s.stop.trip[c] = true
  · rw [joinTrip_again present, joinLog, if_pos present]
    exact .refl s
  · rw [joinTrip_absent (by simpa using present), joinLog, if_neg present]
    exact (withStop_noted s _).trans (raise_noted_awake (by exact awake) 1 _)

/-- Causes that join the trip set one after another raise notice 1 in their order, those already there apart. -/
theorem foldl_joinTrip_noted (cs : List (Fin 21)) (distinct : cs.Nodup) :
    ∀ s : State, s.stop.state ≠ .parked →
      Noted ((cs.filter fun c => !s.stop.trip[c]).map fun c => (1, [u8 c.val])) s
        (cs.foldl (fun s c => joinTrip c s) s) := by
  induction cs with
  | nil => exact fun s _ => .refl s
  | cons c rest ih =>
    intro s awake
    obtain ⟨out, distinct⟩ := List.nodup_cons.1 distinct
    have joined := joinTrip_noted awake c
    have rests := ih distinct (joinTrip c s) (joinTrip_awake awake c)
    have same : (rest.filter fun d => !(joinTrip c s).stop.trip[d]) = rest.filter fun d => !s.stop.trip[d] := by
      refine List.filter_congr fun d mem => ?_
      have apart : c.val ≠ d.val := fun h => out (Fin.ext h ▸ mem)
      simp [Vector.getElem_set_ne, apart]
    rw [same] at rests
    have all := joined.trans rests
    rw [joinLog] at all
    rw [List.filter_cons]
    split at all
    next present => simpa [present] using all
    next absent => simpa [absent] using all

theorem joinPresent_noted (awake : s.stop.state ≠ .parked) :
    Noted (((List.finRange 21).filter fun c => !s.stop.trip[c] && s.stop.present[c]).map fun c => (1, [u8 c.val])) s
      (joinPresent s) := by
  have joined := foldl_joinTrip_noted s.stop.present.members ((List.nodup_finRange 21).filter _) s awake
  rw [FlagSet.members, List.filter_filter] at joined
  exact joined

end

end Sys2Proof.Machine
end

section
/-! PROOFS. What the entry, the occurrence and the leaving of a cause bring about (R104 to R108, R156, R160, R162, R170). -/

namespace Sys2Proof.Machine

/-! ## Brake and deceleration orders (R16, R108) -/

/-- What a brake order leaves of a D transmitter that is not in TEST: it waits behind a frame in transmission, and an
idle transmitter sends it. -/
def BrakeOrdered (a : BrakeAction) (s t : State) : Prop :=
  (s.spine.sendingD.isSome = true → t.spine.brake = some (brkFrame a))
    ∧ (s.spine.sendingD = none → t.spine.brake = none ∧ t.spine.sendingD = some (brkFrame a))

/-- What one deceleration order for each motion axis leaves of a D transmitter that is not in TEST: all wait behind a
frame in transmission, and an idle transmitter with no order waiting sends the first. -/
def DecelsOrdered (order : Fin 7 → Option Frame) (s t : State) : Prop :=
  (s.spine.sendingD.isSome = true → ∀ k : Fin 7, t.spine.decel[k] = order k)
    ∧ (s.spine.sendingD = none → s.spine.brake = none → (∀ k : Fin 7, s.spine.decel[k] = none) →
      t.spine.sendingD = order 0 ∧ t.spine.decel[0] = none ∧ ∀ k : Fin 7, 1 ≤ k.val → t.spine.decel[k] = order k)

section
variable {s t u : State}

theorem BrakeOrdered.after {a} (h : BrakeOrdered a s t) (g : SameOrders t u) : BrakeOrdered a s u := by
  rw [BrakeOrdered, g.brake, g.sendingD]
  exact h

theorem BrakeOrdered.before {a} (g : SameOrders s t) (h : BrakeOrdered a t u) : BrakeOrdered a s u := by
  rw [BrakeOrdered, ← g.sendingD]
  exact h

theorem DecelsOrdered.after {order} (h : DecelsOrdered order s t) (g : SameOrders t u) : DecelsOrdered order s u := by
  rw [DecelsOrdered, g.decel, g.sendingD]
  exact h

theorem DecelsOrdered.before {order} (g : SameOrders s t) (h : DecelsOrdered order t u) : DecelsOrdered order s u := by
  rw [DecelsOrdered, ← g.sendingD, ← g.brake, ← g.decel]
  exact h

theorem offerBrake_idle (other : s.inTest = false) (idle : s.spine.sendingD = none) (a) :
    offerBrake a s = s.withSpine { s.spine with brake := none, sendingD := some (brkFrame a) } := by
  refine (if_neg (by simp [other])).trans ((if_pos (by simp [idle])).trans ?_)
  exact if_neg (by simpa [State.inTest] using other)

theorem offerBrake_ordered (other : s.inTest = false) (a) : BrakeOrdered a s (offerBrake a s) := by
  refine ⟨fun busy => ?_, fun idle => ?_⟩
  · rw [offerBrake_busy other busy]
    rfl
  · rw [offerBrake_idle other idle]
    exact ⟨rfl, rfl⟩

/-- Behind a frame in transmission a deceleration order waits in its entry. -/
theorem offerDecel_busy (other : s.inTest = false) (busy : s.spine.sendingD.isSome = true) (k n) :
    offerDecel k n s = s.withSpine { s.spine with decel := s.spine.decel.set k.val (some (decFrame k n)) } := by
  refine (if_neg (by simp [other])).trans (if_neg ?_)
  simpa [Option.isSome_iff_ne_none] using busy

/-- Behind a frame in transmission, deceleration orders for distinct axes wait in their entries. -/
theorem offerDecels_busy (ks : List (Fin 7)) :
    ∀ s : State, s.inTest = false → s.spine.sendingD.isSome = true →
      let t := ks.foldl (fun s k => offerDecel k s.pose.axes[k.val].deceleration s) s
      t.spine.sendingD = s.spine.sendingD
        ∧ ∀ j : Fin 7, t.spine.decel[j] =
          if j ∈ ks then some (decFrame j s.pose.axes[j.val].deceleration) else s.spine.decel[j] := by
  induction ks with
  | nil => exact fun s _ _ => ⟨rfl, fun j => by simp⟩
  | cons k rest ih =>
    intro s other busy
    dsimp only
    rw [List.foldl_cons, offerDecel_busy other busy]
    obtain ⟨sending, orders⟩ := ih
      (s.withSpine { s.spine with decel := s.spine.decel.set k.val (some (decFrame k s.pose.axes[k.val].deceleration)) })
      other busy
    refine ⟨sending, fun j => (orders j).trans ?_⟩
    by_cases later : j ∈ rest
    · simp [later]
    · by_cases same : j = k
      · subst same
        simp [later]
      · have apart : k.val ≠ j.val := fun h => same (Fin.ext h.symm)
        simp [later, same, Vector.getElem_set_ne, apart]

/-- With no brake order waiting, the D transmitter takes the deceleration order of axis 0 first. -/
theorem takeD_first {n : Nat} (other : s.inTest = false) (brake : s.spine.brake = none)
    (first : s.spine.decel[(0 : Fin 7)] = some (decFrame 0 n)) :
    takeD s = s.withSpine { s.spine with decel := s.spine.decel.set 0 none, sendingD := some (decFrame 0 n) } := by
  have find : ((List.finRange 7).find? fun k : Fin 7 => s.spine.decel[k].isSome) = some 0 := by
    rw [List.finRange_succ, List.find?_cons_of_pos (by rw [first]; rfl)]
  unfold takeD
  rw [if_neg (by simp [other]), brake]
  dsimp only
  rw [find]
  dsimp only
  rw [first]
  rfl

/-- An idle D transmitter with no order waiting sends the first deceleration order at once. -/
theorem offerDecel_idle (other : s.inTest = false) (idle : s.spine.sendingD = none) (brake : s.spine.brake = none)
    (n) :
    offerDecel 0 n s =
      s.withSpine { s.spine with
        decel := (s.spine.decel.set 0 (some (decFrame 0 n))).set 0 none, sendingD := some (decFrame 0 n) } := by
  refine (if_neg (by simp [other])).trans ((if_pos (by simp [idle])).trans ?_)
  exact takeD_first (s := s.withSpine { s.spine with decel := s.spine.decel.set (0 : Fin 7).val (some (decFrame 0 n)) })
    other brake (by simp)

theorem offerDecels_ordered (other : s.inTest = false) :
    DecelsOrdered (fun k => some (decFrame k s.pose.axes[k.val].deceleration)) s (offerDecels s) := by
  unfold offerDecels
  refine ⟨fun busy k => ?_, fun idle brake none => ?_⟩
  · have mem := List.mem_finRange k
    generalize List.finRange 7 = ks at mem ⊢
    obtain ⟨-, orders⟩ := offerDecels_busy ks s other busy
    rw [orders k, if_pos mem]
  · have first := offerDecel_idle other idle brake s.pose.axes[(0 : Fin 7).val].deceleration
    have later : ∀ k : Fin 7, 1 ≤ k.val → k ∈ (List.finRange 6).map Fin.succ := by
      intro k high
      obtain ⟨j, rfl⟩ := Fin.exists_succ_eq.2 (show k ≠ 0 by rintro rfl; simp at high)
      simp
    have apart : (0 : Fin 7) ∉ (List.finRange 6).map Fin.succ := by simp
    rw [List.finRange_succ, List.foldl_cons, first]
    generalize (List.finRange 6).map Fin.succ = ks at later apart ⊢
    obtain ⟨sending, orders⟩ := offerDecels_busy ks
      (s.withSpine { s.spine with
        decel :=
          (s.spine.decel.set 0 (some (decFrame 0 s.pose.axes[(0 : Fin 7).val].deceleration))).set 0 Option.none
        sendingD := some (decFrame 0 s.pose.axes[(0 : Fin 7).val].deceleration) }) other rfl
    refine ⟨sending, (orders 0).trans ((if_neg apart).trans (by simp)), fun k high =>
      (orders k).trans (if_pos (later k high))⟩

end

/-! ## The entries to CUT and RAMP at the D transmitter (R106, R108) -/

section
variable {s : State}

theorem enterCut_ordered (other : s.inTest = false) (why) : BrakeOrdered .engage s (enterCut why s) := by
  have test : (cutting why s).inTest = false := by simpa [cutting, invalidateLast, State.inTest] using other
  have ordered := (offerBrake_ordered test .engage).before (cutting_orders why s)
  by_cases run : s.stop.state = .run
  · rw [enterCut_run run]
    exact ordered.after ((leaveRun_orders (cutting_awake why s)).trans (refreshLamps_orders _))
  · rw [enterCut_elsewhere run]
    exact ordered.after (refreshLamps_orders _)

theorem enterRamp_ordered (other : s.inTest = false) (why) :
    DecelsOrdered (fun k => some (decFrame k s.pose.axes[k.val].deceleration)) s (enterRamp why s) := by
  have test : (ramping why s).inTest = false := by simpa [ramping, State.inTest] using other
  have pose : (ramping why s).pose = s.pose := by simp [ramping]
  have ordered := (offerDecels_ordered test).before (ramping_orders why s)
  rw [pose] at ordered
  rw [enterRamp_eq]
  exact ordered.after ((leaveRun_orders (ramping_awake why s)).trans (refreshLamps_orders _))

end

/-! ## The entry of a cause, branch by branch -/

section
variable {s : State} {c : Cause}

theorem withPresent_orders (s : State) (c) : SameOrders s (s.withPresent c) := .of_spine rfl

/-- The notices 1 of the causes that join with a cause in RUN, and of the cause alone elsewhere. -/
def joining (c : Cause) (s : State) : List (Fin 21) :=
  (List.finRange 21).filter fun d =>
    !s.stop.trip[d] && (decide (d = c.code) || (s.stop.state == .run && s.stop.present[d]))

theorem joining_run (run : s.stop.state = .run) :
    joining c s =
      (List.finRange 21).filter fun d => !s.stop.trip[d] && (FlagSet.insert s.stop.present c.code)[d] := by
  refine List.filter_congr fun d _ => ?_
  by_cases same : d = c.code
  · subst same
    simp [run, FlagSet.insert]
  · have apart : c.code.val ≠ d.val := fun h => same (Fin.ext h.symm)
    simp [run, FlagSet.insert, same, Vector.getElem_set_ne, apart]

theorem joining_elsewhere (other : s.stop.state ≠ .run) :
    joining c s = if s.stop.trip[c.code] then [] else [c.code] := by
  have alone : joining c s = (List.finRange 21).filter fun d => !s.stop.trip[d] && decide (d = c.code) := by
    have notRun : (s.stop.state == .run) = false := beq_false_of_ne other
    refine List.filter_congr fun d _ => ?_
    simp [notRun]
  rw [alone]
  split
  next present =>
    refine List.filter_eq_nil_iff.2 fun d _ => ?_
    by_cases same : d = c.code
    · subst same
      simpa using present
    · simp [same]
  next absent =>
    have only : ((List.finRange 21).filter fun d => !s.stop.trip[d] && decide (d = c.code)) =
        (List.finRange 21).filter fun d => d == c.code := by
      refine List.filter_congr fun d _ => ?_
      by_cases same : d = c.code
      · subst same
        simpa using absent
      · simp [same]
    rw [only, List.filter_beq, List.count_eq_one_of_mem (List.nodup_finRange 21) (List.mem_finRange _)]
    rfl

theorem joinLog_eq (other : s.stop.state ≠ .run) :
    joinLog c.code s.stop.trip = (joining c s).map fun d => ((1 : Fin 17), [u8 d.val]) := by
  rw [joining_elsewhere other, joinLog]
  split <;> rfl

/-- Everything that a cause's entry in RUN leaves, up to the records of the entry to CUT or RAMP. -/
theorem causeEnters_fromRun (absent : s.stop.present[c.code] = false) (run : s.stop.state = .run) :
    ∃ u : State, causeEnters c s = joinPresent (refreshLamps (leaveRun u))
      ∧ u.player = s.player ∧ u.recorder = s.recorder ∧ u.store = s.store
      ∧ u.stop.state = (if c.isCut then .cut else .ramp)
      ∧ u.stop.present = FlagSet.insert s.stop.present c.code ∧ u.stop.trip = s.stop.trip := by
  by_cases isCut : c.isCut = true
  · refine ⟨offerBrake .engage (cutting (.cause c) (s.withPresent c)), ?_, ?_⟩
    · rw [causeEnters_cutFromRun absent isCut run, enterCut_run (by exact run)]
    · simp [cutting, invalidateLast, State.withPresent, isCut]
  · refine ⟨offerDecels (ramping (.cause c) (s.withPresent c)), ?_, ?_⟩
    · rw [causeEnters_rampFromRun absent (by simpa using isCut) run, enterRamp_eq]
    · simp [ramping, State.withPresent, isCut]

/-! ### A cause of category CUT -/

/-- The entry of a CUT-category cause ends in CUT (R106). -/
theorem causeEnters_cut (absent : s.stop.present[c.code] = false) (isCut : c.isCut = true) :
    (causeEnters c s).stop.state = .cut
      ∧ (s.stop.state ≠ .cut → (causeEnters c s).stop.driveEnable = false
        ∧ (∀ k : Fin 10, (causeEnters c s).gate.last[k] = none) ∧ (causeEnters c s).stop.rampTimer = .stopped
        ∧ (causeEnters c s).stop.standstill = FlagSet.empty 7
        ∧ (causeEnters c s).stop.detector = ⟨.waitRelease, 0⟩) := by
  by_cases cut : s.stop.state = .cut
  · rw [causeEnters_cutInCut absent isCut cut]
    rw [joinTrip_core (by simp [State.withPresent, cut])]
    exact ⟨by simp [State.withPresent, cut], fun other => absurd cut other⟩
  · obtain ⟨state, enable, timer, still, detector⟩ := enterCut_core (.cause c) (s.withPresent c)
    have awake : (enterCut (.cause c) (s.withPresent c)).stop.state ≠ .parked := by simp
    by_cases run : s.stop.state = .run
    · rw [causeEnters_cutFromRun absent isCut run]
      obtain ⟨trip, stop, -⟩ := joinPresent_core awake
      rw [stop]
      exact ⟨state, fun _ => ⟨enable, by simp, timer, still, detector⟩⟩
    · rw [causeEnters_cutElsewhere absent isCut cut run, joinTrip_core awake]
      exact ⟨state, fun _ => ⟨enable, by simp, timer, still, detector⟩⟩

/-- The entry of a CUT-category cause offers BRK ENGAGE (R104, R106). -/
theorem causeEnters_ordered (absent : s.stop.present[c.code] = false) (isCut : c.isCut = true)
    (other : s.inTest = false) : BrakeOrdered .engage s (causeEnters c s) := by
  have entered := (enterCut_ordered (s := s.withPresent c) other (.cause c)).before (withPresent_orders s c)
  have awake : (enterCut (.cause c) (s.withPresent c)).stop.state ≠ .parked := by simp
  by_cases cut : s.stop.state = .cut
  · rw [causeEnters_cutInCut absent isCut cut]
    have ordered := (offerBrake_ordered (s := s.withPresent c) other .engage).before (withPresent_orders s c)
    exact ordered.after (joinTrip_orders (by simp [State.withPresent, cut]) _)
  · by_cases run : s.stop.state = .run
    · rw [causeEnters_cutFromRun absent isCut run]
      exact entered.after (joinPresent_orders awake)
    · rw [causeEnters_cutElsewhere absent isCut cut run]
      exact entered.after (joinTrip_orders awake _)

/-! ### A cause of category RAMP -/

theorem enterRamp_entryCycle (why) (s : State) : (enterRamp why s).stop.entryCycle = s.cycle.last := by
  rw [enterRamp_eq]
  simp [ramping]

/-- The entry of a RAMP-category cause in RUN is the entry to RAMP (R105, R108). -/
theorem causeEnters_ramp (absent : s.stop.present[c.code] = false) (isRamp : c.isCut = false)
    (run : s.stop.state = .run) :
    (causeEnters c s).stop.state = .ramp ∧ (causeEnters c s).stop.driveEnable = true
      ∧ (causeEnters c s).stop.entryCycle = s.cycle.last ∧ (causeEnters c s).stop.standstill = FlagSet.empty 7
      ∧ (causeEnters c s).stop.rampTimer = .running s.timebase s.stop.config.rampLimit
      ∧ (causeEnters c s).gate = s.gate := by
  obtain ⟨state, enable, timer, still, -⟩ := enterRamp_core (.cause c) (s.withPresent c)
  rw [causeEnters_rampFromRun absent isRamp run]
  obtain ⟨trip, stop, -⟩ := joinPresent_core (s := enterRamp (.cause c) (s.withPresent c)) (by simp)
  rw [stop]
  dsimp only
  refine ⟨state, enable, ?_, still, timer, ?_⟩
  · exact enterRamp_entryCycle _ _
  · simp [State.withPresent]

theorem causeEnters_rampOrdered (absent : s.stop.present[c.code] = false) (isRamp : c.isCut = false)
    (run : s.stop.state = .run) (other : s.inTest = false) :
    DecelsOrdered (fun k => some (decFrame k s.pose.axes[k.val].deceleration)) s (causeEnters c s) := by
  rw [causeEnters_rampFromRun absent isRamp run]
  have ordered := (enterRamp_ordered (s := s.withPresent c) other (.cause c)).before (withPresent_orders s c)
  have pose : (s.withPresent c).pose = s.pose := rfl
  rw [pose] at ordered
  exact ordered.after (joinPresent_orders (by simp))

/-- A RAMP-category cause has no part in whether a CUT-category cause is present. -/
theorem cutPresent_congr {st st' : Stop} (isRamp : c.isCut = false)
    (present : st'.present = FlagSet.insert st.present c.code) : st'.cutPresent = st.cutPresent := by
  unfold Stop.cutPresent
  rw [present]
  refine congrArg (List.any (List.finRange 21)) (funext fun d => ?_)
  by_cases same : c.code = d
  · subst same
    have off : codeIsCut c.code = false := isRamp
    simp [off]
  · have apart : c.code.val ≠ d.val := fun h => same (Fin.ext h)
    simp [FlagSet.insert, Vector.getElem_set_ne, apart]

theorem judgeCut_stands (stands : ¬(s.stop.state = .cut ∧ s.stop.cutPresent = false)) : judgeCut s = s := if_neg stands

theorem judgeCut_leaves (cut : s.stop.state = .cut) (none : s.stop.cutPresent = false) :
    judgeCut s = enterHeld .cleared s := if_pos ⟨cut, none⟩

theorem joinTrip_withPresent_stop (awake : s.stop.state ≠ .parked) (c : Cause) :
    (joinTrip c.code (s.withPresent c)).stop =
      { s.stop with
        present := FlagSet.insert s.stop.present c.code, trip := s.stop.trip.set c.code.val true } :=
  joinTrip_core (s := s.withPresent c) awake _

/-- In RAMP and HELD, and in CUT while a CUT-category cause is present, a RAMP-category cause that enters joins the trip
set alone. -/
theorem causeEnters_joins (absent : s.stop.present[c.code] = false) (isRamp : c.isCut = false)
    (stands : s.stop.state = .ramp ∨ s.stop.state = .held ∨ (s.stop.state = .cut ∧ s.stop.cutPresent = true)) :
    causeEnters c s = joinTrip c.code (s.withPresent c) := by
  have state : s.stop.state ≠ .run ∧ s.stop.state ≠ .parked ∧ (s.stop.state = .cut → s.stop.cutPresent = true) := by
    obtain ramp | held | ⟨cut, present⟩ := stands
    · simp [ramp]
    · simp [held]
    · simp [cut, present]
  obtain ⟨notRun, awake, cutPresent⟩ := state
  rw [causeEnters_rampElsewhere absent isRamp notRun, judgeCut_stands]
  rw [joinTrip_withPresent_stop awake]
  rintro ⟨cut, none⟩
  rw [cutPresent_congr (st := s.stop) isRamp rfl, cutPresent cut] at none
  exact Bool.false_ne_true none.symm

/-- In CUT without a CUT-category cause, a RAMP-category cause that enters takes the part to HELD (R107). -/
theorem causeEnters_clears (absent : s.stop.present[c.code] = false) (isRamp : c.isCut = false)
    (cut : s.stop.state = .cut) (none : s.stop.cutPresent = false) :
    causeEnters c s = enterHeld .cleared (joinTrip c.code (s.withPresent c)) := by
  have stop := joinTrip_withPresent_stop (s := s) (by simp [cut]) c
  rw [causeEnters_rampElsewhere absent isRamp (by simp [cut]), judgeCut_leaves]
  · rw [stop]
    exact cut
  · rw [stop, cutPresent_congr (st := s.stop) isRamp rfl, none]

/-- In PARKED a RAMP-category cause that enters joins the trip set, whose notice may wake the part. -/
theorem causeEnters_parked (absent : s.stop.present[c.code] = false) (isRamp : c.isCut = false)
    (parked : s.stop.state = .parked) : causeEnters c s = joinTrip c.code (s.withPresent c) := by
  rw [causeEnters_rampElsewhere absent isRamp (by simp [parked]), judgeCut_stands]
  rintro ⟨cut, -⟩
  by_cases present : s.stop.trip[c.code] = true
  · rw [joinTrip_again (by exact present)] at cut
    exact absurd (parked.symm.trans cut) (by decide)
  · rw [joinTrip_absent (by simpa [State.withPresent] using present)] at cut
    obtain stands | ⟨-, -, -, wakes⟩ := raise_stop_cases 1 [u8 c.code.val]
      ((s.withPresent c).withStop
        { (s.withPresent c).stop with trip := FlagSet.insert (s.withPresent c).stop.trip c.code })
    · rw [stands] at cut
      exact absurd (parked.symm.trans cut) (by decide)
    · rw [wakes, (wake_core _ _).1] at cut
      exact absurd cut (by decide)

end

/-! ### In PARKED -/

section
variable {s : State} {c : Fin 21}

/-- A cause's notice 1 wakes the part. -/
def JoinWakes (c : Fin 21) (s : State) : Prop :=
  s.stop.trip[c] = false ∧ s.notices.config.wake[1] = true ∧ s.notices.entries[1].pending = false

theorem joinTrip_wakes (parked : s.stop.state = .parked) (wakes : JoinWakes c s) :
    (joinTrip c s).stop.state = .held ∧ (joinTrip c s).stop.driveEnable = true
      ∧ (joinTrip c s).stop.detector = ⟨.waitRelease, 0⟩
      ∧ Noted [(1, [u8 c.val]), (0, [0x04#8, 0x02#8, 0x1A#8]), (16, [0x01#8, 0x01#8])] s (joinTrip c s) := by
  obtain ⟨absent, inSet, idle⟩ := wakes
  have woken : Wakes 1 (s.withStop { s.stop with trip := FlagSet.insert s.stop.trip c }) := ⟨parked, inSet, idle⟩
  have notes := (withStop_noted s { s.stop with trip := FlagSet.insert s.stop.trip c }).trans
    (raise_noted _ 1 [u8 c.val])
  rw [raiseLog_wakes woken] at notes
  rw [joinTrip_absent absent]
  rw [raise_wakes woken] at notes ⊢
  obtain ⟨state, enable, -, -, detector⟩ := wake_core (.source 1)
    (noteOccurrence 1 [u8 c.val] (s.withStop { s.stop with trip := FlagSet.insert s.stop.trip c }))
  exact ⟨state, enable, detector, notes⟩

theorem joinTrip_sleeps (parked : s.stop.state = .parked) (still : ¬JoinWakes c s) :
    (joinTrip c s).stop.state = .parked ∧ (joinTrip c s).stop.driveEnable = s.stop.driveEnable
      ∧ Noted (joinLog c s.stop.trip) s (joinTrip c s) := by
  by_cases present : s.stop.trip[c] = true
  · rw [joinTrip_again present, joinLog, if_pos present]
    exact ⟨parked, rfl, .refl s⟩
  · have absent : s.stop.trip[c] = false := by simpa using present
    have sleeps : ¬Wakes 1 (s.withStop { s.stop with trip := FlagSet.insert s.stop.trip c }) :=
      fun ⟨_, inSet, idle⟩ => still ⟨absent, inSet, idle⟩
    have notes := (withStop_noted s { s.stop with trip := FlagSet.insert s.stop.trip c }).trans
      (raise_noted _ 1 [u8 c.val])
    rw [raiseLog_leaves sleeps] at notes
    rw [joinTrip_absent absent, joinLog, if_neg present]
    refine ⟨?_, ?_, notes⟩
    · rw [raise_leaves sleeps]
      simpa using parked
    · rw [raise_leaves sleeps]
      simp

end

end Sys2Proof.Machine
end

section
/-! PROOFS. The notices of a cause that enters or occurs, in order, and what a cause brings about in all (R104 to R108). -/

namespace Sys2Proof.Machine

/-! ## The occurrences of one source in the logs of the stop supervision -/

theorem detailsOf_map_same {α : Type} (k : Fin 17) (f : α → List Byte) (xs : List α) :
    detailsOf k (xs.map fun x => (k, f x)) = xs.map f := by
  induction xs with
  | nil => rfl
  | cons x rest ih => rw [List.map_cons, detailsOf_cons_same, ih, List.map_cons]

theorem detailsOf_map_other {α : Type} {j k : Fin 17} (other : j ≠ k) (f : α → List Byte) (xs : List α) :
    detailsOf k (xs.map fun x => (j, f x)) = [] := by
  refine detailsOf_eq_nil fun n mem => ?_
  obtain ⟨x, -, rfl⟩ := List.mem_map.1 mem
  exact other

section
variable {k : Fin 17} (s : State)

theorem endLog_sources (e) : ∀ n ∈ endLog e s, n.1 = 9 := by
  unfold endLog
  split <;> simp

theorem interruptLog_sources : ∀ n ∈ interruptLog s, n.1 = 9 := by
  unfold interruptLog
  split
  · simp
  · exact endLog_sources s _

theorem suspendLog_sources : ∀ n ∈ suspendLog s, n.1 = 5 := by
  unfold suspendLog
  split <;> simp

theorem detailsOf_interruptLog_other (other : (9 : Fin 17) ≠ k) : detailsOf k (interruptLog s) = [] :=
  detailsOf_eq_nil fun n mem => interruptLog_sources s n mem ▸ other

theorem detailsOf_suspendLog_other (other : (5 : Fin 17) ≠ k) : detailsOf k (suspendLog s) = [] :=
  detailsOf_eq_nil fun n mem => suspendLog_sources s n mem ▸ other

end

/-- The notices of a cause's entry in RUN. -/
def runLog (c : Cause) (s : State) : List Note :=
  (0, [0x00#8, if c.isCut then 0x03#8 else 0x01#8, u8 c.code.val]) :: (interruptLog s ++ suspendLog s)
    ++ (joining c s).map fun d => (1, [u8 d.val])

section
variable {s : State} {c : Cause}

theorem detailsOf_runLog_zero :
    detailsOf 0 (runLog c s) = [[0x00#8, if c.isCut then 0x03#8 else 0x01#8, u8 c.code.val]] := by
  rw [runLog, detailsOf_append, detailsOf_cons_same, detailsOf_append, detailsOf_interruptLog_other s (by decide),
    detailsOf_suspendLog_other s (by decide), detailsOf_map_other (by decide)]
  rfl

theorem detailsOf_runLog_one : detailsOf 1 (runLog c s) = (joining c s).map fun d => [u8 d.val] := by
  rw [runLog, detailsOf_append, detailsOf_cons_other (by decide), detailsOf_append,
    detailsOf_interruptLog_other s (by decide), detailsOf_suspendLog_other s (by decide), detailsOf_map_same]
  rfl

theorem detailsOf_runLog_five : detailsOf 5 (runLog c s) = detailsOf 5 (suspendLog s) := by
  rw [runLog, detailsOf_append, detailsOf_cons_other (by decide), detailsOf_append,
    detailsOf_interruptLog_other s (by decide), detailsOf_map_other (by decide), List.nil_append, List.append_nil]

theorem detailsOf_runLog_nine : detailsOf 9 (runLog c s) = detailsOf 9 (interruptLog s) := by
  rw [runLog, detailsOf_append, detailsOf_cons_other (by decide), detailsOf_append,
    detailsOf_suspendLog_other s (by decide), detailsOf_map_other (by decide), List.append_nil, List.append_nil]

/-! ## The notices of a cause's entry, branch by branch -/

theorem withPresent_noted (s : State) (c : Cause) : Noted [] s (s.withPresent c) := withStop_noted s _

theorem causeEnters_noted_run (absent : s.stop.present[c.code] = false) (run : s.stop.state = .run) :
    Noted (runLog c s) s (causeEnters c s) := by
  have logs : interruptLog (s.withPresent c) ++ suspendLog (s.withPresent c) = interruptLog s ++ suspendLog s :=
    leaveLogs_congr rfl rfl rfl
  have joins : ∀ u : State, u.stop.trip = s.stop.trip → u.stop.present = FlagSet.insert s.stop.present c.code →
      u.stop.state ≠ .parked → Noted ((joining c s).map fun d => (1, [u8 d.val])) u (joinPresent u) := by
    intro u trip present awake
    rw [joining_run run, ← trip, ← present]
    exact joinPresent_noted awake
  by_cases isCut : c.isCut = true
  · have entered := enterCut_noted_run (s := s.withPresent c) run (.cause c)
    rw [logs] at entered
    rw [causeEnters_cutFromRun absent isCut run, runLog, if_pos isCut]
    exact (withPresent_noted s c).trans (entered.trans
      (joins _ (by simp [State.withPresent]) (by simp [State.withPresent]) (by simp)))
  · have entered := enterRamp_noted (s := s.withPresent c) run (.cause c)
    rw [logs] at entered
    rw [causeEnters_rampFromRun absent (by simpa using isCut) run, runLog, if_neg isCut]
    exact (withPresent_noted s c).trans (entered.trans
      (joins _ (by simp [State.withPresent]) (by simp [State.withPresent]) (by simp)))

theorem causeEnters_noted_cut (absent : s.stop.present[c.code] = false) (isCut : c.isCut = true)
    (cut : s.stop.state = .cut) : Noted (joinLog c.code s.stop.trip) s (causeEnters c s) := by
  rw [causeEnters_cutInCut absent isCut cut]
  have joined := joinTrip_noted (s := offerBrake .engage (s.withPresent c)) (by simp [State.withPresent, cut]) c.code
  have trip : (offerBrake .engage (s.withPresent c)).stop.trip = s.stop.trip := by simp [State.withPresent]
  rw [trip] at joined
  exact (withPresent_noted s c).trans ((offerBrake_noted _ _).trans joined)

theorem causeEnters_noted_cutElsewhere (absent : s.stop.present[c.code] = false) (isCut : c.isCut = true)
    (notCut : s.stop.state ≠ .cut) (notRun : s.stop.state ≠ .run) :
    Noted ((0, [s.stop.state.code, 0x03#8, u8 c.code.val]) :: joinLog c.code s.stop.trip) s (causeEnters c s) := by
  rw [causeEnters_cutElsewhere absent isCut notCut notRun]
  have joined := joinTrip_noted (s := enterCut (.cause c) (s.withPresent c)) (by simp) c.code
  have trip : (enterCut (.cause c) (s.withPresent c)).stop.trip = s.stop.trip := by simp [State.withPresent]
  have entered := enterCut_noted_elsewhere (s := s.withPresent c) notRun (.cause c)
  rw [trip] at joined
  exact (withPresent_noted s c).trans (entered.trans joined)

theorem joinTrip_withPresent_noted (awake : s.stop.state ≠ .parked) (c : Cause) :
    Noted (joinLog c.code s.stop.trip) s (joinTrip c.code (s.withPresent c)) :=
  (withPresent_noted s c).trans (joinTrip_noted (s := s.withPresent c) awake c.code)

theorem causeEnters_noted_clears (absent : s.stop.present[c.code] = false) (isRamp : c.isCut = false)
    (cut : s.stop.state = .cut) (none : s.stop.cutPresent = false) :
    Noted (joinLog c.code s.stop.trip ++ [(0, [0x03#8, 0x02#8, 0x16#8])]) s (causeEnters c s) := by
  have awake : s.stop.state ≠ .parked := by simp [cut]
  have held := enterHeld_noted (joinTrip c.code (s.withPresent c)) .cleared
  rw [joinTrip_withPresent_stop awake] at held
  dsimp only at held
  rw [cut] at held
  rw [causeEnters_clears absent isRamp cut none]
  exact (joinTrip_withPresent_noted awake c).trans held

theorem detailsOf_joinLog_zero (d trip) : detailsOf 0 (joinLog d trip) = [] := by
  unfold joinLog
  split <;> rfl

theorem detailsOf_one_joinLog (d trip) :
    detailsOf 1 (joinLog d trip) = if trip[d] = true then [] else [[u8 d.val]] := by
  unfold joinLog
  split <;> rfl

theorem detailsOf_joinLog_one (other : s.stop.state ≠ .run) :
    detailsOf 1 (joinLog c.code s.stop.trip) = (joining c s).map fun d => [u8 d.val] := by
  rw [joinLog_eq other, detailsOf_map_same]

/-- The notices 1 of the causes that join, at a cause's entry in every stop state (R104). -/
theorem causeEnters_joinNotices (absent : s.stop.present[c.code] = false) :
    Occurrences 1 ((joining c s).map fun d => [u8 d.val]) s (causeEnters c s) := by
  by_cases run : s.stop.state = .run
  · exact (causeEnters_noted_run absent run).occurrences detailsOf_runLog_one
  · have joins := detailsOf_joinLog_one (s := s) (c := c) run
    by_cases isCut : c.isCut = true
    · by_cases cut : s.stop.state = .cut
      · exact (causeEnters_noted_cut absent isCut cut).occurrences joins
      · refine (causeEnters_noted_cutElsewhere absent isCut cut run).occurrences ?_
        rw [detailsOf_cons_other (by decide), joins]
    · have isRamp : c.isCut = false := by simpa using isCut
      by_cases parked : s.stop.state = .parked
      · rw [causeEnters_parked absent isRamp parked]
        by_cases wakes : JoinWakes c.code (s.withPresent c)
        · obtain ⟨-, -, -, notes⟩ := joinTrip_wakes (s := s.withPresent c) parked wakes
          have absent' : s.stop.trip[c.code] = false := wakes.1
          refine ((withPresent_noted s c).trans notes).occurrences ?_
          rw [joining_elsewhere run, absent']
          rfl
        · obtain ⟨-, -, notes⟩ := joinTrip_sleeps (s := s.withPresent c) parked wakes
          exact ((withPresent_noted s c).trans notes).occurrences joins
      · by_cases clears : s.stop.state = .cut ∧ s.stop.cutPresent = false
        · obtain ⟨cut, none⟩ := clears
          refine (causeEnters_noted_clears absent isRamp cut none).occurrences ?_
          rw [detailsOf_append, joins, detailsOf_cons_other (by decide)]
          simp
        · have stands : s.stop.state = .ramp ∨ s.stop.state = .held
              ∨ (s.stop.state = .cut ∧ s.stop.cutPresent = true) := by
            cases state : s.stop.state <;> simp_all
          rw [causeEnters_joins absent isRamp stands]
          exact (joinTrip_withPresent_noted parked c).occurrences joins

/-- The notices 0 of the change of stop state that a CUT-category cause brings about (R105, R106). -/
theorem causeEnters_cutNotices (absent : s.stop.present[c.code] = false) (isCut : c.isCut = true) :
    (s.stop.state ≠ .cut → Occurrences 0 [[s.stop.state.code, 0x03#8, u8 c.code.val]] s (causeEnters c s))
      ∧ (s.stop.state = .cut → Occurrences 0 [] s (causeEnters c s)) := by
  refine ⟨fun notCut => ?_, fun cut =>
    (causeEnters_noted_cut absent isCut cut).occurrences (detailsOf_joinLog_zero _ _)⟩
  by_cases run : s.stop.state = .run
  · refine (causeEnters_noted_run absent run).occurrences (detailsOf_runLog_zero.trans ?_)
    rw [if_pos isCut, run]
    rfl
  · refine (causeEnters_noted_cutElsewhere absent isCut notCut run).occurrences ?_
    rw [detailsOf_cons_same, detailsOf_joinLog_zero]

/-- The notices 0, and 16 of a wake, that a RAMP-category cause brings about (R105, R107, R114). -/
theorem causeEnters_rampNotices (absent : s.stop.present[c.code] = false) (isRamp : c.isCut = false) :
    (s.stop.state = .run → Occurrences 0 [[0x00#8, 0x01#8, u8 c.code.val]] s (causeEnters c s))
      ∧ (s.stop.state = .ramp ∨ s.stop.state = .held → Occurrences 0 [] s (causeEnters c s))
      ∧ (s.stop.state = .cut → s.stop.cutPresent = true → Occurrences 0 [] s (causeEnters c s))
      ∧ (s.stop.state = .cut → s.stop.cutPresent = false →
        Occurrences 0 [[0x03#8, 0x02#8, 0x16#8]] s (causeEnters c s))
      ∧ (s.stop.state = .parked → JoinWakes c.code s →
        Occurrences 0 [[0x04#8, 0x02#8, 0x1A#8]] s (causeEnters c s)
          ∧ Occurrences 16 [[0x01#8, 0x01#8]] s (causeEnters c s))
      ∧ (s.stop.state = .parked → ¬JoinWakes c.code s → Occurrences 0 [] s (causeEnters c s)) := by
  have joins (stands : s.stop.state = .ramp ∨ s.stop.state = .held ∨ (s.stop.state = .cut ∧ s.stop.cutPresent = true)) :
      Occurrences 0 [] s (causeEnters c s) := by
    have awake : s.stop.state ≠ .parked := by rintro parked; simp [parked] at stands
    rw [causeEnters_joins absent isRamp stands]
    exact (joinTrip_withPresent_noted awake c).occurrences (detailsOf_joinLog_zero _ _)
  refine ⟨fun run => ?_, fun stands => joins (by tauto), fun cut present => joins (by tauto), fun cut none => ?_,
    fun parked wakes => ?_, fun parked still => ?_⟩
  · refine (causeEnters_noted_run absent run).occurrences (detailsOf_runLog_zero.trans ?_)
    rw [isRamp]
    rfl
  · refine (causeEnters_noted_clears absent isRamp cut none).occurrences ?_
    rw [detailsOf_append, detailsOf_joinLog_zero]
    rfl
  · obtain ⟨-, -, -, notes⟩ := joinTrip_wakes (s := s.withPresent c) parked wakes
    rw [causeEnters_parked absent isRamp parked]
    have all := (withPresent_noted s c).trans notes
    exact ⟨all.occurrences rfl, all.occurrences rfl⟩
  · obtain ⟨-, -, notes⟩ := joinTrip_sleeps (s := s.withPresent c) parked still
    rw [causeEnters_parked absent isRamp parked]
    exact ((withPresent_noted s c).trans notes).occurrences (detailsOf_joinLog_zero _ _)

end

end Sys2Proof.Machine
end

section
/-! PROOFS. What a cause brings about when it enters, occurs and leaves, in all (R82, R100 to R108, R156, R160, R162,
R170). -/

namespace Sys2Proof.Machine

section
variable {s : State} {c : Cause}

/-! ## The cause sets -/

/-- A cause that enters joins the trip set. -/
theorem causeEnters_trip (absent : s.stop.present[c.code] = false) : (causeEnters c s).stop.trip[c.code] = true := by
  have joined : ∀ u : State, (joinTrip c.code u).stop.trip[c.code] = true := by simp
  have joinedAll : ∀ u : State, u.stop.state ≠ .parked → u.stop.present = FlagSet.insert s.stop.present c.code →
      (joinPresent u).stop.trip[c.code] = true := by
    intro u awake present
    obtain ⟨trip, stop, mem⟩ := joinPresent_core awake
    rw [stop]
    exact (mem _).2 (.inr (by simp [present, FlagSet.insert]))
  by_cases isCut : c.isCut = true
  · by_cases cut : s.stop.state = .cut
    · rw [causeEnters_cutInCut absent isCut cut]
      exact joined _
    · by_cases run : s.stop.state = .run
      · rw [causeEnters_cutFromRun absent isCut run]
        exact joinedAll _ (by simp) (by simp [State.withPresent])
      · rw [causeEnters_cutElsewhere absent isCut cut run]
        exact joined _
  · have isRamp : c.isCut = false := by simpa using isCut
    by_cases run : s.stop.state = .run
    · rw [causeEnters_rampFromRun absent isRamp run]
      exact joinedAll _ (by simp) (by simp [State.withPresent])
    · rw [causeEnters_rampElsewhere absent isRamp run, (judgeCut_sets _).2]
      exact joined _

/-- Out of RUN every cause present joins the trip set. -/
theorem causeEnters_tripAll (absent : s.stop.present[c.code] = false) (run : s.stop.state = .run) (d : Fin 21)
    (present : (causeEnters c s).stop.present[d] = true) : (causeEnters c s).stop.trip[d] = true := by
  obtain ⟨u, eq, -, -, -, state, -⟩ := causeEnters_fromRun absent run
  have awake : u.stop.state ≠ .parked := by
    rw [state]
    split <;> decide
  have awake' : (refreshLamps (leaveRun u)).stop.state ≠ .parked := by
    rw [(refreshLamps_core _).1, (leaveRun_core awake).1]
    exact awake
  obtain ⟨trip, stop, mem⟩ := joinPresent_core awake'
  rw [eq] at present ⊢
  rw [stop] at present ⊢
  exact (mem d).2 (.inr present)

/-! ## A cause of category RAMP outside RUN -/

theorem causeEnters_joins_leaves (absent : s.stop.present[c.code] = false) (isRamp : c.isCut = false)
    (stands : s.stop.state = .ramp ∨ s.stop.state = .held ∨ (s.stop.state = .cut ∧ s.stop.cutPresent = true)) :
    (causeEnters c s).stop.state = s.stop.state ∧ (causeEnters c s).stop.driveEnable = s.stop.driveEnable
      ∧ (causeEnters c s).gate = s.gate ∧ (causeEnters c s).player = s.player ∧ (causeEnters c s).recorder = s.recorder
      ∧ (causeEnters c s).stop.trip = s.stop.trip.set c.code.val true := by
  have awake : s.stop.state ≠ .parked := by rintro parked; simp [parked] at stands
  rw [causeEnters_joins absent isRamp stands, joinTrip_withPresent_stop awake]
  simp [State.withPresent]

theorem causeEnters_clears_leaves (absent : s.stop.present[c.code] = false) (isRamp : c.isCut = false)
    (cut : s.stop.state = .cut) (none : s.stop.cutPresent = false) :
    (causeEnters c s).stop.state = .held ∧ (causeEnters c s).stop.driveEnable = true
      ∧ (causeEnters c s).stop.trip = s.stop.trip.set c.code.val true
      ∧ (causeEnters c s).gate = s.gate ∧ (causeEnters c s).player = s.player
      ∧ (causeEnters c s).recorder = s.recorder := by
  rw [causeEnters_clears absent isRamp cut none]
  simp [State.withPresent]

theorem causeEnters_parked_leaves (absent : s.stop.present[c.code] = false) (isRamp : c.isCut = false)
    (parked : s.stop.state = .parked) :
    (causeEnters c s).stop.trip = s.stop.trip.set c.code.val true ∧ (causeEnters c s).gate = s.gate
      ∧ (causeEnters c s).player = s.player ∧ (causeEnters c s).recorder = s.recorder
      ∧ (if s.stop.trip[c.code] = false ∧ s.notices.config.wake[1] = true ∧ s.notices.entries[1].pending = false then
        (causeEnters c s).stop.state = .held ∧ (causeEnters c s).stop.driveEnable = true
          ∧ (causeEnters c s).stop.detector = ⟨.waitRelease, 0⟩
      else (causeEnters c s).stop.state = .parked ∧ (causeEnters c s).stop.driveEnable = s.stop.driveEnable) := by
  rw [causeEnters_parked absent isRamp parked]
  refine ⟨by simp [State.withPresent], by simp [State.withPresent], by simp [State.withPresent],
    by simp [State.withPresent], ?_⟩
  split
  next wakes =>
    obtain ⟨state, enable, detector, -⟩ := joinTrip_wakes (s := s.withPresent c) parked wakes
    exact ⟨state, enable, detector⟩
  next still =>
    obtain ⟨state, enable, -⟩ := joinTrip_sleeps (s := s.withPresent c) parked still
    exact ⟨state, enable⟩

/-- What a cause that enters leaves (R104 to R108). -/
theorem causeEnters_leaves (absent : s.stop.present[c.code] = false) :
    let t := causeEnters c s
    t.stop.present = s.stop.present.set c.code.val true
      ∧ t.stop.trip[c.code] = true
      ∧ (s.stop.state = .run → ∀ d : Fin 21, t.stop.present[d] = true → t.stop.trip[d] = true)
      ∧ (c.isCut = true → t.stop.state = .cut ∧ (s.stop.state ≠ .cut → t.stop.driveEnable = false
          ∧ (∀ k : Fin 10, t.gate.last[k] = none) ∧ t.stop.rampTimer = .stopped
          ∧ t.stop.standstill = FlagSet.empty 7 ∧ t.stop.detector = ⟨.waitRelease, 0⟩))
      ∧ (c.isCut = true → s.inTest = false → BrakeOrdered .engage s t)
      ∧ (c.isCut = false → s.stop.state = .run →
        t.stop.state = .ramp ∧ t.stop.driveEnable = true ∧ t.stop.entryCycle = s.cycle.last
          ∧ t.stop.standstill = FlagSet.empty 7
          ∧ t.stop.rampTimer = .running s.timebase s.stop.config.rampLimit ∧ t.gate = s.gate)
      ∧ (c.isCut = false → s.stop.state = .run → s.inTest = false →
        DecelsOrdered (fun k => some (decFrame k s.pose.axes[k.val].deceleration)) s t)
      ∧ (c.isCut = false →
        s.stop.state = .ramp ∨ s.stop.state = .held ∨ (s.stop.state = .cut ∧ s.stop.cutPresent = true) →
        t.stop.state = s.stop.state ∧ t.stop.driveEnable = s.stop.driveEnable ∧ t.gate = s.gate
          ∧ t.player = s.player ∧ t.recorder = s.recorder
          ∧ t.stop.trip = s.stop.trip.set c.code.val true)
      ∧ (c.isCut = false → s.stop.state = .cut → s.stop.cutPresent = false →
        t.stop.state = .held ∧ t.stop.driveEnable = true ∧ t.stop.trip = s.stop.trip.set c.code.val true
          ∧ t.gate = s.gate ∧ t.player = s.player ∧ t.recorder = s.recorder)
      ∧ (c.isCut = false → s.stop.state = .parked →
        t.stop.trip = s.stop.trip.set c.code.val true ∧ t.gate = s.gate ∧ t.player = s.player
          ∧ t.recorder = s.recorder
          ∧ (if s.stop.trip[c.code] = false ∧ s.notices.config.wake[1] = true
              ∧ s.notices.entries[1].pending = false then
            t.stop.state = .held ∧ t.stop.driveEnable = true ∧ t.stop.detector = ⟨.waitRelease, 0⟩
          else t.stop.state = .parked ∧ t.stop.driveEnable = s.stop.driveEnable))
      ∧ t.pose = s.pose ∧ t.env = s.env ∧ t.lens = s.lens ∧ t.cycle = s.cycle ∧ t.link = s.link ∧ t.cues = s.cues
      ∧ t.stop.config = s.stop.config ∧ t.stop.lines = s.stop.lines :=
  ⟨causeEnters_present c s, causeEnters_trip absent, causeEnters_tripAll absent, causeEnters_cut absent,
    causeEnters_ordered absent, causeEnters_ramp absent, causeEnters_rampOrdered absent,
    causeEnters_joins_leaves absent, causeEnters_clears_leaves absent, causeEnters_parked_leaves absent, by simp⟩

/-! ## The player and the recorder at an entry in RUN (R160, R170) -/

theorem causeEnters_player (absent : s.stop.present[c.code] = false) (run : s.stop.state = .run) :
    (s.player.state.suspends = true →
        (causeEnters c s).player =
          { s.player with state := .suspended, suspendedFrom := some s.player.state, goPending := false }
          ∧ Occurrences 5 [playerDetail .suspended s.player] s (causeEnters c s))
      ∧ (s.player.state.suspends = false →
        (causeEnters c s).player = s.player ∧ Occurrences 5 [] s (causeEnters c s)) := by
  obtain ⟨u, eq, player, -⟩ := causeEnters_fromRun absent run
  have notes := causeEnters_noted_run absent run
  have left : (causeEnters c s).player = (leaveRun u).player := by rw [eq]; simp
  refine ⟨fun suspends => ⟨?_, notes.occurrences (detailsOf_runLog_five.trans ?_)⟩, fun stands =>
    ⟨?_, notes.occurrences (detailsOf_runLog_five.trans ?_)⟩⟩
  · rw [left, leaveRun_player_suspends (by rwa [player]), player]
  · rw [suspendLog, if_pos suspends]
    rfl
  · rw [left, leaveRun_player_stands (by rwa [player]), player]
  · rw [suspendLog, if_neg (by simp [stands])]
    rfl

theorem causeEnters_recorder (absent : s.stop.present[c.code] = false) (run : s.stop.state = .run) {k : Fin 32}
    (take : s.recorder.take = some k) (works : s.recorder.state ≠ .idle) :
    (causeEnters c s).recorder = Recorder.initial
      ∧ (s.recorder.state = .recording →
        (causeEnters c s).store =
          s.store.setTake k { s.store.takes[k] with state := .closed, endReason := some .interrupted }
          ∧ Occurrences 9 [recordEndDetail k .interrupted s.store.takes[k].samples s.store.takes[k].chain.length] s
            (causeEnters c s))
      ∧ (s.recorder.state = .armed →
        (causeEnters c s).store = s.store
          ∧ Occurrences 9 [recordEndDetail k .interrupted 0 0] s (causeEnters c s)) := by
  obtain ⟨u, eq, -, recorder, store, -⟩ := causeEnters_fromRun absent run
  have notes := causeEnters_noted_run absent run
  have left : (causeEnters c s).recorder = (leaveRun u).recorder ∧ (causeEnters c s).store = (leaveRun u).store := by
    rw [eq]
    simp
  have closes := interruptRecorder_closes (s := u) (by rwa [recorder]) (by rwa [recorder])
  rw [left.1, left.2, (leaveRun_interrupts u).1, (leaveRun_interrupts u).2, closes.1, closes.2]
  refine ⟨rfl, fun records => ⟨?_, notes.occurrences (detailsOf_runLog_nine.trans ?_)⟩, fun armed =>
    ⟨?_, notes.occurrences (detailsOf_runLog_nine.trans ?_)⟩⟩
  · rw [closeRecorder_recording (by rwa [recorder]) (by rwa [recorder]), store]
  · simp only [interruptLog, endLog, records, take]
    rfl
  · rw [closeRecorder_armed (by simp [recorder, armed]), store]
  · simp only [interruptLog, endLog, armed, take]
    rfl

theorem causeEnters_recorder_idle (absent : s.stop.present[c.code] = false) (run : s.stop.state = .run)
    (idle : s.recorder.state = .idle) :
    (causeEnters c s).recorder = s.recorder ∧ (causeEnters c s).store = s.store
      ∧ Occurrences 9 [] s (causeEnters c s) := by
  obtain ⟨u, eq, -, recorder, store, -⟩ := causeEnters_fromRun absent run
  have notes := causeEnters_noted_run absent run
  have left : (causeEnters c s).recorder = (leaveRun u).recorder ∧ (causeEnters c s).store = (leaveRun u).store := by
    rw [eq]
    simp
  rw [left.1, left.2, (leaveRun_interrupts u).1, (leaveRun_interrupts u).2, interruptRecorder_idle (by rwa [recorder])]
  refine ⟨recorder, store, notes.occurrences (detailsOf_runLog_nine.trans ?_)⟩
  rw [interruptLog, if_pos idle]
  rfl

/-! ## The occurrence of a RAMP-category event -/

theorem detailsOf_zero_runs (log : List Note) (d) :
    detailsOf 0 ((0, d) :: (interruptLog s ++ suspendLog s) ++ log) = d :: detailsOf 0 log := by
  rw [detailsOf_append, detailsOf_cons_same, detailsOf_append, detailsOf_interruptLog_other s (by decide),
    detailsOf_suspendLog_other s (by decide)]
  rfl

theorem detailsOf_one_runs (log : List Note) (d) :
    detailsOf 1 ((0, d) :: (interruptLog s ++ suspendLog s) ++ log) = detailsOf 1 log := by
  rw [detailsOf_append, detailsOf_cons_other (by decide), detailsOf_append,
    detailsOf_interruptLog_other s (by decide), detailsOf_suspendLog_other s (by decide)]
  rfl

/-- An event cause of category RAMP in RUN (R105). -/
theorem rampEvent_run (run : s.stop.state = .run) :
    (rampEvent c s).stop.state = .ramp ∧ (rampEvent c s).stop.present = s.stop.present
      ∧ (∀ d : Fin 21, (rampEvent c s).stop.trip[d] = (s.stop.trip[d] || s.stop.present[d] || decide (d = c.code)))
      ∧ Occurrences 0 [[0x00#8, 0x01#8, u8 c.code.val]] s (rampEvent c s)
      ∧ Occurrences 1
        ((((List.finRange 21).filter fun d => !s.stop.trip[d] && s.stop.present[d]).map fun d => [u8 d.val])
          ++ if (s.stop.trip[c.code] || s.stop.present[c.code]) = true then [] else [[u8 c.code.val]])
        s (rampEvent c s) := by
  have eq : rampEvent c s = joinTrip c.code (joinPresent (enterRamp (.cause c) s)) := if_pos run
  have sets : (enterRamp (.cause c) s).stop.trip = s.stop.trip
      ∧ (enterRamp (.cause c) s).stop.present = s.stop.present := by simp
  obtain ⟨ramp, -⟩ := enterRamp_core (.cause c) s
  have awake : (enterRamp (.cause c) s).stop.state ≠ .parked := by simp
  have entered := enterRamp_noted run (.cause c)
  rw [eq]
  generalize enterRamp (.cause c) s = u at sets ramp awake entered ⊢
  obtain ⟨trip, stop, mem⟩ := joinPresent_core awake
  have awake' : (joinPresent u).stop.state ≠ .parked := by rwa [stop]
  have joined := joinTrip_core awake' c.code
  have all := (entered.trans (joinPresent_noted awake)).trans (joinTrip_noted awake' c.code)
  have trip' : ∀ d : Fin 21, trip[d] = (s.stop.trip[d] || s.stop.present[d]) := by
    intro d
    have iff := mem d
    rw [sets.1, sets.2] at iff
    rw [Bool.eq_iff_iff, Bool.or_eq_true]
    exact iff
  rw [sets.1, sets.2, stop] at all
  refine ⟨?_, ?_, fun d => ?_, all.occurrences ?_, all.occurrences ?_⟩
  · rw [joined, stop]
    dsimp only
    exact ramp
  · rw [joined, stop]
    dsimp only
    exact sets.2
  · rw [joined, stop]
    by_cases same : d = c.code
    · subst same
      simp
    · have apart : c.code.val ≠ d.val := fun h => same (Fin.ext h.symm)
      have member := trip' d
      simp only [Fin.getElem_fin] at member ⊢
      simp [Vector.getElem_set_ne, apart, member, same]
  · rw [List.append_assoc, detailsOf_zero_runs, detailsOf_append, detailsOf_map_other (by decide),
      detailsOf_joinLog_zero]
    rfl
  · rw [List.append_assoc, detailsOf_one_runs, detailsOf_append, detailsOf_map_same, joinLog, trip']
    split <;> rfl

/-- An event cause of category RAMP outside RUN joins the trip set. -/
theorem rampEvent_elsewhere (other : s.stop.state ≠ .run) :
    (rampEvent c s).stop.present = s.stop.present ∧ (rampEvent c s).stop.trip = s.stop.trip.set c.code.val true
      ∧ Occurrences 1 (if s.stop.trip[c.code] = true then [] else [[u8 c.code.val]]) s (rampEvent c s) := by
  have eq : rampEvent c s = joinTrip c.code s := if_neg other
  rw [eq]
  refine ⟨by simp, by simp, ?_⟩
  by_cases parked : s.stop.state = .parked
  · by_cases wakes : JoinWakes c.code s
    · obtain ⟨-, -, -, notes⟩ := joinTrip_wakes parked wakes
      obtain ⟨absent, -⟩ := wakes
      refine notes.occurrences ?_
      rw [absent]
      rfl
    · obtain ⟨-, -, notes⟩ := joinTrip_sleeps parked wakes
      exact notes.occurrences (detailsOf_one_joinLog _ _)
  · exact (joinTrip_noted parked c.code).occurrences (detailsOf_one_joinLog _ _)

/-! ## The leaving of a cause -/

/-- The state without a cause in the present set. -/
def State.withoutPresent (s : State) (c : Cause) : State :=
  s.withStop { s.stop with present := FlagSet.erase s.stop.present c.code }

theorem causeLeaves_absent (absent : s.stop.present[c.code] = false) : causeLeaves c s = s :=
  if_neg (by simp [absent])

theorem causeLeaves_present_eq (present : s.stop.present[c.code] = true) :
    causeLeaves c s = judgeCut (s.withoutPresent c) := if_pos present

theorem cutPresent_eq_false {st : Stop} :
    st.cutPresent = false ↔ ∀ d : Fin 21, d.val < 14 → st.present[d] = false := by
  simp [Stop.cutPresent, codeIsCut]

end

/-- Settles O18: a cause's entry branch by branch, an event cause in RUN and elsewhere, and a cause that leaves by the
judgement of CUT. -/
theorem causesEnter : Obligations.CausesEnter := by
  refine ⟨fun c s absent => causeEnters_leaves absent, fun c s absent run => ?inRun, fun c s absent =>
    ⟨causeEnters_joinNotices absent, causeEnters_cutNotices absent, causeEnters_rampNotices absent⟩,
    fun c s => ⟨rampEvent_run, rampEvent_elsewhere⟩, fun c s => ⟨causeLeaves_absent, fun present cut none => ?clears,
      fun present stands => ?stands⟩⟩
  case inRun =>
    obtain ⟨suspended, stood⟩ := causeEnters_player absent run
    refine ⟨fun plays => ?_, fun rests => stood ?_, fun k take works => causeEnters_recorder absent run take works,
      causeEnters_recorder_idle absent run⟩
    · have suspends : s.player.state.suspends = true := by obtain h | h | h := plays <;> rw [h] <;> rfl
      obtain ⟨player, notes⟩ := suspended suspends
      have detail : playerDetail .suspended s.player =
          [s.player.state.code, 0x04#8]
            ++ (match s.player.take with | some q => [0x01#8, u8 q.val] | none => [0x00#8, 0x00#8])
            ++ natBE 3 s.player.index := by
        unfold playerDetail
        cases s.player.take <;> rfl
      exact ⟨player, detail ▸ notes⟩
    · obtain h | h | h := rests <;> rw [h] <;> rfl
  case clears =>
    have leaves : causeLeaves c s = enterHeld .cleared (s.withoutPresent c) :=
      (causeLeaves_present_eq present).trans (judgeCut_leaves cut (cutPresent_eq_false.2 none))
    refine ⟨leaves, ?_⟩
    rw [leaves]
    simp [State.withoutPresent, FlagSet.erase]
  case stands =>
    refine (causeLeaves_present_eq present).trans (judgeCut_stands ?_)
    rintro ⟨cut, none⟩
    obtain other | ⟨d, small, mem⟩ := stands
    · exact other cut
    · exact Bool.false_ne_true ((cutPresent_eq_false.1 none d small).symm.trans mem)

end Sys2Proof.Machine
end

section
/-! PROOFS. The end of a ramp, the re-arm gesture, the crew stop lines, the inputs and the lamps (R68, R96 to R99, R109,
R111, R112, R119, R121, R188). -/

namespace Sys2Proof.Machine

/-- Occurrences of a source after operations that bring none of it about. -/
theorem Noted.after {s t u : State} {ks : List (Fin 17)} {k : Fin 17} {log : List Note} (h : Noted log t u)
    (g : NotesAmong ks s t) (out : k ∉ ks) {details : List (List Byte)} (same : detailsOf k log = details) :
    Occurrences k details s u := by
  obtain ⟨log', noted, among⟩ := g
  refine (noted.trans h).occurrences ?_
  rw [detailsOf_append, detailsOf_eq_nil (k := k) fun n mem here => out (here ▸ among n mem), same, List.nil_append]

/-! ## The end of a ramp (R109) -/

section
variable {s : State}

theorem rampExpiry_due (ramp : s.stop.state = .ramp) (due : IsDue s.stop.rampTimer s.timebase) :
    rampExpiry s = joinTrip 13 (enterCut (.cause .rampTimeout) s) :=
  if_pos ⟨ramp, (isDue_iff _ _).1 due⟩

/-- The ramp timer's expiry in RAMP. -/
theorem rampTimedOut_leaves (ramp : s.stop.state = .ramp) :
    let t := joinTrip 13 (enterCut (.cause .rampTimeout) s)
    t.stop.state = .cut ∧ t.stop.driveEnable = false ∧ t.stop.present = s.stop.present
      ∧ t.stop.trip = s.stop.trip.set 13 true ∧ t.stop.rampTimer = .stopped
      ∧ t.stop.standstill = FlagSet.empty 7 ∧ (∀ k : Fin 10, t.gate.last[k] = none) ∧ t.pose = s.pose
      ∧ t.player = s.player ∧ t.recorder = s.recorder ∧ t.store = s.store
      ∧ Occurrences 0 [[0x01#8, 0x03#8, 0x0D#8]] s t
      ∧ Occurrences 1 (if s.stop.trip[13] then [] else [[0x0D#8]]) s t := by
  intro t
  have notRun : s.stop.state ≠ .run := by simp [ramp]
  have records : t.player = s.player ∧ t.recorder = s.recorder ∧ t.store = s.store := by
    simp [t, enterCut_elsewhere notRun, cutting, invalidateLast]
  have entered := enterCut_noted_elsewhere notRun (.cause .rampTimeout)
  rw [ramp] at entered
  have core := enterCut_core (.cause .rampTimeout) s
  have sets : (enterCut (.cause .rampTimeout) s).stop.present = s.stop.present
      ∧ (enterCut (.cause .rampTimeout) s).stop.trip = s.stop.trip := by simp
  obtain ⟨state, enable, timer, still, -⟩ := core
  obtain ⟨present, trip⟩ := sets
  have awake : (enterCut (.cause .rampTimeout) s).stop.state ≠ .parked := by simp
  have joined := joinTrip_noted awake 13
  have stop : t.stop = _ := joinTrip_core awake 13
  rw [trip] at joined stop
  have notes : Noted ([(0, [0x01#8, 0x03#8, 0x0D#8])] ++ joinLog 13 s.stop.trip) s t := entered.trans joined
  obtain ⟨player, recorder, store⟩ := records
  rw [stop]
  refine ⟨state, enable, present, rfl, timer, still, by simp [t], by simp [t], player, recorder, store,
    notes.occurrences ?_, notes.occurrences ?_⟩
  · rw [detailsOf_append, detailsOf_joinLog_zero]
    rfl
  · rw [detailsOf_append, detailsOf_one_joinLog, detailsOf_cons_other (by decide)]
    rfl

/-- A hand-over of a condition that the present set shows as it is changes nothing. -/
theorem handOver_mirrored {c : Cause} {b : Bool} (mirrored : Mirrors s c b) : handOver c b s = s := by
  cases b
  · exact causeLeaves_absent mirrored
  · exact causeEnters_again mirrored

theorem judgeStandstill_eq {c : CycleNo} (ramp : s.stop.state = .ramp) (entry : s.stop.entryCycle = some c)
    (k : Fin 7) (echo : CycleNo) :
    judgeStandstill k echo s =
      if (echo - c).toNat ≤ 32767 then
        let set := s.stop.standstill.set k.val
          (decide (s.pose.entries[k.val].velocity.natAbs ≤ s.pose.axes[k.val].standstill))
        if (List.finRange 7).all fun i => set[i] then
          enterHeld .standstill (s.withStop { s.stop with standstill := set })
        else s.withStop { s.stop with standstill := set }
      else s := by
  unfold judgeStandstill
  rw [ramp, entry]

/-- Settles O21: the expiry of the ramp timer is an entry to CUT, and the last axis at standstill an entry to HELD. -/
theorem rampsEnd : Obligations.RampsEnd := by
  refine ⟨fun s ramp due => ⟨_, congrArg Host.Outcome.next (rampExpiry_due ramp due), rampTimedOut_leaves ramp⟩,
    fun first k x s mirrored => ?fbk, fun s still => congrArg Host.Outcome.next (if_neg ?idle),
    fun s k echo entry ramp entered => ?judged⟩
  case fbk =>
    have known : k.val < 7 := k.isLt
    refine (dif_pos known).trans ?_
    rw [handOver_mirrored mirrored]
  case idle =>
    rintro ⟨ramp, due⟩
    obtain other | notDue := still
    · exact other ramp
    · exact notDue ((isDue_iff _ _).2 due)
  case judged =>
    have judged := judgeStandstill_eq ramp entered k echo
    dsimp only at judged ⊢
    generalize s.stop.standstill.set k.val
      (decide (s.pose.entries[k.val].velocity.natAbs ≤ s.pose.axes[k.val].standstill)) = after at judged ⊢
    have all : ((List.finRange 7).all fun i => after[i]) = true ↔ ∀ j : Fin 7, after[j] = true := by simp
    refine ⟨fun early => judged.trans (if_neg (by omega)), fun since missing => ?_, fun since complete => ?_⟩
    · refine judged.trans ((if_pos since).trans (if_neg fun complete => ?_))
      obtain ⟨j, absent⟩ := missing
      exact Bool.false_ne_true (absent.symm.trans (all.1 complete j))
    · have held : judgeStandstill k echo s =
          enterHeld .standstill (s.withStop { s.stop with standstill := after }) :=
        judged.trans ((if_pos since).trans (if_pos (all.2 complete)))
      rw [held]
      obtain ⟨state, -, timer, -⟩ := enterHeld_core .standstill (s.withStop { s.stop with standstill := after })
      have notes := (withStop_noted s { s.stop with standstill := after }).trans (enterHeld_noted _ .standstill)
      refine ⟨state, timer, notes.occurrences ?_⟩
      have ramp' : (s.withStop { s.stop with standstill := after }).stop.state = .ramp := ramp
      rw [ramp']
      rfl

end

/-! ## The re-arm gesture (R111, R112, R119) -/

theorem complete_iff (g : Gesture) (d : Detector) :
    d.complete g = true ↔ d.state = .confirm ∧ g.confirm ≤ d.count := by
  rw [Detector.complete, Bool.and_eq_true, beq_iff_eq, decide_eq_true_iff]

/-- A gesture completes on the step that brings CONFIRM to the confirm count (R119). -/
theorem complete_step_iff (g : Gesture) (d : Detector) :
    Detector.complete g (Detector.step g true d) = true ↔
      (d.state = .confirm ∧ g.confirm ≤ d.count + 1)
        ∨ (g.confirm ≤ 1 ∧ (d.state = .gap ∨ (d.state = .armed ∧ g.kind = .single))) := by
  rw [complete_iff]
  obtain ⟨state, count⟩ := d
  cases state with
  | waitRelease => simp [Detector.step]
  | armed => cases kind : g.kind <;> simp [Detector.step, kind]
  | pulse =>
    simp only [Detector.step]
    split <;> simp
  | gap => simp [Detector.step]
  | confirm => simp [Detector.step]

theorem motionAxes_getElem {i : Nat} (h : i < motionAxes.length) :
    motionAxes[i] = ⟨i, lt_of_lt_of_le h (by decide)⟩ := by
  have small : i < 7 := h
  interval_cases i <;> rfl

/-- The first motion axis that meets a test. -/
theorem find_motionAxes {test : Axis → Bool} {k : Fin 7} (meets : test ⟨k.val, by omega⟩ = true)
    (least : ∀ j : Fin 7, j.val < k.val → test ⟨j.val, by omega⟩ = false) :
    motionAxes.find? test = some ⟨k.val, by omega⟩ := by
  refine List.find?_eq_some_iff_getElem.2 ⟨meets, k.val, k.isLt, motionAxes_getElem _, fun j hj => ?_⟩
  rw [motionAxes_getElem, least ⟨j, hj.trans k.isLt⟩ hj]
  rfl

theorem find_motionAxes_none {test : Axis → Bool} (none : ∀ k : Fin 7, test ⟨k.val, by omega⟩ = false) :
    motionAxes.find? test = Option.none := by
  refine List.find?_eq_none.2 fun k mem => ?_
  obtain ⟨i, h, rfl⟩ := List.getElem_of_mem mem
  rw [motionAxes_getElem, none ⟨i, h⟩]
  exact Bool.false_ne_true

section
variable {s : State}

theorem isEmpty_iff {n : Nat} {f : FlagSet n} : FlagSet.isEmpty f = true ↔ ∀ k : Fin n, f[k] = false := by
  simp [FlagSet.isEmpty, FlagSet.members, List.isEmpty_iff, List.filter_eq_nil_iff]

theorem rearmRefusal_causes (present : ∃ c : Fin 21, s.stop.present[c] = true) :
    rearmRefusal s = some (0x00#8 :: causeSetBytes s.stop.present) := by
  refine if_pos ?_
  obtain ⟨c, mem⟩ := present
  rw [Bool.not_eq_true', ← Bool.not_eq_true, isEmpty_iff]
  exact fun none => Bool.false_ne_true ((none c).symm.trans mem)

section
variable (none : ∀ c : Fin 21, s.stop.present[c] = false)
include none

theorem rearmRefusal_noCause :
    rearmRefusal s =
      match motionAxes.find? fun k => !s.pose.entries[k].present with
      | some k => some [0x01#8, u8 k.val]
      | Option.none =>
        match motionAxes.find? fun k => !withinLimits s.pose k with
        | some k => some ([0x02#8, u8 k.val] ++ intBE 4 s.pose.entries[k].position)
        | Option.none => Option.none := by
  have empty : (!FlagSet.isEmpty s.stop.present) = false := by rw [isEmpty_iff.2 none]; rfl
  refine (if_neg (by simp [empty])).trans ?_
  rfl

theorem rearmRefusal_absent {k : Fin 7} (absent : ¬s.pose.entries[k.val].present = true)
    (before : ∀ j : Fin 7, j.val < k.val → s.pose.entries[j.val].present = true) :
    rearmRefusal s = some [0x01#8, u8 k.val] := by
  rw [rearmRefusal_noCause none, find_motionAxes (k := k) (by simpa using absent) fun j hj => by simpa using before j hj]

theorem rearmRefusal_outside (present : ∀ k : Fin 7, s.pose.entries[k.val].present = true) {k : Fin 7}
    (outside : withinLimits s.pose ⟨k.val, by omega⟩ = false)
    (before : ∀ j : Fin 7, j.val < k.val → withinLimits s.pose ⟨j.val, by omega⟩ = true) :
    rearmRefusal s = some ([0x02#8, u8 k.val] ++ intBE 4 s.pose.entries[k.val].position) := by
  rw [rearmRefusal_noCause none, find_motionAxes_none fun k => by simpa using present k,
    find_motionAxes (k := k) (by simpa using outside) fun j hj => by simpa using before j hj]
  rfl

theorem rearmRefusal_none (present : ∀ k : Fin 7, s.pose.entries[k.val].present = true)
    (inside : ∀ k : Fin 7, withinLimits s.pose ⟨k.val, by omega⟩ = true) : rearmRefusal s = Option.none := by
  rw [rearmRefusal_noCause none, find_motionAxes_none fun k => by simpa using present k,
    find_motionAxes_none fun k => by simpa using inside k]

end

theorem rearmCheck_refuses {detail : List Byte} (refusal : rearmRefusal s = some detail) :
    rearmCheck s = raise 3 detail s := by
  rw [rearmCheck, refusal]

theorem rearmCheck_rearms (none : rearmRefusal s = none) : rearmCheck s = rearm s := by
  rw [rearmCheck, none]

theorem rearm_last (s : State) (k : Fin 10) :
    (rearm s).gate.last[k] = if k.val ≤ 6 then some s.pose.entries[k].position else s.gate.last[k] := by
  simp [rearm, reloadLast]

theorem rearm_brake (other : s.inTest = false) (busy : s.spine.sendingD.isSome = true) :
    (rearm s).spine.brake = some (brkFrame .release) := by
  unfold rearm
  dsimp only
  rw [changeState_offerBrake_busy (by exact other) (by exact busy)]
  rfl

theorem rearm_noted (held : s.stop.state = .held) : Noted [(0, [0x02#8, 0x00#8, 0x17#8])] s (rearm s) := by
  have changed := changeState_noted (s.withStop { s.stop with detector := Detector.initial }) .run .rearm
  have before : (s.withStop { s.stop with detector := Detector.initial }).stop.state = .held := held
  rw [before] at changed
  unfold rearm
  dsimp only
  refine (withStop_noted s _).trans (changed.trans ((offerBrake_noted _ .release).trans ?_))
  exact .of_same rfl (fun _ => rfl) fun _ => rfl

/-- Re-arm leaves RUN with the gate's motion entries at the reported positions (R112). -/
theorem rearm_leaves (held : s.stop.state = .held) :
    let t := rearm s
    t.stop.state = .run ∧ t.stop.driveEnable = true ∧ t.stop.trip = FlagSet.empty 21
      ∧ t.stop.present = s.stop.present ∧ t.stop.detector = ⟨.waitRelease, 0⟩
      ∧ (∀ k : Fin 10, t.gate.last[k] = if k.val ≤ 6 then some s.pose.entries[k].position else s.gate.last[k])
      ∧ Occurrences 0 [[0x02#8, 0x00#8, 0x17#8]] s t
      ∧ (s.inTest = false → s.spine.sendingD.isSome = true →
        t.spine.brake = some ⟨.brk, 63#8, [0x00#8, 0x7F#8, 0x00#8]⟩)
      ∧ t.pose = s.pose ∧ t.player = s.player ∧ t.recorder = s.recorder ∧ t.env = s.env ∧ t.link = s.link := by
  obtain ⟨state, enable, trip, detector, -⟩ := rearm_core s
  exact ⟨state, enable, trip, by simp, detector, rearm_last s, (rearm_noted held).occurrences rfl, rearm_brake,
    by simp⟩

end

/-- Settles O22: the step of the detector cell by cell, and the re-arm check by its first failed condition. -/
theorem gesturesRearm : Obligations.GesturesRearm := by
  have completes : ∀ s : State, completesGesture s.stop = true ↔ s.stop.state = .held ∧ _ := fun s => by
    rw [completesGesture, Bool.and_eq_true, beq_iff_eq, complete_step_iff]
  refine ⟨⟨fun s held complete => ?complete, fun s still => ?still, fun s => ?exceeds⟩, fun g n => ?cells⟩
  case complete =>
    have step : exec .gestureComplete s =
        .next (rearmCheck (s.withStop { s.stop with detector := Detector.initial })) :=
      congrArg Host.Outcome.next ((if_pos ((completes s).2 ⟨held, complete⟩)).trans
        (if_pos ((complete_step_iff _ _).2 complete)))
    have within : ∀ k : Fin 7, withinLimits s.pose ⟨k.val, by omega⟩ = true ↔
        s.pose.axes[k.val].softMin ≤ s.pose.entries[k.val].position
          ∧ s.pose.entries[k.val].position ≤ s.pose.axes[k.val].softMax := fun k => by simp [withinLimits]
    refine ⟨fun none present inside => ⟨_, step.trans (congrArg Host.Outcome.next (rearmCheck_rearms ?_)), ?_⟩,
      fun present => step.trans (congrArg Host.Outcome.next (rearmCheck_refuses ?_)), fun none =>
        ⟨fun k absent before => step.trans (congrArg Host.Outcome.next (rearmCheck_refuses ?_)),
          fun present k outside before => step.trans (congrArg Host.Outcome.next (rearmCheck_refuses ?_))⟩⟩
    · exact rearmRefusal_none (s := s.withStop { s.stop with detector := Detector.initial }) none present
        fun k => (within k).2 (inside k)
    · exact rearm_leaves (s := s.withStop { s.stop with detector := Detector.initial }) held
    · exact rearmRefusal_causes (s := s.withStop { s.stop with detector := Detector.initial }) present
    · exact rearmRefusal_absent (s := s.withStop { s.stop with detector := Detector.initial }) none absent before
    · exact rearmRefusal_outside (s := s.withStop { s.stop with detector := Detector.initial }) none present
        (by simpa using mt (within k).1 outside) fun j hj => (within j).2 (before j hj)
  case still =>
    refine congrArg Host.Outcome.next (if_neg fun complete => ?_)
    obtain ⟨held, complete⟩ := (completes s).1 complete
    obtain other | incomplete := still
    · exact other held
    · exact incomplete complete
  case exceeds =>
    have pulse : exceedsPulse s.stop = true ↔ s.stop.state = .held ∧ s.stop.detector.state = .pulse
        ∧ s.stop.gesture.pulseMax < s.stop.detector.count + 1 := by simp [exceedsPulse, and_assoc]
    have gap : exceedsGap s.stop = true ↔ s.stop.state = .held ∧ s.stop.detector.state = .gap
        ∧ s.stop.gesture.gapMax < s.stop.detector.count + 1 := by simp [exceedsGap, and_assoc]
    have returns : ∀ (b : Bool) (d : Detector), s.stop.detector.step s.stop.gesture b = d → d.state ≠ .confirm →
        gestureStep b s = s.withStop { s.stop with detector := d } := by
      rintro b d rfl other
      refine if_neg ?_
      simp [Detector.complete, other]
    refine ⟨fun held pulsing long => congrArg Host.Outcome.next ?_, fun still => congrArg Host.Outcome.next (if_neg ?_),
      fun held waiting long => congrArg Host.Outcome.next ?_, fun still => congrArg Host.Outcome.next (if_neg ?_)⟩
    · refine (if_pos (pulse.2 ⟨held, pulsing, long⟩)).trans (returns true _ ?_ (by decide))
      simp [Detector.step, pulsing, long]
    · rintro exceeds
      obtain ⟨held, pulsing, long⟩ := pulse.1 exceeds
      obtain other | other | short := still
      · exact other held
      · exact other pulsing
      · omega
    · refine (if_pos (gap.2 ⟨held, waiting, long⟩)).trans (returns false _ ?_ (by decide))
      simp [Detector.step, waiting, long]
    · rintro exceeds
      obtain ⟨held, waiting, long⟩ := gap.1 exceeds
      obtain other | other | short := still
      · exact other held
      · exact other waiting
      · omega
  case cells =>
    refine ⟨rfl, rfl, rfl, fun double => ?_, fun single => ?_, rfl, fun short => if_neg (by simpa using short),
      fun long => if_pos long, fun short => if_neg (by simpa using short), fun long => if_pos long, rfl, rfl, rfl⟩
    · simp [Detector.step, double]
    · simp [Detector.step, single]

end Sys2Proof.Machine
end

section
/-! PROOFS. The crew stop lines, the inputs and the lamps (R68, R96 to R99, R121, R188). -/

namespace Sys2Proof.Machine

/-! ## A hand-over at the present set -/

section
variable {s : State}

theorem handOver_mirrors (c : Cause) (b : Bool) (s : State) : Mirrors (handOver c b s) c b := by
  rw [Mirrors, handOver_present]
  simp

theorem causeEnters_mirrors (c : Cause) (s : State) : Mirrors (causeEnters c s) c true := handOver_mirrors c true s

theorem causeLeaves_mirrors (c : Cause) (s : State) : Mirrors (causeLeaves c s) c false := handOver_mirrors c false s

/-- A cause that leaves stands in the way of no other. -/
theorem causeLeaves_mirrors_other {c d : Cause} {b : Bool} (other : c.code ≠ d.code) (mirrors : Mirrors s d b) :
    Mirrors (causeLeaves c s) d b := by
  have apart : c.code.val ≠ d.code.val := fun h => other (Fin.ext h)
  rw [Mirrors, causeLeaves_present]
  refine Eq.trans ?_ mirrors
  simp [Vector.getElem_set_ne, apart]

/-! ## The crew stop lines (R96 to R99) -/

/-- A line after a change of one channel, up to its causes (R97, R99). -/
def LineRecord.after (r : LineRecord) (window : Timer) : LineRecord :=
  { r with window := window, latch := r.latch.enter r.state }

theorem lineChange_same {n : Fin 4} {contact : Contact} {level : Channel}
    (same : s.stop.lines[n].channel contact = level) : lineChange n contact level s = s :=
  if_pos same

/-- A record of the two channels of a line after one of them takes a level. -/
theorem LineRecord.setChannel_eq (r : LineRecord) (contact : Contact) (level : Channel) :
    r.setChannel contact level =
      { r with a := if contact = .a then level else r.a, b := if contact = .b then level else r.b } := by
  cases contact <;> rfl

theorem LineRecord.setChannel_latch (r : LineRecord) (contact : Contact) (level : Channel) :
    (r.setChannel contact level).latch = r.latch := by
  cases contact <;> rfl

theorem LineRecord.channel_eq_iff (r : LineRecord) (contact : Contact) (level : Channel) :
    r.channel contact = level ↔
      (if contact = .a then level else r.a) = r.a ∧ (if contact = .b then level else r.b) = r.b := by
  cases contact <;> simp [LineRecord.channel, eq_comm]

section
variable (r : LineRecord)

theorem LineRecord.clear_iff : r.state = .clear ↔ r.a = .closed ∧ r.b = .closed := by
  unfold LineRecord.state
  cases r.a <;> cases r.b <;> decide

theorem LineRecord.notClear_eq : (r.state != .clear) = !decide (r.a = .closed ∧ r.b = .closed) := by
  rw [bne, Bool.not_inj_iff, beq_eq_decide]
  exact decide_eq_decide.2 r.clear_iff

theorem LineRecord.windowTimer_eq (s : State) :
    s.windowTimer r.state = if r.a = r.b then .stopped else .running s.timebase s.stop.config.discrepancy := by
  unfold LineRecord.state State.windowTimer State.startTimer
  cases r.a <;> cases r.b <;> rfl

theorem LineRecord.latch_eq :
    r.latch.enter r.state =
      if r.a = .opened ∧ r.b = .opened ∧ r.latch = .awaitStop then .awaitClear
      else if r.a = .closed ∧ r.b = .closed ∧ r.latch = .awaitClear then .absent
      else r.latch := by
  unfold LineRecord.state
  cases r.a <;> cases r.b <;> cases r.latch <;> decide

end

theorem crewStop_ne_lineFault (n : Fin 4) : (Cause.lineFault n).code ≠ (Cause.crewStop n).code := by
  revert n
  decide

theorem lineChange_eq {n : Fin 4} {contact : Contact} {level : Channel} {r : LineRecord}
    (set : s.stop.lines[n].setChannel contact level = r) (changes : (s.stop.lines[n].channel contact) ≠ level) :
    lineChange n contact level s =
      let t := handOver (.crewStop n) (r.state != .clear)
        (s.withStop { s.stop with lines := s.stop.lines.set n.val (r.after (s.windowTimer r.state)) })
      if r.latch.enter r.state = .absent then causeLeaves (.lineFault n) t else t := by
  subst set
  unfold lineChange
  dsimp only
  rw [if_neg changes]
  simp only [LineRecord.after, LineRecord.setChannel_latch]

/-- What a change of one channel of a line leaves (R97, R99). -/
theorem lineChange_leaves {n : Fin 4} {contact : Contact} {level : Channel} {r : LineRecord}
    (set : s.stop.lines[n].setChannel contact level = r) (changes : (s.stop.lines[n].channel contact) ≠ level) :
    let t := lineChange n contact level s
    t.stop.lines =
        s.stop.lines.set n.val
          { a := r.a, b := r.b
            window := if r.a = r.b then .stopped else .running s.timebase s.stop.config.discrepancy
            latch :=
              if r.a = .opened ∧ r.b = .opened ∧ r.latch = .awaitStop then .awaitClear
              else if r.a = .closed ∧ r.b = .closed ∧ r.latch = .awaitClear then .absent
              else r.latch }
      ∧ Mirrors t (.crewStop n) (!decide (r.a = .closed ∧ r.b = .closed))
      ∧ (r.a = .closed → r.b = .closed → r.latch = .awaitClear → Mirrors t (.lineFault n) false)
      ∧ t.pose = s.pose ∧ t.env = s.env ∧ t.lens = s.lens ∧ t.cycle = s.cycle ∧ t.link = s.link
      ∧ t.cues = s.cues ∧ t.pins = s.pins := by
  have mirrors := handOver_mirrors (.crewStop n) (r.state != .clear)
    (s.withStop { s.stop with lines := s.stop.lines.set n.val (r.after (s.windowTimer r.state)) })
  rw [lineChange_eq set changes, ← LineRecord.notClear_eq, ← LineRecord.latch_eq, ← LineRecord.windowTimer_eq]
  split
  next absent =>
    exact ⟨by simp [LineRecord.after], causeLeaves_mirrors_other (crewStop_ne_lineFault n) mirrors, fun _ _ _ =>
      causeLeaves_mirrors _ _, by simp⟩
  next latched =>
    refine ⟨by simp [LineRecord.after], mirrors, fun closed closed' waits => absurd ?_ latched, by simp⟩
    rw [LineRecord.latch_eq, closed, closed', waits]
    decide

theorem lineFault_isCut (n : Fin 4) : (Cause.lineFault n).isCut = true := by
  revert n
  decide

/-- The fault of a line leaves LINE_FAULTn and notice 4 (R98). -/
theorem lineFault_leaves (n : Fin 4) (s : State) :
    let t := lineFault n s
    t.stop.lines = s.stop.lines.set n.val { s.stop.lines[n] with window := .stopped, latch := .awaitStop }
      ∧ Mirrors t (.lineFault n) true
      ∧ (Mirrors s (.lineFault n) false → t.stop.state = .cut)
      ∧ Occurrences 4 [[u8 n.val, channelCode s.stop.lines[n].a, channelCode s.stop.lines[n].b]] s t
      ∧ t.pose = s.pose ∧ t.env = s.env ∧ t.lens = s.lens ∧ t.cycle = s.cycle ∧ t.link = s.link := by
  intro t
  let latched := s.withStop
    { s.stop with lines := s.stop.lines.set n.val { s.stop.lines[n] with window := .stopped, latch := .awaitStop } }
  have raised := raise_noted (causeEnters (.lineFault n) latched) 4
    [u8 n.val, channelCode s.stop.lines[n].a, channelCode s.stop.lines[n].b]
  have before : NotesAmong stopSources s (causeEnters (.lineFault n) latched) :=
    (NotesAmong.of_noted (withStop_noted s _) nofun).trans (causeEnters_among _ _)
  refine ⟨by simp [t, lineFault], ?_, fun absent => ?_, ?_, by simp [t, lineFault]⟩
  · have mirrors := causeEnters_mirrors (.lineFault n) latched
    rw [Mirrors] at mirrors ⊢
    rw [← mirrors]
    simp [t, lineFault, latched]
  · obtain ⟨cut, -⟩ := causeEnters_cut (s := latched) absent (lineFault_isCut n)
    have awake : (causeEnters (.lineFault n) latched).stop.state ≠ .parked := by rw [cut]; decide
    have stop : t.stop = (causeEnters (.lineFault n) latched).stop := raise_stop awake _ _
    rw [stop, cut]
  · exact raised.after before (by decide) (detailsOf_raiseLog (by decide) (by decide) _ _)

end

/-- Settles O23: a change of one channel by the line record it leaves, and the window's expiry by the fault. -/
theorem crewStopLinesAct : Obligations.CrewStopLinesAct := by
  refine ⟨fun s n contact level => ?change, fun s n =>
    ⟨fun due => ⟨_, congrArg Host.Outcome.next (if_pos ((isDue_iff _ _).1 due)), ?_⟩,
      fun still => congrArg Host.Outcome.next (if_neg (mt (isDue_iff _ _).2 still))⟩⟩
  case change =>
    refine ⟨fun same => congrArg Host.Outcome.next (lineChange_same ((LineRecord.channel_eq_iff _ _ _).2 same)),
      fun changes => ⟨_, rfl, ?_⟩⟩
    exact lineChange_leaves (LineRecord.setChannel_eq _ _ _) (mt (LineRecord.channel_eq_iff _ _ _).1 changes)
  case _ =>
    have codes : ∀ level : Channel, (if level = .closed then 0x01#8 else 0x00#8) = channelCode level := by
      intro level
      cases level <;> decide
    simp only [codes]
    exact lineFault_leaves n s

/-! ## The inputs and the lamps (R68, R121, R188) -/

/-- The times of a flashing pattern, as the statement lists them. -/
theorem flash_eq {p : Pattern} {on off : Nat}
    (mem : (p, on, off) ∈ ([(.b025, 500, 3500), (.b05, 500, 1500), (.b1, 500, 500), (.b2, 250, 250), (.b4, 125, 125)] :
      List (Pattern × Nat × Nat))) :
    p.flash = some (on, off) := by
  simp only [List.mem_cons, List.not_mem_nil, or_false, Prod.mk.injEq] at mem
  obtain ⟨rfl, rfl, rfl⟩ | ⟨rfl, rfl, rfl⟩ | ⟨rfl, rfl, rfl⟩ | ⟨rfl, rfl, rfl⟩ | ⟨rfl, rfl, rfl⟩ := mem <;> rfl

/-- The end of a part of a flashing lamp's period. -/
theorem Lamp.turn_flashing {l : Lamp} {on off start duration : Nat} (flash : l.pattern.flash = some (on, off))
    (phase : l.phase = .running start duration) (now : Nat) :
    l.turn now =
      if start + duration ≤ now then ⟨l.pattern, !l.lit, .running (start + duration) (if l.lit then off else on)⟩
      else l := by
  rw [Lamp.turn, flash, phase]

theorem Lamp.turn_steady {l : Lamp} (steady : l.pattern = .on ∨ l.pattern = .off ∨ l.phase.isRunning = false)
    (now : Nat) : l.turn now = l := by
  obtain same | ⟨on, off, start, duration, flash, phase, -⟩ := l.turn_cases now
  · exact same
  · obtain on | off | stopped := steady
    · simp [on, Pattern.flash] at flash
    · simp [off, Pattern.flash] at flash
    · simp [phase, Timer.isRunning] at stopped

/-- A lamp of the stop record. -/
def Stop.lamp (st : Stop) : LampName → Lamp
  | .amber => st.amber
  | .red => st.red

/-- The stop record with another lamp. -/
def Stop.setLamp (st : Stop) (x : Lamp) : LampName → Stop
  | .amber => { st with amber := x }
  | .red => { st with red := x }

theorem exec_lampPatternPeriod (name : LampName) (s : State) :
    exec (.lampPatternPeriod name) s =
      .next (s.withStop (s.stop.setLamp ((s.stop.lamp name).turn s.timebase) name)) := by
  cases name <;> rfl

/-- A lamp that turns into itself leaves the state. -/
theorem exec_lampPatternPeriod_stands {name : LampName} {s : State}
    (stands : (s.stop.lamp name).turn s.timebase = s.stop.lamp name) : exec (.lampPatternPeriod name) s = .next s := by
  rw [exec_lampPatternPeriod, stands]
  cases name <;> rfl

/-- Settles O25: the inputs take their levels, and a lamp turns by the times of its pattern. -/
theorem inputsAndLampsChange : Obligations.InputsAndLampsChange := by
  refine ⟨fun s => ⟨fun i asserted => rfl, fun asserted => rfl, fun name => ⟨fun p on off start duration mem pattern
    phase => ?flashes, fun steady =>
      exec_lampPatternPeriod_stands (Lamp.turn_steady (l := s.stop.lamp name) steady _)⟩⟩,
    fun now l p => ⟨fun same => if_pos same, fun other => ⟨fun on off mem => (if_neg other).trans ?begins, ?_, ?_⟩⟩⟩
  case flashes =>
    have pattern' : (s.stop.lamp name).pattern = p := pattern
    have turns := Lamp.turn_flashing (l := s.stop.lamp name) (by rw [pattern']; exact flash_eq mem) phase s.timebase
    refine ⟨fun due => (exec_lampPatternPeriod name s).trans ?_, fun early =>
      exec_lampPatternPeriod_stands (turns.trans (if_neg (by omega)))⟩
    rw [turns, if_pos due, pattern']
    cases name <;> rfl
  case begins => rw [Lamp.begin, flash_eq mem]
  · rintro rfl
    exact if_neg other
  · rintro rfl
    exact if_neg other

end Sys2Proof.Machine
end

section
/-! PROOFS. STOP and CLEAR_STOP, and the commands that leave MGMT_CUT and ZONE as they stand (R103, R107). -/

namespace Sys2Proof.Machine

/-! ## The causes that no record gives -/

/-- Every cause but one. -/
def otherCauses (c : Cause) : List Cause := ((List.finRange 21).map causeOf).filter fun d => decide (d ≠ c)

theorem mem_otherCauses (c d : Cause) : d ∈ otherCauses c ↔ d ≠ c := by
  have known : d ∈ (List.finRange 21).map causeOf :=
    List.mem_map.2 ⟨d.code, List.mem_finRange _, causeOf_code d⟩
  simp [otherCauses, known]

/-- A condition given of one cause alone. -/
def givenOf (c : Cause) (b : Bool) (d : Cause) : Option Bool := if d = c then some b else none

section
variable {s t : State} {c : Cause}

/-- A cause with no record behind it is present as given. -/
theorem agreesBut_givenOf (unrecorded : c = .mgmtCut ∨ c = .zone) (b : Bool) (s : State) :
    AgreesBut (givenOf c b) (otherCauses c) s ↔ s.stop.present[c.code] = b := by
  have own : s.condition (givenOf c b) c = some b := by
    obtain rfl | rfl := unrecorded <;> rfl
  refine ⟨fun h => h.mirrors c (fun mem => (mem_otherCauses c c).1 mem rfl) b own, fun present => ⟨?_, ?_⟩⟩
  · intro d out b' given
    have same : d = c := by simpa [mem_otherCauses] using out
    subst same
    exact present.trans (Option.some.inj (own.symm.trans given))
  · intro out free
    have same : Cause.zone = c := by simpa [mem_otherCauses] using out
    subst same
    exact nomatch free

/-- No command but STOP, CLEAR_STOP and the resets changes whether MGMT_CUT is present (R103). -/
theorem exec_mgmtCut {i : Instr} (next : exec i s = .next t) (stop : i ≠ .stop) (clear : i ≠ .clearStop)
    (cold : i ≠ .coldReset) (warm : i ≠ .warmReset) :
    t.stop.present[Cause.mgmtCut.code] = s.stop.present[Cause.mgmtCut.code] := by
  have before := (agreesBut_givenOf (.inl rfl) s.stop.present[Cause.mgmtCut.code] s).2 rfl
  refine (agreesBut_givenOf (.inl rfl) _ t).1 (agreesBut_exec_others before next cold warm (fun request => ?_) fun _ => rfl)
  obtain request | request := request
  · exact absurd request stop
  · exact absurd request clear

/-- No command but those that carry a frame on D and the resets changes whether ZONE is present (R71). -/
theorem exec_zone {i : Instr} (next : exec i s = .next t) (fbk : ∀ order bytes, i ≠ .fbkReceived order bytes)
    (rpy : ∀ bytes, i ≠ .rpyReceived bytes) (bad : ∀ bytes cut, i ≠ .badFrame .d bytes cut)
    (cold : i ≠ .coldReset) (warm : i ≠ .warmReset) :
    t.stop.present[Cause.zone.code] = s.stop.present[Cause.zone.code] := by
  have before := (agreesBut_givenOf (.inr rfl) s.stop.present[Cause.zone.code] s).2 rfl
  refine (agreesBut_givenOf (.inr rfl) _ t).1 (agreesBut_exec_others before next cold warm (fun _ => rfl) fun onD => ?_)
  obtain ⟨order, bytes, eq⟩ | ⟨bytes, eq⟩ | ⟨bytes, cut, eq⟩ := onD
  · exact absurd eq (fbk _ _)
  · exact absurd eq (rpy _)
  · exact absurd eq (bad _ _)

/-! ## STOP and CLEAR_STOP (R103, R107) -/

theorem withoutPresent_absent (absent : s.stop.present[c.code] = false) : s.withoutPresent c = s := by
  have same : FlagSet.erase s.stop.present c.code = s.stop.present := by
    refine Vector.ext fun i hi => ?_
    unfold FlagSet.erase
    rw [Vector.getElem_set]
    split
    next here => simpa [← here] using absent.symm
    next => rfl
  rw [State.withoutPresent, same]
  rfl

theorem judgeCut_idem (s : State) : judgeCut (judgeCut s) = judgeCut s := by
  by_cases clears : s.stop.state = .cut ∧ s.stop.cutPresent = false
  · obtain ⟨cut, none⟩ := clears
    rw [judgeCut_leaves cut none, judgeCut_stands]
    rintro ⟨held, -⟩
    rw [(enterHeld_core _ _).1] at held
    exact absurd held (by decide)
  · rw [judgeCut_stands clears, judgeCut_stands clears]

/-- A cause that is taken out of the present set, and CUT judged. -/
theorem judgeCut_causeLeaves (c : Cause) (s : State) : judgeCut (causeLeaves c s) = judgeCut (s.withoutPresent c) := by
  by_cases present : s.stop.present[c.code] = true
  · rw [causeLeaves_present_eq present, judgeCut_idem]
  · have absent : s.stop.present[c.code] = false := by simpa using present
    rw [causeLeaves_absent absent, withoutPresent_absent absent]

theorem readStopMode_unknown {b : Byte} (high : 2 ≤ b.toNat) : readStopMode [b] = none := by
  have out : ([StopMode.ramp, .cut] : List StopMode)[b.toNat]? = none := List.getElem?_eq_none high
  rw [readStopMode, readName, out]
  rfl

end

/-- Settles O19: the two modes of STOP by their causes, CLEAR_STOP by the judgement of CUT, and MGMT_CUT as a cause whose
presence no other command changes. -/
theorem stopRequestsAct : Obligations.StopRequestsAct := by
  refine ⟨fun s s' tag => ⟨fun h => ?cut, fun h => ?ramp, fun b high h => ?unknown, fun h => ?clear⟩,
    fun i s t next stop clear cold warm => exec_mgmtCut next stop clear cold warm⟩
  case cut =>
    have reply := h.replies_body (row := .stop) rfl (a := StopMode.cut) rfl rfl
    have again := @causeEnters_again s' .mgmtCut
    obtain ⟨rest, -, rfl⟩ := h.head
    exact ⟨fun present => reply (congrArg accept (again present)), fun absent => reply rfl⟩
  case ramp =>
    have reply := h.replies_body (row := .stop) rfl (a := StopMode.ramp) rfl rfl
    have run := @rampEvent_run s' .mgmtRamp
    obtain ⟨rest, -, rfl⟩ := h.head
    refine ⟨reply rfl, fun inRun => ?_, fun notRun awake => ?_⟩
    · obtain ⟨state, -, trip, -⟩ := run inRun
      exact ⟨state, (trip _).trans (by simp)⟩
    · have joins : rampEvent .mgmtRamp (s.withMgmt { s.mgmt with requests := rest }) =
          joinTrip 20 (s.withMgmt { s.mgmt with requests := rest }) := if_neg notRun
      have stop := joinTrip_core (s := s.withMgmt { s.mgmt with requests := rest }) awake 20
      rw [joins]
      exact ⟨stop, by simp⟩
  case unknown =>
    exact h.replies (row := .stop) rfl rfl (by simp only [withBody, readStopMode_unknown high]; rfl)
  case clear =>
    have reply := h.replies_operation (row := .clearStop) rfl rfl
    have clears := judgeCut_causeLeaves .mgmtCut s'
    obtain ⟨rest, -, rfl⟩ := h.head
    dsimp only
    split
    next leaves =>
      obtain ⟨cut, none⟩ := leaves
      exact reply (congrArg accept (clears.trans (judgeCut_leaves cut (cutPresent_eq_false.2 none))))
    next stands =>
      exact reply (congrArg accept (clears.trans (judgeCut_stands fun ⟨cut, left⟩ =>
        stands ⟨cut, cutPresent_eq_false.1 left⟩)))

end Sys2Proof.Machine
end

section
/-! PROOFS. An evaluation: zone states, the zone factor, ZONE and notice 2 (R67 to R75). -/

namespace Sys2Proof.Machine

/-! ## Boxes (R67, R69) -/

theorem Box.meets_coordinates {a b : Box} :
    a.meets b = true ↔
      ((a.lo.x ≤ b.hi.x ∧ b.lo.x ≤ a.hi.x) ∧ a.lo.y ≤ b.hi.y ∧ b.lo.y ≤ a.hi.y) ∧ a.lo.z ≤ b.hi.z ∧ b.lo.z ≤ a.hi.z := by
  simp only [Box.meets, Bool.and_eq_true, decide_eq_true_eq]

/-- Two boxes that hold points meet exactly where they hold a point in common. -/
theorem Box.meets_iff {a b : Box} (some : ∃ o, a.holds o) (some' : ∃ o, b.holds o) :
    a.meets b = true ↔ ∃ o : Point, a.holds o ∧ b.holds o := by
  obtain ⟨o, first⟩ := some
  obtain ⟨o', second⟩ := some'
  simp only [Box.holds] at first second
  simp only [Box.meets_coordinates, Box.holds]
  constructor
  · rintro ⟨⟨⟨x, x'⟩, y, y'⟩, z, z'⟩
    refine ⟨⟨max a.lo.x b.lo.x, max a.lo.y b.lo.y, max a.lo.z b.lo.z⟩, ?_, ?_⟩ <;> dsimp only <;> omega
  · rintro ⟨p, ⟨_, _, _, _, _, _⟩, _, _, _, _, _, _⟩
    omega

theorem sweptBox_some (p q : Point) (radius : Nat) : ∃ o, (sweptBox p q radius).holds o :=
  ⟨p, sweptBox_holds ⟨p, .inl rfl, by omega, by omega, by omega⟩⟩

theorem Box.expand_some {b : Box} (some : ∃ o, b.holds o) (r : Nat) : ∃ o, (b.expand r).holds o := by
  obtain ⟨o, holds⟩ := some
  refine ⟨o, ?_⟩
  simp only [Box.holds, Box.expand, Point.shift] at holds ⊢
  omega

/-! ## The judgement of a zone (R68, R69) -/

section
variable {z : Zone} {sample : FlagSet 8} {b : Box}

theorem Zone.active_iff :
    (z.enabled = true ∧ z.active sample = true) ↔
      (z.enabled = true ∧ (z.kind = .crew → ∃ i : Fin 8, z.presence = some i ∧ sample[i] = true)) := by
  refine and_congr_right fun _ => ?_
  unfold Zone.active
  cases z.kind with
  | obstacle => simp
  | soft => simp
  | crew => cases z.presence <;> simp

theorem Zone.judge_intrude (active : z.enabled = true ∧ z.active sample = true) (meets : b.meets z.box = true) :
    z.judge sample b = .intrude := by
  obtain ⟨enabled, active⟩ := active
  exact (if_neg (by simp [enabled, active])).trans (if_pos meets)

theorem Zone.judge_approach (active : z.enabled = true ∧ z.active sample = true) (apart : b.meets z.box = false)
    (near : (b.expand z.band).meets z.box = true) : z.judge sample b = .approach := by
  obtain ⟨enabled, active⟩ := active
  exact (if_neg (by simp [enabled, active])).trans ((if_neg (by simp [apart])).trans (if_pos near))

/-- A zone out of the approach box is out of the swept box. -/
theorem Box.meets_expand {a : Box} (r : Nat) (meets : b.meets a = true) : (b.expand r).meets a = true := by
  rw [Box.meets_coordinates] at meets ⊢
  simp only [Box.expand, Point.shift]
  omega

theorem Zone.judge_clear
    (clear : ¬(z.enabled = true ∧ z.active sample = true) ∨ (b.expand z.band).meets z.box = false) :
    z.judge sample b = .clear := by
  unfold Zone.judge
  by_cases active : z.enabled = true ∧ z.active sample = true
  · have far : (b.expand z.band).meets z.box = false := clear.resolve_left (not_not.2 active)
    have apart : ¬b.meets z.box = true := fun meets => Bool.false_ne_true (far.symm.trans (Box.meets_expand _ meets))
    rw [if_neg (by simpa using active), if_neg apart, if_neg (by simp [far])]
  · refine if_pos ?_
    by_cases enabled : z.enabled = true
    · simpa [enabled] using active
    · simp [enabled]

/-- The state of a zone by the boxes that meet (R69). -/
theorem Zone.judge_holds (swept : ∃ o, b.holds o) (nonempty : ∃ o, z.box.holds o) :
    let active : Prop := z.enabled = true ∧ (z.kind = .crew → ∃ i : Fin 8, z.presence = some i ∧ sample[i] = true)
    (active → (∃ o, b.holds o ∧ z.box.holds o) → z.judge sample b = .intrude)
      ∧ (active → ¬(∃ o, b.holds o ∧ z.box.holds o) → (∃ o, (b.expand z.band).holds o ∧ z.box.holds o) →
        z.judge sample b = .approach)
      ∧ (¬active ∨ ¬(∃ o, (b.expand z.band).holds o ∧ z.box.holds o) → z.judge sample b = .clear) := by
  have meets := Box.meets_iff swept nonempty
  have near := Box.meets_iff (Box.expand_some swept z.band) nonempty
  dsimp only
  rw [← Zone.active_iff, ← meets, ← near]
  refine ⟨Zone.judge_intrude, fun active apart close => Zone.judge_approach active (by simpa using apart) close,
    fun clear => Zone.judge_clear ?_⟩
  exact clear.imp_right fun far => by simpa using far

end

/-! ## The zone factor (R70) -/

/-- The least approach factor among zones of a list that are not CLEAR, below a bound. -/
theorem foldl_zoneFactor (zones : Vector Zone 24) (states : Vector ZoneState 24) (zs : List (Fin 24)) :
    ∀ m : Nat,
      let f := zs.foldl (fun m z => if states[z] = .clear then m else min m zones[z].factor) m
      f ≤ m ∧ (∀ z ∈ zs, states[z] ≠ .clear → f ≤ zones[z].factor)
        ∧ (f = m ∨ ∃ z ∈ zs, states[z] ≠ .clear ∧ f = zones[z].factor) := by
  induction zs with
  | nil => exact fun m => ⟨le_refl m, by simp, .inl rfl⟩
  | cons z rest ih =>
    intro m
    obtain ⟨bound, least, attained⟩ := ih (if states[z] = .clear then m else min m zones[z].factor)
    rw [List.foldl_cons]
    generalize rest.foldl _ _ = f at bound least attained ⊢
    by_cases clear : states[z] = .clear
    · rw [if_pos clear] at bound attained
      refine ⟨bound, fun w mem notClear => ?_, attained.imp_right fun ⟨w, mem, rest⟩ => ⟨w, .tail _ mem, rest⟩⟩
      obtain rfl | later := List.mem_cons.1 mem
      · exact absurd clear notClear
      · exact least w later notClear
    · rw [if_neg clear] at bound attained
      refine ⟨by omega, fun w mem notClear => ?_, ?_⟩
      · obtain rfl | later := List.mem_cons.1 mem
        · omega
        · exact least w later notClear
      · obtain same | ⟨w, mem, notClear, same⟩ := attained
        · by_cases low : m ≤ zones[z].factor
          · exact .inl (by omega)
          · exact .inr ⟨z, .head _, clear, by omega⟩
        · exact .inr ⟨w, .tail _ mem, notClear, same⟩

theorem zoneFactor_least (zones : Vector Zone 24) (states : Vector ZoneState 24) :
    zoneFactor zones states ≤ 16 ∧ (∀ z : Fin 24, states[z] ≠ .clear → zoneFactor zones states ≤ zones[z].factor)
      ∧ (zoneFactor zones states = 16 ∨ ∃ z : Fin 24, states[z] ≠ .clear ∧ zoneFactor zones states = zones[z].factor) := by
  obtain ⟨bound, least, attained⟩ := foldl_zoneFactor zones states (List.finRange 24) 16
  refine ⟨bound, fun z => least z (List.mem_finRange z), attained.imp_right ?_⟩
  rintro ⟨z, -, notClear, same⟩
  exact ⟨z, notClear, same⟩

/-! ## Notice 2 (R72) -/

/-- The detail of notice 2 of a zone. -/
def zoneDetail (zones : Vector Zone 24) (old new : Vector ZoneState 24) (cycle : CycleNo) (z : Fin 24) : List Byte :=
  [u8 z.val, zones[z].kind.code, old[z].code, new[z].code] ++ natBE 2 cycle.toNat

/-- The codes of kinds and states written out. -/
theorem zoneDetail_eq (zones : Vector Zone 24) (old new : Vector ZoneState 24) (cycle : CycleNo) (z : Fin 24) :
    zoneDetail zones old new cycle z =
      [u8 z.val, match zones[z].kind with | .obstacle => 0x00#8 | .crew => 0x01#8 | .soft => 0x02#8,
        match old[z] with | .clear => 0x00#8 | .approach => 0x01#8 | .intrude => 0x02#8,
        match new[z] with | .clear => 0x00#8 | .approach => 0x01#8 | .intrude => 0x02#8] ++ natBE 2 cycle.toNat := by
  have kinds : ∀ k : ZoneKind, k.code = match k with | .obstacle => 0x00#8 | .crew => 0x01#8 | .soft => 0x02#8 := by
    intro k
    cases k <;> rfl
  have states : ∀ x : ZoneState, x.code = match x with | .clear => 0x00#8 | .approach => 0x01#8 | .intrude => 0x02#8 := by
    intro x
    cases x <;> rfl
  rw [zoneDetail, kinds, states, states]

/-- The zones of a list whose state changed raise notice 2 in their order. -/
theorem foldl_zoneNotices (old new : Vector ZoneState 24) (cycle : CycleNo) (zs : List (Fin 24)) :
    ∀ s : State, ∃ log,
      Noted log s
          (zs.foldl (fun s z =>
            if old[z] = new[z] then s
            else raise 2 ([u8 z.val, s.env.zones[z].kind.code, old[z].code, new[z].code] ++ natBE 2 cycle.toNat) s) s)
        ∧ detailsOf 2 log =
          (zs.filter fun z => decide (old[z] ≠ new[z])).map (zoneDetail s.env.zones old new cycle) := by
  induction zs with
  | nil => exact fun s => ⟨[], .refl s, rfl⟩
  | cons z rest ih =>
    intro s
    rw [List.foldl_cons, List.filter_cons]
    by_cases same : old[z] = new[z]
    · rw [if_pos same, if_neg (by simpa using same)]
      exact ih s
    · rw [if_neg same, if_pos (by simpa using same), List.map_cons]
      obtain ⟨log, notes, details⟩ := ih (raise 2 (zoneDetail s.env.zones old new cycle z) s)
      refine ⟨_, (raise_noted s 2 (zoneDetail s.env.zones old new cycle z)).trans notes, ?_⟩
      have zones : (raise 2 (zoneDetail s.env.zones old new cycle z) s).env.zones = s.env.zones := by simp
      rw [detailsOf_append, detailsOf_raiseLog (by decide) (by decide), details, zones]
      rfl

theorem zoneNotices_occurrences (old new : Vector ZoneState 24) (cycle : CycleNo) (s : State) :
    ∃ log, Noted log s (zoneNotices old new cycle s)
      ∧ detailsOf 2 log =
        ((List.finRange 24).filter fun z => decide (old[z] ≠ new[z])).map (zoneDetail s.env.zones old new cycle) :=
  foldl_zoneNotices old new cycle (List.finRange 24) s

/-! ## The evaluation -/

section
variable (cycle : CycleNo) (motions : Vector Motion 4) (p : Point) (s : State)

/-- The records of the Envelope Unit after an evaluation, before ZONE is handed over. -/
def evaluated : State :=
  (s.withEnv { s.env with evaluation := evaluationOf s cycle motions p }).setScale
    { s.env.scale with zone := (evaluationOf s cycle motions p).factor }

theorem evaluate_env : (evaluate cycle motions p s).env = (evaluated cycle motions p s).env := by
  simp [evaluate, evaluated]

theorem evaluationOf_zones (z : Fin 24) :
    (evaluationOf s cycle motions p).zones[z] =
      s.env.zones[z].judge s.pins.presence
        (sweptBox p (headPoint s.pose fun k => projected s.pose.axes[k.val] motions[k]) s.pose.geometry.headRadius) := by
  simp [evaluationOf, projectedPoint]

/-- Another evaluation with its factor as the zone component. -/
theorem setScale_evaluation (e : Evaluation) :
    let t := (s.withEnv { s.env with evaluation := e }).setScale { s.env.scale with zone := e.factor }
    t.env.evaluation = e ∧ t.env.scale.zone = e.factor ∧ t.env.scale.trim = s.env.scale.trim
      ∧ t.env.scale.link = s.env.scale.link ∧ t.env.scale.effective = t.env.scale.minimum :=
  ⟨rfl, rfl, rfl, rfl, rfl⟩

theorem evaluate_scale :
    let t := evaluate cycle motions p s
    t.env.evaluation = evaluationOf s cycle motions p ∧ t.env.scale.zone = (evaluationOf s cycle motions p).factor
      ∧ t.env.scale.trim = s.env.scale.trim ∧ t.env.scale.link = s.env.scale.link ∧ ScaleAgrees t := by
  dsimp only [ScaleAgrees]
  rw [evaluate_env]
  exact setScale_evaluation s _

theorem evaluate_zone :
    (evaluate cycle motions p s).stop.present[Cause.zone.code] =
      zoneIntruded s.env.zones (evaluationOf s cycle motions p).zones := by
  simp [evaluate, handOver_present]

theorem zoneIntruded_iff {zones : Vector Zone 24} {states : Vector ZoneState 24} :
    zoneIntruded zones states = true ↔ ∃ z : Fin 24, states[z] = .intrude ∧ zones[z].kind ≠ .soft := by
  simp [zoneIntruded]

/-- The state at which the zones raise their notices. -/
def zoneHanded : State :=
  handOver .zone (zoneIntruded s.env.zones (evaluationOf s cycle motions p).zones) (evaluated cycle motions p s)

theorem zoneHanded_zones : (zoneHanded cycle motions p s).env.zones = s.env.zones := by
  simp [zoneHanded, evaluated]

theorem zoneHanded_among : NotesAmong stopSources s (zoneHanded cycle motions p s) := by
  have entered : NotesAmong stopSources s (evaluated cycle motions p s) := .of_same rfl (fun _ => rfl) fun _ => rfl
  exact entered.trans (handOver_among _ _ _)

theorem evaluate_eq :
    evaluate cycle motions p s =
      refreshLamps (zoneNotices s.env.evaluation.zones (evaluationOf s cycle motions p).zones cycle
        (zoneHanded cycle motions p s)) := rfl

theorem evaluate_notices :
    Occurrences 2
      (((List.finRange 24).filter fun z =>
          decide (s.env.evaluation.zones[z] ≠ (evaluationOf s cycle motions p).zones[z])).map
        (zoneDetail s.env.zones s.env.evaluation.zones (evaluationOf s cycle motions p).zones cycle))
      s (evaluate cycle motions p s) := by
  have before := zoneHanded_among cycle motions p s
  have zones := zoneHanded_zones cycle motions p s
  rw [evaluate_eq]
  generalize zoneHanded cycle motions p s = u at before zones ⊢
  obtain ⟨log, notes, details⟩ := zoneNotices_occurrences s.env.evaluation.zones
    (evaluationOf s cycle motions p).zones cycle u
  rw [zones] at details
  refine (notes.trans (refreshLamps_noted _)).after before (by decide) ?_
  rw [List.append_nil]
  exact details

end

/-- Settles O50: the evaluation record field by field, a zone's state by the boxes that meet, and ZONE as a cause whose
presence no other command changes. -/
theorem evaluationsAct : Obligations.EvaluationsAct := by
  refine ⟨fun cycle motions p s => ?_, fun i s t next fbk rpy bad cold warm => exec_zone next fbk rpy bad cold warm⟩
  obtain ⟨evaluation, zone, trim, link, scale⟩ := evaluate_scale cycle motions p s
  obtain ⟨bound, least, attained⟩ := zoneFactor_least s.env.zones (evaluationOf s cycle motions p).zones
  have factor : zoneFactor s.env.zones (evaluationOf s cycle motions p).zones = (evaluationOf s cycle motions p).factor := by
    simp only [evaluationOf]
  rw [factor] at bound least attained
  have zones := evaluate_notices cycle motions p s
  dsimp only
  rw [evaluation]
  refine ⟨rfl, rfl, rfl, rfl, rfl, rfl, rfl, fun z nonempty => ?judged, bound, least, attained, zone, trim,
    link, scale, ?zone, ?notices, by simp, by simp, by simp, by simp [evaluate],
    by simp [evaluate], by simp [evaluate]⟩
  case judged =>
    rw [evaluationOf_zones]
    exact Zone.judge_holds (sweptBox_some _ _ _) nonempty
  case zone =>
    rw [evaluate_zone]
    exact zoneIntruded_iff
  case notices =>
    generalize evaluationOf s cycle motions p = e at zones ⊢
    have detail : zoneDetail s.env.zones s.env.evaluation.zones e.zones cycle = _ :=
      funext fun z => zoneDetail_eq _ _ _ cycle z
    rw [detail] at zones
    exact zones

end Sys2Proof.Machine
end

section
/-! PROOFS. A CYC arrival at the five blocks: what each leaves, whatever their order (R6 to R8, R48, R101, R115 to R117). -/

namespace Sys2Proof.Machine

/-! ## Orders of the blocks (R8) -/

/-- An order that names every member once stands as it is. -/
theorem completeOrder_of_perm {α : Type} [DecidableEq α] :
    ∀ (l all : List α), l.Perm all → completeOrder all l = l := by
  intro l
  induction l with
  | nil => exact fun all perm => perm.nil_eq.symm
  | cons b rest ih =>
    intro all perm
    have mem : b ∈ all := perm.subset (.head _)
    have others : rest.Perm (all.erase b) := List.perm_cons_erase mem |>.symm.trans perm.symm |>.cons_inv |>.symm
    rw [completeOrder, if_pos mem, ih _ others]

/-! ## The cycle record stands at the gate and in the player -/

section
variable (s : State)

theorem bumpCounter_drops_cycle (p) : (bumpCounter p .queueDrops s).cycle = s.cycle := by
  unfold bumpCounter
  dsimp only
  split <;> simp [State.setCounter]

theorem offerQueueD_cycle (f) : (offerQueueD f s).cycle = s.cycle := by
  unfold offerQueueD
  repeat' split
  · rfl
  · simp
  · exact bumpCounter_drops_cycle s _

theorem submit_cycle (src k v c) : (submit src k v c s).cycle = s.cycle := by
  unfold submit gateAccepted composeSet ringObserve clampReport
  dsimp only
  repeat' split
  all_goals simp [gateWithhold, gateOverride, offerQueueD_cycle]

theorem submitSample_cycle (src i c) : (submitSample src i c s).cycle = s.cycle := by
  have all : ∀ (t : Fin 32) (ks : List Axis) (u : State),
      (ks.foldl (fun s' k => submit src k (s'.store.sampleValue t k i) c s') u).cycle = u.cycle := by
    intro t ks
    induction ks with
    | nil => exact fun _ => rfl
    | cons k rest ih => exact fun u => (ih _).trans (submit_cycle u src k _ c)
  unfold submitSample
  split
  · exact all _ _ s
  · rfl

theorem playSample_cycle (i c) : (playSample i c s).cycle = s.cycle := by
  unfold playSample
  split
  · dsimp only
    split
    · simp [submitSample_cycle]
    · exact submitSample_cycle s _ _ _
  · rfl

theorem playerArrival_cycle (c g) : (playerArrival c g s).cycle = s.cycle := by
  unfold playerArrival
  repeat' split
  all_goals simp [submitSample_cycle, playSample_cycle]

end

/-! ## What each block leaves -/

section
variable (a : Arrival) (s : State)

theorem cycTaken_cycle (b) : (cycTaken a s b).cycle = s.cycle := by
  cases b with
  | takePlayer => exact playerArrival_cycle s _ _
  | cueMatcher =>
    unfold cycTaken
    dsimp only
    split <;> simp
  | stopSupervisor | poseUnit | takeRecorder => simp [cycTaken]

theorem poseArrival_entries :
    (poseArrival s).pose.entries = Vector.ofFn fun k : Fin 10 => PoseEntry.aged s.pose.entries[k] := by
  simp [poseArrival]

theorem cycTaken_entries {b : CycBlock} (other : b ≠ .poseUnit) : (cycTaken a s b).pose.entries = s.pose.entries := by
  cases b with
  | poseUnit => exact absurd rfl other
  | cueMatcher =>
    unfold cycTaken
    dsimp only
    split <;> simp
  | stopSupervisor | takePlayer | takeRecorder => simp [cycTaken]

theorem PoseEntry.aged_eq (e : PoseEntry) :
    e.aged = { e with age := if e.present then min 15 (e.age + 1) else e.age } := by
  obtain ⟨present, position, velocity, status, echo, age⟩ := e
  unfold PoseEntry.aged satInc
  cases present
  · rfl
  · simp only [if_true, PoseEntry.mk.injEq, true_and]
    split <;> omega

/-- What a CYC arrival sets in the Stop Supervisor. -/
structure StopTook (a : Arrival) (s t : State) : Prop where
  grip : t.stop.gripHeld = a.fields.grip
  gripMirrors : Mirrors t .grip (!a.fields.grip)
  console : t.stop.consoleStop = a.fields.consoleStop
  consoleMirrors : Mirrors t .consoleStop a.fields.consoleStop
  fromU : a.fromU = true →
    t.stop.syncTimer = .running s.timebase s.stop.config.syncTimeout ∧ t.stop.substituteTimer = .stopped
      ∧ Mirrors t .syncLost false
  own : a.fromU = false →
    t.stop.syncTimer = s.stop.syncTimer ∧ t.stop.substituteTimer = s.stop.substituteTimer
      ∧ t.stop.present[Cause.syncLost.code] = s.stop.present[Cause.syncLost.code]

/-- What the other blocks leave of it. -/
structure StopStands (s t : State) : Prop where
  grip : t.stop.gripHeld = s.stop.gripHeld
  gripMirrors : t.stop.present[Cause.grip.code] = s.stop.present[Cause.grip.code]
  console : t.stop.consoleStop = s.stop.consoleStop
  consoleMirrors : t.stop.present[Cause.consoleStop.code] = s.stop.present[Cause.consoleStop.code]
  sync : t.stop.syncTimer = s.stop.syncTimer
  substitute : t.stop.substituteTimer = s.stop.substituteTimer
  syncMirrors : t.stop.present[Cause.syncLost.code] = s.stop.present[Cause.syncLost.code]
  timebase : t.timebase = s.timebase
  config : t.stop.config = s.stop.config

variable {a s} {t u : State}

theorem StopStands.refl (s : State) : StopStands s s := ⟨rfl, rfl, rfl, rfl, rfl, rfl, rfl, rfl, rfl⟩

theorem StopStands.trans (h : StopStands s t) (g : StopStands t u) : StopStands s u :=
  ⟨g.grip.trans h.grip, g.gripMirrors.trans h.gripMirrors, g.console.trans h.console,
    g.consoleMirrors.trans h.consoleMirrors, g.sync.trans h.sync, g.substitute.trans h.substitute,
    g.syncMirrors.trans h.syncMirrors, g.timebase.trans h.timebase, g.config.trans h.config⟩

theorem StopTook.before (h : StopStands s t) (g : StopTook a t u) : StopTook a s u where
  grip := g.grip
  gripMirrors := g.gripMirrors
  console := g.console
  consoleMirrors := g.consoleMirrors
  fromU origin := by
    rw [← h.timebase, ← h.config]
    exact g.fromU origin
  own origin := by
    rw [← h.sync, ← h.substitute, ← h.syncMirrors]
    exact g.own origin

theorem StopTook.after (h : StopTook a s t) (g : StopStands t u) : StopTook a s u where
  grip := g.grip.trans h.grip
  gripMirrors := g.gripMirrors.trans h.gripMirrors
  console := g.console.trans h.console
  consoleMirrors := g.consoleMirrors.trans h.consoleMirrors
  fromU origin := by
    obtain ⟨sync, substitute, mirrors⟩ := h.fromU origin
    exact ⟨g.sync.trans sync, g.substitute.trans substitute, g.syncMirrors.trans mirrors⟩
  own origin := by
    obtain ⟨sync, substitute, mirrors⟩ := h.own origin
    exact ⟨g.sync.trans sync, g.substitute.trans substitute, g.syncMirrors.trans mirrors⟩

theorem poseArrival_present {c : Cause} (other : c ≠ .feedbackLost) (s : State) :
    (poseArrival s).stop.present[c.code] = s.stop.present[c.code] := by
  have apart : Cause.feedbackLost.code.val ≠ c.code.val := fun same => other (Cause.code_inj same).symm
  have judged : ∀ (ks : List Axis) (u : State),
      (ks.foldl (fun u k => judgeFeedback k u) u).stop.present[c.code] = u.stop.present[c.code] := by
    intro ks
    induction ks with
    | nil => exact fun _ => rfl
    | cons k rest ih =>
      intro u
      refine (ih _).trans ?_
      dsimp only [judgeFeedback]
      split
      · simp
      · rw [handOver_present]
        simp [Vector.getElem_set_ne, apart]
  unfold poseArrival judgeAllFeedback
  rw [judged]
  rfl

/-- A block other than the Stop Supervisor. -/
theorem cycTaken_stopStands {b : CycBlock} (other : b ≠ .stopSupervisor) (a : Arrival) (s : State) :
    StopStands s (cycTaken a s b) := by
  cases b with
  | stopSupervisor => exact absurd rfl other
  | cueMatcher =>
    unfold cycTaken
    dsimp only
    split
    · constructor <;> simp
    · exact .refl s
  | poseUnit =>
    have present := fun {c : Cause} (other : c ≠ .feedbackLost) => poseArrival_present other s
    dsimp only [cycTaken]
    exact ⟨by simp, present (by decide), by simp, present (by decide), by simp, by simp, present (by decide), by simp,
      by simp⟩
  | takePlayer | takeRecorder => constructor <;> simp [cycTaken]

/-- The Stop Supervisor before its gesture detector. -/
theorem stopArrival_took (a : Arrival) (s : State) :
    StopTook a s (stopArrival a.fromU a.fields.grip a.fields.consoleStop a.step s) := by
  unfold stopArrival
  dsimp only
  generalize synced : (if a.fromU = true then syncRestart s else s) = s1
  have sync : (a.fromU = true →
        s1.stop.syncTimer = .running s.timebase s.stop.config.syncTimeout ∧ s1.stop.substituteTimer = .stopped
          ∧ Mirrors s1 .syncLost false)
      ∧ (a.fromU = false → s1.stop.syncTimer = s.stop.syncTimer ∧ s1.stop.substituteTimer = s.stop.substituteTimer
          ∧ s1.stop.present[Cause.syncLost.code] = s.stop.present[Cause.syncLost.code]) := by
    subst synced
    refine ⟨fun origin => ?_, fun origin => ?_⟩
    · rw [if_pos origin]
      exact ⟨by simp [syncRestart, State.startTimer], by simp [syncRestart], causeLeaves_mirrors _ _⟩
    · rw [if_neg (by simp [origin])]
      exact ⟨rfl, rfl, rfl⟩
  obtain ⟨fromU, own⟩ := sync
  generalize slipped : (if (s1.stop.state == .run && a.fromU && slips a.step) = true then rampEvent .slip s1 else s1) = s2
  have slip : s2.stop.syncTimer = s1.stop.syncTimer ∧ s2.stop.substituteTimer = s1.stop.substituteTimer
      ∧ s2.stop.present = s1.stop.present := by
    subst slipped
    split
    · simp
    · exact ⟨rfl, rfl, rfl⟩
  obtain ⟨slipSync, slipSubstitute, slipPresent⟩ := slip
  generalize entered : handOver .consoleStop a.fields.consoleStop (handOver .grip (!a.fields.grip)
    (s2.withStop { s2.stop with gripHeld := a.fields.grip, consoleStop := a.fields.consoleStop })) = s3
  have took : StopTook a s s3 := by
    have console := handOver_mirrors .consoleStop a.fields.consoleStop (handOver .grip (!a.fields.grip)
      (s2.withStop { s2.stop with gripHeld := a.fields.grip, consoleStop := a.fields.consoleStop }))
    have present : s3.stop.present[Cause.syncLost.code] = s1.stop.present[Cause.syncLost.code] := by
      rw [← slipPresent]
      subst entered
      simp [handOver_present, Cause.code]
    rw [entered] at console
    refine ⟨by subst entered; simp, ?_, by subst entered; simp, console, fun origin => ?_, fun origin => ?_⟩
    · subst entered
      simp [Mirrors, handOver_present, Cause.code]
    · obtain ⟨sync, substitute, mirrors⟩ := fromU origin
      refine ⟨?_, ?_, present.trans mirrors⟩
      · rw [← sync, ← slipSync]
        subst entered
        simp
      · rw [← substitute, ← slipSubstitute]
        subst entered
        simp
    · obtain ⟨sync, substitute, mirrors⟩ := own origin
      refine ⟨?_, ?_, present.trans mirrors⟩
      · rw [← sync, ← slipSync]
        subst entered
        simp
      · rw [← substitute, ← slipSubstitute]
        subst entered
        simp
  split
  · exact took.after (by constructor <;> simp)
  · exact took

/-! ## All the blocks, in any order -/

theorem foldl_cycTaken_stopStands (a : Arrival) (l : List CycBlock) (others : CycBlock.stopSupervisor ∉ l) :
    ∀ s : State, StopStands s (l.foldl (cycTaken a) s) := by
  induction l with
  | nil => exact .refl
  | cons b rest ih =>
    obtain ⟨other, others⟩ := List.ne_and_not_mem_of_not_mem_cons others
    exact fun s => (cycTaken_stopStands other.symm a s).trans (ih others _)

theorem foldl_cycTaken_entries (a : Arrival) (l : List CycBlock) (others : CycBlock.poseUnit ∉ l) :
    ∀ s : State, (l.foldl (cycTaken a) s).pose.entries = s.pose.entries := by
  induction l with
  | nil => exact fun _ => rfl
  | cons b rest ih =>
    obtain ⟨other, others⟩ := List.ne_and_not_mem_of_not_mem_cons others
    exact fun s => (ih others _).trans (cycTaken_entries a s other.symm)

theorem foldl_cycTaken_cycle (a : Arrival) (l : List CycBlock) :
    ∀ s : State, (l.foldl (cycTaken a) s).cycle = s.cycle := by
  induction l with
  | nil => exact fun _ => rfl
  | cons b rest ih => exact fun s => (ih _).trans (cycTaken_cycle a s b)

theorem cycTaken_cues {a : Arrival} (own : a.fromU = false) (s : State) (b) : (cycTaken a s b).cues = s.cues := by
  cases b with
  | cueMatcher => simp [cycTaken, own]
  | _ => simp [cycTaken]

theorem foldl_cycTaken_cues {a : Arrival} (own : a.fromU = false) (l : List CycBlock) :
    ∀ s : State, (l.foldl (cycTaken a) s).cues = s.cues := by
  induction l with
  | nil => exact fun _ => rfl
  | cons b rest ih => exact fun s => (ih _).trans (cycTaken_cues own s b)

section
variable {blocks : List CycBlock} (perm : blocks.Perm cycBlocks) (a : Arrival) (s : State)
include perm

theorem cycBlocks_nodup : blocks.Nodup := perm.nodup_iff.2 (by decide)

/-- One member of an order, between blocks that are others. -/
theorem cycBlocks_split (b : CycBlock) : ∃ before after, blocks = before ++ b :: after ∧ b ∉ before ∧ b ∉ after := by
  obtain ⟨before, after, split⟩ := List.append_of_mem (perm.mem_iff.2 (by cases b <;> decide : b ∈ cycBlocks))
  have once := cycBlocks_nodup perm
  rw [split, List.nodup_append, List.nodup_cons] at once
  obtain ⟨-, ⟨out, -⟩, apart⟩ := once
  exact ⟨before, after, split, fun mem => apart b mem b (.head _) rfl, out⟩

theorem dispatched_took : StopTook a s (blocks.foldl (cycTaken a) s) := by
  obtain ⟨before, after, split, first, last⟩ := cycBlocks_split perm .stopSupervisor
  rw [split, List.foldl_append, List.foldl_cons]
  exact ((stopArrival_took a _).before (foldl_cycTaken_stopStands a before first s)).after
    (foldl_cycTaken_stopStands a after last _)

theorem dispatched_entries (k : Fin 10) :
    (blocks.foldl (cycTaken a) s).pose.entries[k] =
      { s.pose.entries[k] with
        age := if s.pose.entries[k].present then min 15 (s.pose.entries[k].age + 1) else s.pose.entries[k].age } := by
  obtain ⟨before, after, split, first, last⟩ := cycBlocks_split perm .poseUnit
  have own : (cycTaken a (before.foldl (cycTaken a) s) .poseUnit).pose.entries =
      Vector.ofFn fun k : Fin 10 => PoseEntry.aged s.pose.entries[k] := by
    have before := foldl_cycTaken_entries a before first s
    dsimp only [cycTaken]
    rw [poseArrival_entries, before]
  rw [split, List.foldl_append, List.foldl_cons, foldl_cycTaken_entries a after last, own, ← PoseEntry.aged_eq]
  simp

end

end

end Sys2Proof.Machine
end

section
/-! PROOFS. The dispatch of a CYC, received or originated (R6 to R8, R115 to R117). -/

namespace Sys2Proof.Machine

/-! ## A good frame from an empty decoder (R1, R3) -/

theorem setReceiving_empty {sp : Spine} {p : Port} (empty : sp.receiving p = []) : sp.setReceiving p [] = sp := by
  cases p
  · exact congrArg (fun bs => { sp with receivingU := bs }) empty.symm
  · exact congrArg (fun bs => { sp with receivingD := bs }) empty.symm

theorem frameBytes_wire {cyc fbk} {p : Port} {f : Frame} {s : State} (empty : s.spine.receiving p = [])
    (decodes : p = .d → s.inTest = false) (arrives : f.kind.arrivesOn p = true)
    (agrees : f.kind.lengthAgrees f.payload.length = true) :
    frameBytes cyc fbk p f.wire false s = goodFrame cyc fbk p f s := by
  have silent : ¬ (p = .d ∧ s.inTest = true) := fun ⟨d, test⟩ => by simp [decodes d] at test
  unfold frameBytes
  rw [if_neg silent]
  dsimp only
  rw [empty, List.nil_append, receive_wire arrives agrees, setReceiving_empty empty]
  rfl

/-! ## The dispatch (R8) -/

section
variable (parked : Bool) (order : List CycBlock) (f : Frame) (a : Arrival) (s : State)

theorem dispatchCyc_eq :
    dispatchCyc parked order f a s =
      (completeOrder cycBlocks order).foldl (cycTaken a) (if parked then s else offerQueueD f s) := rfl

theorem cycOffer_stopStands : StopStands s (if parked then s else offerQueueD f s) := by
  split
  · exact .refl s
  · constructor <;> simp

theorem dispatchCyc_took : StopTook a s (dispatchCyc parked order f a s) := by
  rw [dispatchCyc_eq]
  exact (dispatched_took (completeOrder_perm order _) a _).before (cycOffer_stopStands parked f s)

theorem cycOffer_pose : (if parked then s else offerQueueD f s).pose = s.pose := by split <;> simp

theorem cycOffer_cues : (if parked then s else offerQueueD f s).cues = s.cues := by split <;> simp

theorem cycOffer_cycle : (if parked then s else offerQueueD f s).cycle = s.cycle := by
  split
  · rfl
  · exact offerQueueD_cycle s f

theorem dispatchCyc_entries (k : Fin 10) :
    (dispatchCyc parked order f a s).pose.entries[k] =
      { s.pose.entries[k] with
        age := if s.pose.entries[k].present then min 15 (s.pose.entries[k].age + 1) else s.pose.entries[k].age } := by
  rw [dispatchCyc_eq, dispatched_entries (completeOrder_perm order _), cycOffer_pose]

theorem dispatchCyc_cycle : (dispatchCyc parked order f a s).cycle = s.cycle := by
  rw [dispatchCyc_eq, foldl_cycTaken_cycle, cycOffer_cycle]

theorem dispatchCyc_cues (own : a.fromU = false) : (dispatchCyc parked order f a s).cues = s.cues := by
  rw [dispatchCyc_eq, foldl_cycTaken_cues own, cycOffer_cues]

theorem completeOrder_cycBlocks :
    (completeOrder cycBlocks order).Perm cycBlocks ∧ (order.Perm cycBlocks → completeOrder cycBlocks order = order) :=
  ⟨completeOrder_perm order _, completeOrder_of_perm order _⟩

end

/-! ## A good CYC received on U (R6) -/

theorem exec_cycReceived {s : State} {f : Frame} (empty : s.spine.receivingU = []) (cyc : f.kind = .cyc)
    (length : f.payload.length = 12) (now : Nat) (order : List CycBlock) :
    exec (.cycReceived now order f.wire) s =
      .next (cycArrives (s.stop.state == .parked) order f (linkGood .u (s.withTimebase (max s.timebase now)))) := by
  refine congrArg Host.Outcome.next ((frameBytes_wire (p := .u) (s := s.withTimebase (max s.timebase now)) empty (by simp) ?_ ?_).trans ?_)
  · rw [cyc]
    rfl
  · rw [cyc, length]
    rfl
  · unfold goodFrame
    rw [cyc]
    rfl

/-- What the dispatch of a received CYC begins with. -/
theorem cycArrives_eq (parked order f s) :
    ∃ u : State, cycArrives parked order f s = dispatchCyc parked order f
        ⟨true, cycFields f.payload, s.cycle.step (cycFields f.payload).cycle⟩ u
      ∧ StopStands s u := by
  refine ⟨_, rfl, ?_⟩
  split <;> constructor <;> simp

/-- The timers of substitution after a received CYC: the one runs from its arrival, the other is stopped. -/
theorem cycArrives_timers (parked order f s) :
    (cycArrives parked order f s).timebase = s.timebase
      ∧ (cycArrives parked order f s).stop.syncTimer = .running s.timebase s.stop.config.syncTimeout
      ∧ (cycArrives parked order f s).stop.substituteTimer = .stopped := by
  obtain ⟨u, arrived, stands⟩ := cycArrives_eq parked order f s
  obtain ⟨sync, substitute, -⟩ := (dispatchCyc_took parked order f ⟨true, _, _⟩ u).fromU rfl
  rw [arrived]
  refine ⟨?_, ?_, substitute⟩
  · simp [stands.timebase]
  · rw [sync, stands.timebase, stands.config]

/-! ## A substitute originated (R7) -/

/-- The number of a substitute CYC. -/
def CycleRecord.nextNumber (r : CycleRecord) : CycleNo := match r.last with | some c => c + 1 | none => 0

/-- The cycle record after a substitute CYC. -/
def CycleRecord.substituted (r : CycleRecord) : CycleRecord := { r with last := some r.nextNumber, arrival := none }

section
variable (s : State) (order : List CycBlock)

theorem originate_eq :
    originate order s =
      dispatchCyc (s.stop.state == .parked) order
        ⟨.cyc, 63#8, natBE 2 s.cycle.nextNumber.toNat ++ s.cycle.timecode.bytes ++ List.replicate 6 0x00#8⟩
        ⟨false, ⟨s.cycle.nextNumber, s.cycle.timecode, false, false, []⟩, s.cycle.last.map fun _ => 1⟩
        (s.withCycle s.cycle.substituted) := by
  have payload : cycPayload (substituteFields s.cycle) =
      natBE 2 s.cycle.nextNumber.toNat ++ s.cycle.timecode.bytes ++ List.replicate 6 0x00#8 := by
    unfold cycPayload
    rw [show (substituteFields s.cycle).cycle = s.cycle.nextNumber from rfl]
    simp [substituteFields]
  rw [← payload]
  rfl

/-- What a substitute CYC leaves. -/
structure Originated (s t : State) : Prop where
  cycle : t.cycle = s.cycle.substituted
  grip : t.stop.gripHeld = false
  gripMirrors : Mirrors t .grip true
  console : t.stop.consoleStop = false
  consoleMirrors : Mirrors t .consoleStop false
  entries : ∀ k : Fin 10, t.pose.entries[k] =
    { s.pose.entries[k] with
      age := if s.pose.entries[k].present then min 15 (s.pose.entries[k].age + 1) else s.pose.entries[k].age }
  env : t.env = s.env
  cues : t.cues = s.cues
  timebase : t.timebase = s.timebase
  pins : t.pins = s.pins
  sync : t.stop.syncTimer = s.stop.syncTimer
  syncMirrors : t.stop.present[Cause.syncLost.code] = s.stop.present[Cause.syncLost.code]

theorem originate_originated : Originated s (originate order s) := by
  rw [originate_eq]
  generalize frame : (⟨.cyc, 63#8, _⟩ : Frame) = f
  generalize arrives : (⟨false, ⟨s.cycle.nextNumber, s.cycle.timecode, false, false, []⟩, _⟩ : Arrival) = a
  obtain ⟨own, grip, console⟩ : a.fromU = false ∧ a.fields.grip = false ∧ a.fields.consoleStop = false := by
    subst arrives
    exact ⟨rfl, rfl, rfl⟩
  have took := dispatchCyc_took (s.stop.state == .parked) order f a (s.withCycle s.cycle.substituted)
  obtain ⟨sync, -, syncMirrors⟩ := took.own own
  have entries := dispatchCyc_entries (s.stop.state == .parked) order f a (s.withCycle s.cycle.substituted)
  have cues := dispatchCyc_cues (s.stop.state == .parked) order f a (s.withCycle s.cycle.substituted) own
  have gripMirrors := took.gripMirrors
  have consoleMirrors := took.consoleMirrors
  rw [grip] at gripMirrors
  rw [console] at consoleMirrors
  exact
    { cycle := dispatchCyc_cycle _ _ _ _ _
      grip := took.grip.trans grip
      gripMirrors := gripMirrors
      console := took.console.trans console
      consoleMirrors := consoleMirrors
      entries := entries
      env := by simp
      cues := cues
      timebase := by simp
      pins := by simp
      sync := sync
      syncMirrors := syncMirrors }

/-- The offer of a substitute and its taking by the blocks. -/
theorem originate_blocks :
    ∃ (blocks : List CycBlock) (s0 : State),
      blocks.Perm cycBlocks ∧ (order.Perm cycBlocks → blocks = order)
        ∧ (s.stop.state = .parked → s0 = s.withCycle s.cycle.substituted)
        ∧ (s.stop.state ≠ .parked →
          s0 = offerQueueD
            ⟨.cyc, 63#8, natBE 2 s.cycle.nextNumber.toNat ++ s.cycle.timecode.bytes ++ List.replicate 6 0x00#8⟩
            (s.withCycle s.cycle.substituted))
        ∧ originate order s =
          blocks.foldl (cycTaken
            ⟨false, ⟨s.cycle.nextNumber, s.cycle.timecode, false, false, []⟩, s.cycle.last.map fun _ => 1⟩) s0 := by
  obtain ⟨perm, stands⟩ := completeOrder_cycBlocks order
  rw [originate_eq, dispatchCyc_eq]
  refine ⟨_, _, perm, stands, fun parked => ?_, fun awake => ?_, rfl⟩
  · rw [parked]
    rfl
  · rw [beq_false_of_ne awake]
    rfl

end

/-! ## The obligation -/

theorem Timer.due_running_fresh {now duration : Nat} (long : 1 ≤ duration) : (Timer.running now duration).due now = false := by
  simp [Timer.due]
  omega

/-- Settles O24: an origination is the dispatch of the frame that the cycle record composes, and a received CYC leaves
neither timer due. -/
theorem substitutesAreOriginated : Obligations.SubstitutesAreOriginated := by
  intro s order number frame arrival taken originated
  have paced : ∀ u : State, u.cycle = s.cycle → u.timebase = s.timebase →
      pace (originate order u) = { originate order u with stop :=
        { (originate order u).stop with substituteTimer := .running s.timebase s.cycle.interval } } := by
    intro u cycle timebase
    unfold pace State.startTimer
    rw [(originate_originated u order).cycle, (originate_originated u order).timebase, cycle, timebase]
    rfl
  have takes : ∀ u : State, u.cycle = s.cycle → u.timebase = s.timebase → taken u (pace (originate order u)) := by
    intro u cycle timebase
    obtain ⟨blocks, s0, perm, stands, parked, awake, folded⟩ := originate_blocks u order
    rw [cycle] at parked awake folded
    rw [paced u cycle timebase]
    have numbered : u.withCycle s.cycle.substituted =
        { u with cycle := { u.cycle with last := some number, arrival := none } } := by
      rw [cycle]
      rfl
    rw [numbered] at parked awake
    exact ⟨blocks, s0, _, perm, stands, parked, awake, folded, rfl⟩
  have originates : ∀ u : State, u.cycle = s.cycle → u.timebase = s.timebase → u.pose = s.pose → u.env = s.env →
      u.cues = s.cues → u.pins = s.pins → originated (pace (originate order u)) := by
    intro u cycle timebase pose env cues pins
    have left := originate_originated u order
    rw [paced u cycle timebase]
    refine ⟨left.cycle.trans ?_, rfl, left.grip, left.gripMirrors, left.console, left.consoleMirrors, fun k => ?_,
      left.env.trans env, left.cues.trans cues, left.timebase.trans timebase, left.pins.trans pins⟩
    · rw [cycle]
      rfl
    · rw [← pose]
      exact left.entries k
  refine ⟨fun due => ?_, fun idle => ?_, fun due => ?_, fun idle => ?_, fun now blocks f empty cyc length timeout => ?_⟩
  · have left := originate_originated (causeEnters .syncLost (s.withStop { s.stop with syncTimer := .expired })) order
    refine ⟨_, congrArg Host.Outcome.next (if_pos ((Timer.due_iff _ _).2 due)),
      originates _ (by simp) (by simp) (by simp) (by simp) (by simp) (by simp), ?_, ?_, takes _ (by simp) (by simp)⟩
    · exact left.sync.trans (by simp)
    · exact left.syncMirrors.trans (causeEnters_mirrors _ _)
  · exact congrArg Host.Outcome.next (if_neg fun due => idle ((Timer.due_iff _ _).1 due))
  · have left := originate_originated s order
    exact ⟨_, congrArg Host.Outcome.next (if_pos ((Timer.due_iff _ _).2 due)), originates s rfl rfl rfl rfl rfl rfl,
      left.sync, left.syncMirrors, takes s rfl rfl⟩
  · exact congrArg Host.Outcome.next (if_neg fun due => idle ((Timer.due_iff _ _).1 due))
  · obtain ⟨timebase, sync, substitute⟩ := cycArrives_timers (s.stop.state == .parked) blocks f
      (linkGood .u (s.withTimebase (max s.timebase now)))
    refine ⟨_, exec_cycReceived empty cyc length now blocks, congrArg Host.Outcome.next (if_neg ?_),
      congrArg Host.Outcome.next (if_neg ?_)⟩
    · rw [sync, timebase, Timer.due_running_fresh (by simpa using timeout)]
      exact Bool.false_ne_true
    · rw [substitute]
      exact Bool.false_ne_true

end Sys2Proof.Machine
end

section
/-! PROOFS. The recording of samples: the samples that find a page, and the end with STORE_FULL (R156 to R158). -/

namespace Sys2Proof.Machine

/-! ## The occurrences of one source -/

/-- Behind a frame in transmission on U, the occurrences of a source between two states have the details given. -/
def Raised (k : Fin 17) (details : List (List Byte)) (s t : State) : Prop :=
  ∃ log, Noted log s t ∧ detailsOf k log = details

section
variable {k : Fin 17} {details : List (List Byte)} {s t u : State} {ks : List (Fin 17)}

theorem Raised.occurrences (h : Raised k details s t) : Occurrences k details s t := by
  obtain ⟨log, notes, same⟩ := h
  exact notes.occurrences same

theorem Raised.before (before : NotesAmong ks s t) (h : Raised k details t u) (out : k ∉ ks) : Raised k details s u := by
  obtain ⟨log, notes, same⟩ := h
  obtain ⟨log', notes', among⟩ := before
  refine ⟨log' ++ log, notes'.trans notes, ?_⟩
  rw [detailsOf_append, detailsOf_eq_nil (k := k) fun n mem here => out (here ▸ among n mem), same, List.nil_append]

theorem Raised.after (h : Raised k details s t) (after : NotesAmong ks t u) (out : k ∉ ks) : Raised k details s u := by
  obtain ⟨log, notes, same⟩ := h
  obtain ⟨log', notes', among⟩ := after
  refine ⟨log ++ log', notes.trans notes', ?_⟩
  rw [detailsOf_append, detailsOf_eq_nil (k := k) fun n mem here => out (here ▸ among n mem), same, List.append_nil]

end

/-! ## Samples written one after another (R158) -/

/-- The store after a number of samples of the same values, where each finds its page. -/
def writtenSamples (k : Fin 32) (values : List Int) (st : Store) (m : Nat) : Option Store :=
  (List.range m).foldlM (fun st _ => st.writeSample k values) st

section
variable {k : Fin 32} {values : List Int} {st : Store}

theorem writtenSamples_zero : writtenSamples k values st 0 = some st := rfl

theorem writtenSamples_succ (m : Nat) :
    writtenSamples k values st (m + 1) = (st.writeSample k values).bind fun st' => writtenSamples k values st' m := by
  simp [writtenSamples, List.range_succ_eq_map, List.foldlM_map]

end

/-- The repeats counted for samples of which the first is a repeat or not. -/
def repeated (first : Bool) (n : Nat) : Nat := if first then n else n - 1

section
variable {k : Fin 32}

/-- Every sample finds its page. -/
theorem writeSamples_all (n : Nat) : ∀ (s : State) (first : Bool) (st : Store), s.recorder.repeats ≤ 65535 →
    writtenSamples k s.recorder.sample s.store n = some st →
    writeSamples k s n first =
      ((s.withStore st).withRecorder
          { s.recorder with repeats := min 65535 (s.recorder.repeats + repeated first n) }, true) := by
  induction n with
  | zero =>
    intro s first st bound written
    obtain rfl := Option.some.inj written
    have none : min 65535 (s.recorder.repeats + repeated first 0) = s.recorder.repeats := by
      cases first <;> simp [repeated, bound]
    rw [none]
    rfl
  | succ n ih =>
    intro s first st bound written
    rw [writtenSamples_succ] at written
    obtain ⟨st', wrote, rest⟩ := Option.bind_eq_some_iff.1 written
    unfold writeSamples
    rw [wrote]
    dsimp only
    cases first with
    | false =>
      rw [if_neg Bool.false_ne_true, ih (s.withStore st') true st bound rest]
      rfl
    | true =>
      have count : min 65535 (satInc 65535 s.recorder.repeats + repeated true n) =
          min 65535 (s.recorder.repeats + repeated true (n + 1)) := by
        simp only [satInc, repeated, if_true]
        split <;> omega
      rw [if_pos rfl, ← count]
      exact ih ((s.withStore st').withRecorder _) true st (satInc_le _) rest

/-- A sample finds no page: those before it are written. -/
theorem writeSamples_ends {m : Nat} (n : Nat) (fewer : m < n) : ∀ (s : State) (first : Bool) (st : Store),
    writtenSamples k s.recorder.sample s.store m = some st → st.writeSample k s.recorder.sample = none →
    ∃ r, writeSamples k s n first = ((s.withStore st).withRecorder { s.recorder with repeats := r }, false) := by
  induction n generalizing m with
  | zero => omega
  | succ n ih =>
    intro s first st written full
    unfold writeSamples
    cases m with
    | zero =>
      obtain rfl := Option.some.inj written
      rw [full]
      exact ⟨s.recorder.repeats, rfl⟩
    | succ m =>
      rw [writtenSamples_succ] at written
      obtain ⟨st', wrote, rest⟩ := Option.bind_eq_some_iff.1 written
      rw [wrote]
      dsimp only
      cases first with
      | false =>
        rw [if_neg Bool.false_ne_true]
        exact ih (by omega) (s.withStore st') true st rest full
      | true =>
        rw [if_pos rfl]
        exact ih (by omega) ((s.withStore st').withRecorder _) true st rest full

end

/-! ## The end of a recording, with its notice (R156) -/

section
variable {s : State} {k : Fin 32}

theorem endRecording_raised (take : s.recorder.take = some k) (e : EndReason) :
    Raised 9
      [if s.recorder.state = .recording then
        recordEndDetail k e s.store.takes[k].samples s.store.takes[k].chain.length
      else recordEndDetail k e 0 0] s (endRecording e s) := by
  unfold endRecording
  rw [take]
  dsimp only
  generalize (if s.recorder.state = .recording then _ else _ : List Byte) = detail
  have notes := (closeRecorder_noted e s).trans
    ((raise_noted (closeRecorder e s) 9 detail).trans (refreshLamps_noted _))
  refine ⟨_, notes, ?_⟩
  rw [detailsOf_append, detailsOf_append, detailsOf_raiseLog (by decide) (by decide)]
  rfl

theorem endRecording_records (take : s.recorder.take = some k) (e : EndReason) :
    (endRecording e s).recorder = Recorder.initial ∧ (endRecording e s).store = (closeRecorder e s).store := by
  unfold endRecording
  rw [take]
  simp

/-! ## Closing samples at a newer cycle (R158) -/

variable {c cycle : CycleNo}

theorem closeSamples_all {d : Nat} {st : Store} (bound : s.recorder.repeats ≤ 65535)
    (written : writtenSamples k s.recorder.sample s.store (1 + min (d - 1) 3) = some st) :
    closeSamples k d cycle s =
      (s.withStore st).withRecorder
        { s.recorder with
          openCycle := some cycle, repeats := min 65535 (s.recorder.repeats + (1 + min (d - 1) 3 - 1)) } := by
  unfold closeSamples
  rw [writeSamples_all _ s false st bound written]
  rfl

/-- A sample without a page closes the take with STORE_FULL. -/
theorem closeSamples_ends {d m : Nat} {st : Store} (records : s.recorder.state = .recording)
    (take : s.recorder.take = some k) (fewer : m < 1 + min (d - 1) 3)
    (written : writtenSamples k s.recorder.sample s.store m = some st)
    (full : st.writeSample k s.recorder.sample = none) :
    (closeSamples k d cycle s).recorder = Recorder.initial
      ∧ (closeSamples k d cycle s).store =
        st.setTake k { st.takes[k] with state := .closed, endReason := some .storeFull }
      ∧ Raised 9 [recordEndDetail k .storeFull st.takes[k].samples st.takes[k].chain.length] s
        (closeSamples k d cycle s) := by
  obtain ⟨r, wrote⟩ := writeSamples_ends (1 + min (d - 1) 3) fewer s false st written full
  unfold closeSamples
  rw [wrote]
  dsimp only
  generalize ended : (s.withStore st).withRecorder { s.recorder with repeats := r } = u
  have took : u.recorder.take = some k := by
    subst ended
    exact take
  have open' : u.recorder.state = .recording := by
    subst ended
    exact records
  have store : u.store = st := by
    subst ended
    rfl
  obtain ⟨recorder, closed⟩ := endRecording_records took .storeFull
  have notice := endRecording_raised took .storeFull
  rw [if_pos open', store] at notice
  have before : NotesAmong [] s u := by
    subst ended
    exact .of_same rfl (fun _ => rfl) fun _ => rfl
  refine ⟨recorder, ?_, notice.before before nofun⟩
  rw [closed, closeRecorder_recording took open', store]

theorem recorderCycle_idle (idle : s.recorder.state ≠ .recording) : recorderCycle cycle s = s := by
  unfold recorderCycle
  split
  next records _ _ => exact absurd records idle
  next => rfl

section
variable (records : s.recorder.state = .recording) (take : s.recorder.take = some k)
  (opened : s.recorder.openCycle = some c)
include records take opened

theorem recorderCycle_old (old : (cycle - c).toNat = 0 ∨ 32768 ≤ (cycle - c).toNat) : recorderCycle cycle s = s := by
  unfold recorderCycle
  rw [records, take, opened]
  exact if_neg (by simp only [isNewer, decide_eq_true_eq]; omega)

theorem recorderCycle_newer (least : 1 ≤ (cycle - c).toNat) (most : (cycle - c).toNat ≤ 32767) :
    recorderCycle cycle s = closeSamples k (cycle - c).toNat cycle s := by
  unfold recorderCycle
  rw [records, take, opened]
  exact if_pos (by simp only [isNewer, decide_eq_true_eq]; omega)

end

end

end Sys2Proof.Machine
end

section
/-! PROOFS. A frame offered to the D queue of a part that is not PARKED, and what a frame on U leaves of the part before
its fields are taken (R16 to R18, R25 to R28, R35). -/

namespace Sys2Proof.Machine

/-! ## The D transmitter stands -/

/-- The D transmitter and the D port stand. -/
structure SameD (s t : State) : Prop where
  orders : SameOrders s t
  link : t.link.d = s.link.d

section
variable {s t u : State}

theorem SameD.refl (s : State) : SameD s s := ⟨.refl s, rfl⟩

theorem SameD.trans (h : SameD s t) (g : SameD t u) : SameD s u := ⟨h.orders.trans g.orders, g.link.trans h.link⟩

theorem SameD.inTest (h : SameD s t) : t.inTest = s.inTest := by rw [State.inTest, h.link, State.inTest]

theorem raise_sameD (awake : s.stop.state ≠ .parked) (k d) : SameD s (raise k d s) :=
  ⟨raise_orders awake k d, by simp⟩

theorem endRecording_sameD (awake : s.stop.state ≠ .parked) (e) : SameD s (endRecording e s) :=
  ⟨endRecording_orders awake e, by simp⟩

theorem OfferedToD.before {f : Frame} (h : SameD s t) (offered : OfferedToD f t u) : OfferedToD f s u := by
  obtain ⟨⟨brake, decel, queue, sending⟩, link⟩ := h
  unfold OfferedToD State.inTest at offered ⊢
  rwa [brake, decel, queue, sending, link] at offered

theorem OfferedToD.after {f : Frame} (offered : OfferedToD f s t) (h : SameD t u) : OfferedToD f s u := by
  obtain ⟨⟨-, -, queue, sending⟩, link⟩ := h
  unfold OfferedToD at offered ⊢
  rwa [queue, sending, link]

/-! ## The offer (R16 to R18) -/

theorem bumpCounter_drops_link (s : State) :
    (bumpCounter .d .queueDrops s).link.d = { s.link.d with queueDrops := satInc 65535 s.link.d.queueDrops } := by
  rw [(bumpCounter_link s .d .queueDrops).1]
  rfl

theorem bumpCounter_orders (awake : s.stop.state ≠ .parked) (p c) : SameOrders s (bumpCounter p c s) := by
  have set : ∀ v, SameOrders s (s.setCounter p c v) := fun v => .of_spine (by cases c <;> rfl)
  have state : ∀ v, (s.setCounter p c v).stop.state = s.stop.state := fun v => by cases c <;> rfl
  unfold bumpCounter
  dsimp only
  split
  · exact (set _).trans (raise_orders (by rwa [state]) 14 _)
  · exact set _

theorem takeD_alone {f : Frame} (other : s.inTest = false) (brake : s.spine.brake = none)
    (decel : ∀ k : Fin 7, s.spine.decel[k] = none) (queue : s.spine.queueD = [f])
    (allowed : forbiddenAtTake s.stop.state f = false) :
    takeD s = s.withSpine { s.spine with queueD := [], sendingD := some f } := by
  have search : ((List.finRange 7).find? fun k => s.spine.decel[k].isSome) = none :=
    List.find?_eq_none.2 fun k _ => by simp [decel k]
  unfold takeD
  rw [if_neg (by simp [other]), brake]
  dsimp only
  rw [search, queue, takeQueueD, if_neg (by simp [allowed])]

/-- A frame that the stop state lets through is offered to D. -/
theorem offerQueueD_offered {f : Frame} (awake : s.stop.state ≠ .parked)
    (allowed : forbiddenAtTake s.stop.state f = false) : OfferedToD f s (offerQueueD f s) := by
  refine ⟨fun test => ?_, fun other busy => ?_, fun other idle brake decel queue => ?_⟩
  · rw [offerQueueD, if_pos test]
    exact ⟨rfl, rfl, rfl⟩
  · rw [offerQueueD, if_neg (by simp [other])]
    obtain ⟨-, -, queue, sending⟩ := bumpCounter_orders awake .d .queueDrops
    by_cases room : s.spine.queueD.length < queueLimit
    · rw [if_pos room, opportunityD, if_neg (by simpa [Option.isSome_iff_ne_none] using busy)]
      exact ⟨rfl, fun _ => ⟨rfl, rfl⟩, fun full => absurd room (Nat.not_lt.2 full)⟩
    · rw [if_neg room]
      exact ⟨sending, fun here => absurd here room, fun _ => ⟨queue, bumpCounter_drops_link s⟩⟩
  · rw [offerQueueD, if_neg (by simp [other]), queue, if_pos (by decide), opportunityD, if_pos (by simp [idle]),
      takeD_alone (by exact other) (by exact brake) (by exact decel) rfl (by exact allowed)]
    exact ⟨rfl, rfl, rfl⟩

theorem offerQueueD_awake (awake : s.stop.state ≠ .parked) (f) : (offerQueueD f s).stop = s.stop := by
  have set : ∀ v, (s.setCounter .d .queueDrops v).stop = s.stop := fun v => rfl
  unfold offerQueueD bumpCounter
  dsimp only
  split
  · rfl
  split
  · simp
  split
  · rw [raise_awake (by rwa [set])]
    simp
  · exact set _

/-! ## A frame counted at the U port (R25 to R28, R35) -/

/-- The U port and the cycle record may change, and notices may occur; the stop record and the D side stand. -/
structure CountedAtU (s t : State) : Prop where
  stop : t.stop = s.stop
  d : SameD s t

theorem CountedAtU.refl (s : State) : CountedAtU s s := ⟨rfl, .refl s⟩

theorem CountedAtU.trans (h : CountedAtU s t) (g : CountedAtU t u) : CountedAtU s u := ⟨g.stop.trans h.stop, h.d.trans g.d⟩

theorem withLinkU_counted (s : State) (r : PortRecord) : CountedAtU s (s.withLink (s.link.setPort .u r)) :=
  ⟨rfl, .of_spine rfl, rfl⟩

theorem raise_counted (awake : s.stop.state ≠ .parked) (k d) : CountedAtU s (raise k d s) :=
  ⟨by rw [raise_awake awake]; simp, raise_sameD awake k d⟩

theorem changePort_counted (awake : s.stop.state ≠ .parked) (r new why) : CountedAtU s (changePort .u r new why s) :=
  (withLinkU_counted s _).trans (raise_counted (by exact awake) 13 _)

theorem endWindow_counted (awake : s.stop.state ≠ .parked) (e r) : CountedAtU s (endWindow .u e r s) := by
  unfold endWindow
  dsimp only
  repeat' split
  · exact changePort_counted awake _ _ _
  · exact withLinkU_counted s _
  · exact changePort_counted awake _ _ _
  · exact withLinkU_counted s _
  · exact withLinkU_counted s _

theorem linkGood_counted (awake : s.stop.state ≠ .parked) : CountedAtU s (linkGood .u s) := by
  have window : ∀ r, CountedAtU s (countWindow .u 0 r s) := by
    intro r
    unfold countWindow
    dsimp only
    split
    · exact endWindow_counted awake _ _
    · exact withLinkU_counted s _
  unfold linkGood
  dsimp only
  repeat' split
  · exact changePort_counted awake _ _ _
  · exact withLinkU_counted s _
  · exact .refl s
  · exact window _
  · exact window _
  · exact .refl s

theorem bumpCounter_sequence_counted (awake : s.stop.state ≠ .parked) : CountedAtU s (bumpCounter .u .sequence s) := by
  have set : ∀ v, CountedAtU s (s.setCounter .u .sequence v) := fun v => ⟨rfl, .of_spine rfl, rfl⟩
  unfold bumpCounter
  dsimp only
  split
  · exact (set _).trans (raise_counted (by exact awake) 14 _)
  · exact set _

/-! ## The D queue of a part that a notice wakes -/

theorem offerBrake_queueD (a) (s : State) : (offerBrake a s).spine.queueD = s.spine.queueD := by
  unfold offerBrake opportunityD takeD
  dsimp only
  split
  · rfl
  split
  · split <;> rfl
  · rfl

theorem raise_queueD (k d) (s : State) : (raise k d s).spine.queueD = s.spine.queueD := by
  have queue : ∀ (j e) (u : State), (noteOccurrence j e u).spine.queueD = u.spine.queueD := fun j e u =>
    (noteOccurrence_orders j e u).queueD
  unfold raise
  dsimp only
  split
  · unfold wake enterHeld changeState
    rw [queue]
    exact (offerBrake_queueD _ _).trans ((queue _ _ _).trans (queue _ _ _))
  · exact queue _ _ _

theorem linkGood_queueD (s : State) : (linkGood .u s).spine.queueD = s.spine.queueD := by
  have change : ∀ r new why, (changePort .u r new why s).spine.queueD = s.spine.queueD := fun r new why =>
    raise_queueD _ _ _
  have ends : ∀ e r, (endWindow .u e r s).spine.queueD = s.spine.queueD := by
    intro e r
    unfold endWindow
    dsimp only
    repeat' split
    · exact change _ _ _
    · rfl
    · exact change _ _ _
    · rfl
    · rfl
  have window : ∀ r, (countWindow .u 0 r s).spine.queueD = s.spine.queueD := by
    intro r
    unfold countWindow
    dsimp only
    split
    · exact ends _ _
    · rfl
  unfold linkGood
  dsimp only
  repeat' split
  · exact change _ _ _
  · rfl
  · rfl
  · exact window _
  · exact window _
  · rfl

theorem bumpCounter_sequence_queueD (s : State) : (bumpCounter .u .sequence s).spine.queueD = s.spine.queueD := by
  unfold bumpCounter
  dsimp only
  split
  · exact raise_queueD _ _ _
  · rfl

end

end Sys2Proof.Machine
end

section
/-! PROOFS. A good CYC received on U, block by block (R6 to R8, R48 to R50, R101, R115 to R119, R155 to R158). -/

namespace Sys2Proof.Machine

/-! ## The cycle record (R6, R35) -/

/-- The state after a step other than 1 has been counted. -/
def stepCounted (c : CycleNo) (s : State) : State :=
  if isSequenceError (s.cycle.step c) then bumpCounter .u .sequence s else s

theorem isSequenceError_iff {step : Option Nat} : isSequenceError step = true ↔ ∃ g : Nat, step = some g ∧ g ≠ 1 := by
  cases step <;> simp [isSequenceError]

section
variable (s : State)

theorem stepCounted_missed (c : CycleNo) (missed : ∃ g : Nat, s.cycle.step c = some g ∧ g ≠ 1) :
    stepCounted c s = bumpCounter .u .sequence s := if_pos (isSequenceError_iff.2 missed)

theorem stepCounted_next (c : CycleNo) (next : ¬∃ g : Nat, s.cycle.step c = some g ∧ g ≠ 1) : stepCounted c s = s :=
  if_neg fun error => next (isSequenceError_iff.1 error)

theorem stepCounted_cycle (c : CycleNo) :
    (stepCounted c s).cycle =
      { s.cycle with
        sequenceErrors :=
          match s.cycle.last with
          | some l => if (c - l).toNat = 1 then s.cycle.sequenceErrors else satInc 65535 s.cycle.sequenceErrors
          | none => s.cycle.sequenceErrors } := by
  have bumped : (bumpCounter .u .sequence s).cycle =
      { s.cycle with sequenceErrors := satInc 65535 s.cycle.sequenceErrors } := (bumpCounter_link s .u .sequence).2
  unfold stepCounted CycleRecord.step
  cases last : s.cycle.last with
  | none => rfl
  | some l =>
    rw [Option.map_some]
    dsimp only
    generalize (c - l).toNat = g
    by_cases next : g = 1
    · simp [isSequenceError, next]
    · simp [isSequenceError, next, bumped]

theorem stepCounted_stands (c : CycleNo) :
    (stepCounted c s).timebase = s.timebase ∧ (stepCounted c s).recorder = s.recorder ∧ (stepCounted c s).store = s.store
      ∧ (stepCounted c s).player = s.player ∧ (stepCounted c s).cues = s.cues ∧ (stepCounted c s).pose = s.pose
      ∧ (stepCounted c s).gate = s.gate ∧ (stepCounted c s).lens = s.lens ∧ (stepCounted c s).env = s.env
      ∧ (stepCounted c s).pins = s.pins ∧ (stepCounted c s).stop.config = s.stop.config
      ∧ (stepCounted c s).stop.gesture = s.stop.gesture ∧ (stepCounted c s).stop.lampMap = s.stop.lampMap
      ∧ (stepCounted c s).spine.queueD = s.spine.queueD := by
  unfold stepCounted
  split
  · simp [bumpCounter_sequence_queueD]
  · simp

theorem stepCounted_counted (awake : s.stop.state ≠ .parked) (c : CycleNo) : CountedAtU s (stepCounted c s) := by
  unfold stepCounted
  split
  · exact bumpCounter_sequence_counted awake
  · exact .refl s

end

/-! ## The Stop Supervisor (R101) -/

theorem slips_iff {step : Option Nat} : slips step = true ↔ ∃ g : Nat, step = some g ∧ (g = 0 ∨ 5 ≤ g) := by
  cases step <;> simp [slips]

section
variable {s : State} {c : Cause}

theorem judgeCut_run : (judgeCut s).stop.state = .run ↔ s.stop.state = .run := by
  by_cases leaves : s.stop.state = .cut ∧ s.stop.cutPresent = false
  · obtain ⟨cut, none⟩ := leaves
    obtain ⟨held, -⟩ := enterHeld_leaves .cleared s
    simp [judgeCut_leaves cut none, cut]
  · rw [judgeCut_stands leaves]

theorem causeLeaves_run : (causeLeaves c s).stop.state = .run ↔ s.stop.state = .run := by
  unfold causeLeaves
  split
  · exact judgeCut_run
  · rfl

theorem handOver_inRamp (isRamp : c.isCut = false) (ramp : s.stop.state = .ramp) (b : Bool) :
    (handOver c b s).stop.state = .ramp
      ∧ ∀ d : Fin 21, s.stop.trip[d] = true → (handOver c b s).stop.trip[d] = true := by
  cases b with
  | true =>
    by_cases present : s.stop.present[c.code] = true
    · rw [show handOver c true s = s from causeEnters_again present]
      exact ⟨ramp, fun _ tripped => tripped⟩
    · obtain ⟨state, -, -, -, -, trip⟩ := causeEnters_joins_leaves (by simpa using present) isRamp (.inl ramp)
      rw [show handOver c true s = causeEnters c s from rfl, state, trip]
      refine ⟨ramp, fun d tripped => ?_⟩
      exact (Vector.getElem_set ..).trans (by split <;> [rfl; exact tripped])
  | false =>
    have leaves : handOver c false s = causeLeaves c s := rfl
    rw [leaves]
    by_cases present : s.stop.present[c.code] = true
    · rw [causeLeaves_present_eq present, judgeCut_stands (by simp [State.withoutPresent, ramp])]
      exact ⟨ramp, fun _ tripped => tripped⟩
    · rw [causeLeaves_absent (by simpa using present)]
      exact ⟨ramp, fun _ tripped => tripped⟩

/-- A hand-over of what is already so changes nothing. -/
theorem handOver_same {b : Bool} (same : s.stop.present[c.code] = b) : handOver c b s = s := by
  cases b with
  | true => exact causeEnters_again same
  | false => exact causeLeaves_absent same

end

/-- The taking by the Stop Supervisor in its order: sync, slip, grip and console stop, gesture. -/
theorem stopArrival_steps (a : Arrival) (s : State) :
    let t := cycTaken a s .stopSupervisor
    let s1 : State :=
      { s with
        stop :=
          { s.stop with
            syncTimer := .running s.timebase s.stop.config.syncTimeout, substituteTimer := .stopped } }
    let slip : Prop := a.fromU = true ∧ s.stop.state = .run ∧ ∃ g : Nat, a.step = some g ∧ (g = 0 ∨ 5 ≤ g)
    ∃ u v w : State,
      (a.fromU = true → u = causeLeaves .syncLost s1) ∧ (a.fromU = false → u = s)
        ∧ (slip → v = rampEvent .slip u) ∧ (¬slip → v = u)
        ∧ w =
          handOver .consoleStop a.fields.consoleStop
            (handOver .grip (!a.fields.grip)
              { v with
                stop := { v.stop with gripHeld := a.fields.grip, consoleStop := a.fields.consoleStop } })
        ∧ (w.stop.state ≠ .held → t = w)
        ∧ (w.stop.state = .held → t = gestureStep a.fields.grip w)
        ∧ (slip → w.stop.state = .ramp ∧ w.stop.trip[Cause.slip.code] = true) := by
  intro t s1 slip
  generalize synced : (if a.fromU = true then syncRestart s else s) = u
  have fromU : a.fromU = true → u = causeLeaves .syncLost s1 := fun origin => by
    rw [← synced, if_pos origin]
    rfl
  have own : a.fromU = false → u = s := fun origin => by rw [← synced, if_neg (by simp [origin])]
  have run : a.fromU = true → (u.stop.state = .run ↔ s.stop.state = .run) := fun origin => by
    rw [fromU origin]
    exact causeLeaves_run
  have slipped : slip ↔ (u.stop.state == .run && a.fromU && slips a.step) = true := by
    simp only [Bool.and_eq_true, beq_iff_eq, slips_iff]
    exact ⟨fun ⟨origin, state, step⟩ => ⟨⟨(run origin).2 state, origin⟩, step⟩,
      fun ⟨⟨state, origin⟩, step⟩ => ⟨origin, (run origin).1 state, step⟩⟩
  generalize slid : (if (u.stop.state == .run && a.fromU && slips a.step) = true then rampEvent .slip u else u) = v
  have slips' : slip → v = rampEvent .slip u := fun here => by rw [← slid, if_pos (slipped.1 here)]
  have stays : ¬slip → v = u := fun none => by rw [← slid, if_neg fun here => none (slipped.2 here)]
  have taken : t = (fun w : State => if w.stop.state = .held then gestureStep a.fields.grip w else w)
      (handOver .consoleStop a.fields.consoleStop
        (handOver .grip (!a.fields.grip)
          (v.withStop { v.stop with gripHeld := a.fields.grip, consoleStop := a.fields.consoleStop }))) := by
    rw [← slid, ← synced]
    rfl
  refine ⟨u, v, _, fromU, own, slips', stays, rfl, fun other => ?_, fun held => ?_, fun here => ?_⟩
  · exact taken.trans (if_neg other)
  · exact taken.trans (if_pos held)
  · have state : u.stop.state = .run := (run here.1).2 here.2.1
    obtain ⟨ramp, -, trip, -⟩ := rampEvent_run (c := .slip) state
    rw [← slips' here] at ramp trip
    obtain ⟨grip, kept⟩ := handOver_inRamp (c := .grip) (by decide)
      (s := v.withStop { v.stop with gripHeld := a.fields.grip, consoleStop := a.fields.consoleStop }) ramp
      (!a.fields.grip)
    obtain ⟨console, kept'⟩ := handOver_inRamp (c := .consoleStop) (by decide) grip a.fields.consoleStop
    exact ⟨console, kept' _ (kept _ ((trip _).trans (by simp)))⟩

/-! ## The Pose Unit (R48 to R50) -/

section
variable {s : State}

theorem judgeFeedback_motion {k : Axis} (motion : k.val ≤ 6) :
    judgeFeedback k s = handOver .feedbackLost s.pose.anyLost s := by
  unfold judgeFeedback
  rw [show lensOf k = none from dif_neg (by omega)]

theorem judgeFeedback_lens (i : Fin 3) : judgeFeedback (lensAxis i) s = judgeStale i s := by
  unfold judgeFeedback
  rw [lensOf_lensAxis]

theorem judgeAllFeedback_eq :
    judgeAllFeedback s =
      (List.finRange 3).foldl (fun u i => judgeStale i u) (handOver .feedbackLost s.pose.anyLost s) := by
  have again : ∀ (ks : List Axis), (∀ k ∈ ks, k.val ≤ 6) → ∀ u : State,
      u.stop.present[Cause.feedbackLost.code] = u.pose.anyLost → ks.foldl (fun u k => judgeFeedback k u) u = u := by
    intro ks
    induction ks with
    | nil => exact fun _ _ _ => rfl
    | cons k rest ih =>
      intro motion u same
      rw [List.foldl_cons, judgeFeedback_motion (motion k (.head _)), handOver_same same]
      exact ih (fun j mem => motion j (.tail _ mem)) u same
  have axes : List.finRange 10 = 0 :: ([1, 2, 3, 4, 5, 6] ++ (List.finRange 3).map lensAxis) := rfl
  have judged : (handOver .feedbackLost s.pose.anyLost s).stop.present[Cause.feedbackLost.code] =
      (handOver .feedbackLost s.pose.anyLost s).pose.anyLost := by simp [handOver_present]
  unfold judgeAllFeedback
  rw [axes, List.foldl_cons, List.foldl_append, judgeFeedback_motion (by decide), again _ (by decide) _ judged,
    List.foldl_map]
  simp only [judgeFeedback_lens]

theorem judgeStale_lens (i : Fin 3) (s : State) :
    (judgeStale i s).lens = { s.lens with stale := s.lens.stale.set i.val (s.pose.isStale (lensAxis i)) } := by
  rw [← judgeStale_stale]
  unfold judgeStale
  dsimp only
  repeat' split
  · simp
  · rfl
  · rfl

/-- Notice 12 of a lens axis that becomes stale. -/
def staleDetail (i : Fin 3) : List Byte := [u8 (i.val + 7), 0x01#8]

theorem judgeStale_noted (i : Fin 3) (s : State) :
    ∃ log, Noted log s (judgeStale i s)
      ∧ detailsOf 12 log = if (s.pose.isStale (lensAxis i) && !s.lens.stale[i]) = true then [staleDetail i] else [] := by
  unfold judgeStale
  dsimp only
  by_cases becomes : (s.pose.isStale (lensAxis i) && !s.lens.stale[i]) = true
  · rw [if_pos becomes, if_pos becomes]
    have before : Noted [] s (s.withLens { s.lens with stale := FlagSet.insert s.lens.stale i }) :=
      .of_same rfl (fun _ => rfl) fun _ => rfl
    exact ⟨_, before.trans (raise_noted _ 12 _), detailsOf_raiseLog (by decide) (by decide) _ _⟩
  · rw [if_neg becomes, if_neg becomes]
    refine ⟨[], ?_, rfl⟩
    split
    · exact .of_same rfl (fun _ => rfl) fun _ => rfl
    · exact .refl s

/-- Lens axes judged one after another. -/
theorem foldl_judgeStale (is : List (Fin 3)) (distinct : is.Nodup) : ∀ s : State,
    ∃ log, Noted log s (is.foldl (fun u i => judgeStale i u) s)
      ∧ detailsOf 12 log =
        (is.filter fun i => s.pose.isStale (lensAxis i) && !s.lens.stale[i]).map staleDetail
      ∧ (is.foldl (fun u i => judgeStale i u) s).lens =
        { s.lens with stale := (is.foldl (fun u i => judgeStale i u) s).lens.stale }
      ∧ (is.foldl (fun u i => judgeStale i u) s).stop.present = s.stop.present := by
  induction is with
  | nil => exact fun s => ⟨[], .refl s, rfl, rfl, rfl⟩
  | cons i rest ih =>
    intro s
    obtain ⟨out, distinct⟩ := List.nodup_cons.1 distinct
    obtain ⟨log, notes, details⟩ := judgeStale_noted i s
    obtain ⟨log', notes', details', lens, present⟩ := ih distinct (judgeStale i s)
    have same : (rest.filter fun j => (judgeStale i s).pose.isStale (lensAxis j) && !(judgeStale i s).lens.stale[j]) =
        rest.filter fun j => s.pose.isStale (lensAxis j) && !s.lens.stale[j] := by
      refine List.filter_congr fun j mem => ?_
      have apart : i.val ≠ j.val := fun here => out (Fin.ext here ▸ mem)
      rw [judgeStale_stale]
      simp [Vector.getElem_set_ne, apart]
    rw [same] at details'
    rw [List.foldl_cons, List.filter_cons]
    refine ⟨log ++ log', notes.trans notes', ?_, ?_, present.trans (by simp)⟩
    · rw [detailsOf_append, details, details']
      split <;> rfl
    · rw [lens, judgeStale_lens]

end

/-- The state at which the lens axes are judged at a CYC arrival. -/
def agedState (s : State) : State :=
  let u := s.withPose { s.pose with entries := Vector.ofFn fun k : Fin 10 => PoseEntry.aged s.pose.entries[k] }
  handOver .feedbackLost u.pose.anyLost u

section
variable (s : State)

theorem poseArrival_eq :
    poseArrival s = (List.finRange 3).foldl (fun u i => judgeStale i u) (agedState s) := judgeAllFeedback_eq

theorem agedState_pose :
    (agedState s).pose =
      { s.pose with entries := Vector.ofFn fun k : Fin 10 => PoseEntry.aged s.pose.entries[k] } := by
  simp [agedState]

theorem agedState_lens : (agedState s).lens = s.lens := by simp [agedState]

theorem agedState_among : NotesAmong stopSources s (agedState s) := by
  have aged : NotesAmong stopSources s
      (s.withPose { s.pose with entries := Vector.ofFn fun k : Fin 10 => PoseEntry.aged s.pose.entries[k] }) :=
    .of_same rfl (fun _ => rfl) fun _ => rfl
  exact aged.trans (handOver_among _ _ _)

theorem agedState_present : (agedState s).stop.present[Cause.feedbackLost.code] = (agedState s).pose.anyLost := by
  simp [agedState, handOver_present]

theorem poseArrival_pose : (poseArrival s).pose = (agedState s).pose := by
  have all : ∀ (is : List (Fin 3)) (u : State), (is.foldl (fun u i => judgeStale i u) u).pose = u.pose := by
    intro is
    induction is with
    | nil => exact fun _ => rfl
    | cons i rest ih => exact fun u => (ih _).trans (by simp)
  rw [poseArrival_eq, all]

theorem poseArrival_lost : (poseArrival s).stop.present[Cause.feedbackLost.code] = (poseArrival s).pose.anyLost := by
  obtain ⟨-, -, -, -, present⟩ := foldl_judgeStale (List.finRange 3) (List.nodup_finRange 3) (agedState s)
  rw [poseArrival_pose, poseArrival_eq, present, agedState_present]

theorem poseArrival_lens : (poseArrival s).lens = { s.lens with stale := (poseArrival s).lens.stale } := by
  obtain ⟨-, -, -, lens, -⟩ := foldl_judgeStale (List.finRange 3) (List.nodup_finRange 3) (agedState s)
  rw [agedState_lens] at lens
  rw [poseArrival_eq]
  exact lens

theorem poseArrival_notices :
    Occurrences 12
      (((List.finRange 3).filter fun i => (poseArrival s).pose.isStale (lensAxis i) && !s.lens.stale[i]).map staleDetail)
      s (poseArrival s) := by
  obtain ⟨log, notes, details, -⟩ := foldl_judgeStale (List.finRange 3) (List.nodup_finRange 3) (agedState s)
  rw [agedState_lens] at details
  rw [poseArrival_pose, poseArrival_eq]
  exact notes.after (agedState_among s) (by decide) details

theorem anyLost_iff {p : Pose} : p.anyLost = true ↔ ∃ k : Axis, k.val ≤ 6 ∧ p.lost k = true := by
  simp only [Pose.anyLost, List.any_eq_true, mem_motionAxes]

end

end Sys2Proof.Machine
end

section
/-! PROOFS. A good CYC received on U: the obligation (R6 to R8). -/

namespace Sys2Proof.Machine

/-! ## The dispatch of a received CYC -/

/-- The cycle record after a CYC received at a reading of the timebase. -/
def CycleRecord.received (r : CycleRecord) (x : CycFields) (reading : Nat) : CycleRecord :=
  { last := some x.cycle
    timecode := x.timecode
    arrival := some reading
    interval := match r.arrival with | some a => max 2 (min 1000 (reading - a)) | none => r.interval
    sequenceErrors :=
      match r.last with
      | some l => if (x.cycle - l).toNat = 1 then r.sequenceErrors else satInc 65535 r.sequenceErrors
      | none => r.sequenceErrors }

/-- The state before a received CYC is offered to D. -/
def cycRecorded (x : CycFields) (s : State) : State :=
  (stepCounted x.cycle s).withCycle (s.cycle.received x s.timebase)

section
variable (order : List CycBlock) (f : Frame) (s : State)

theorem cycArrives_dispatches (parked : Bool) :
    cycArrives parked order f s =
      dispatchCyc parked order f ⟨true, cycFields f.payload, s.cycle.step (cycFields f.payload).cycle⟩
        (cycRecorded (cycFields f.payload) s) := by
  have recorded : (stepCounted (cycFields f.payload).cycle s).withCycle
      { (stepCounted (cycFields f.payload).cycle s).cycle with
        interval := (stepCounted (cycFields f.payload).cycle s).cycle.measured
          (stepCounted (cycFields f.payload).cycle s).timebase
        last := some (cycFields f.payload).cycle, timecode := (cycFields f.payload).timecode
        arrival := some (stepCounted (cycFields f.payload).cycle s).timebase } =
      cycRecorded (cycFields f.payload) s := by
    obtain ⟨timebase, -⟩ := stepCounted_stands s (cycFields f.payload).cycle
    unfold cycRecorded
    rw [stepCounted_cycle, timebase]
    rfl
  rw [← recorded]
  rfl

variable {s}

theorem cycRecorded_counted (awake : s.stop.state ≠ .parked) (x) : CountedAtU s (cycRecorded x s) :=
  (stepCounted_counted s awake x.cycle).trans ⟨rfl, .of_spine rfl, rfl⟩

end

theorem cyc_allowed {f : Frame} (cyc : f.kind = .cyc) (st : StopState) : forbiddenAtTake st f = false := by
  simp [forbiddenAtTake, cyc]

/-- What the frame and its count leave of a part that is not PARKED, up to the blocks. -/
theorem cycOffered (s : State) (now : Nat) {f : Frame} (cyc : f.kind = .cyc) (awake : s.stop.state ≠ .parked) (x) :
    let s0 := offerQueueD f (cycRecorded x (linkGood .u (s.withTimebase now)))
    s0.stop = s.stop ∧ OfferedToD f s s0 := by
  have counted : CountedAtU s (cycRecorded x (linkGood .u (s.withTimebase now))) := by
    have timed : CountedAtU s (s.withTimebase now) := ⟨rfl, .of_spine rfl, rfl⟩
    have linked : CountedAtU s (linkGood .u (s.withTimebase now)) := timed.trans (linkGood_counted (by exact awake))
    exact linked.trans (cycRecorded_counted (by rwa [linked.stop]) x)
  have awake' : (cycRecorded x (linkGood .u (s.withTimebase now))).stop.state ≠ .parked := by rwa [counted.stop]
  exact ⟨(offerQueueD_awake awake' f).trans counted.stop,
    (offerQueueD_offered awake' (cyc_allowed cyc _)).before counted.d⟩

theorem cycReceived_cyc (s : State) (now : Nat) (order : List CycBlock) (f : Frame) (empty : s.spine.receivingU = [])
    (cyc : f.kind = .cyc) (length : f.payload.length = 12) :
    let x := cycFields f.payload
    let reading := max s.timebase now
    let good : State := linkGood .u { s with timebase := reading }
    let arrival : Arrival := ⟨true, x, s.cycle.last.map fun l => (x.cycle - l).toNat⟩
    ∃ (blocks : List CycBlock) (s0 : State),
      exec (.cycReceived now order f.wire) s = .next (blocks.foldl (cycTaken arrival) s0)
        ∧ blocks.Perm cycBlocks ∧ (order.Perm cycBlocks → blocks = order)
        ∧ s0 = (if s.stop.state == .parked then cycRecorded x good else offerQueueD f (cycRecorded x good)) := by
  intro x reading good arrival
  obtain ⟨perm, stands⟩ := completeOrder_cycBlocks order
  refine ⟨completeOrder cycBlocks order, _, ?_, perm, stands, rfl⟩
  have cycle : good.cycle = s.cycle := (linkGood_frame .u (s.withTimebase reading)).2.2.2.2.2.1
  rw [exec_cycReceived empty cyc length, cycArrives_dispatches, dispatchCyc_eq]
  show Host.Outcome.next (List.foldl (cycTaken ⟨true, x, good.cycle.step x.cycle⟩) _ _) = _
  rw [cycle]
  rfl

/-- What a good frame on U leaves, whatever the stop state. -/
theorem linkGood_u_stands (s : State) :
    (linkGood .u s).recorder = s.recorder ∧ (linkGood .u s).store = s.store ∧ (linkGood .u s).player = s.player
      ∧ (linkGood .u s).env = s.env ∧ (linkGood .u s).gate = s.gate := by
  have change : ∀ r new why,
      (changePort .u r new why s).recorder = s.recorder ∧ (changePort .u r new why s).store = s.store
        ∧ (changePort .u r new why s).player = s.player ∧ (changePort .u r new why s).env = s.env
        ∧ (changePort .u r new why s).gate = s.gate := by
    intro r new why
    simp [changePort]
  have window : ∀ r, (countWindow .u 0 r s).recorder = s.recorder ∧ (countWindow .u 0 r s).store = s.store
      ∧ (countWindow .u 0 r s).player = s.player ∧ (countWindow .u 0 r s).env = s.env
      ∧ (countWindow .u 0 r s).gate = s.gate := by
    intro r
    unfold countWindow endWindow
    dsimp only
    repeat' split
    · exact change _ _ _
    · exact ⟨rfl, rfl, rfl, rfl, rfl⟩
    · exact change _ _ _
    · exact ⟨rfl, rfl, rfl, rfl, rfl⟩
    · exact ⟨rfl, rfl, rfl, rfl, rfl⟩
    · exact ⟨rfl, rfl, rfl, rfl, rfl⟩
  unfold linkGood
  dsimp only
  repeat' split
  · exact change _ _ _
  · exact ⟨rfl, rfl, rfl, rfl, rfl⟩
  · exact ⟨rfl, rfl, rfl, rfl, rfl⟩
  · exact window _
  · exact window _
  · exact ⟨rfl, rfl, rfl, rfl, rfl⟩

/-- The records that stand up to the blocks. -/
structure BeforeBlocks (s : State) (reading : Nat) (u : State) : Prop where
  timebase : u.timebase = reading
  recorder : u.recorder = s.recorder
  store : u.store = s.store
  player : u.player = s.player
  cues : u.cues = s.cues
  pose : u.pose = s.pose
  gate : u.gate = s.gate
  lens : u.lens = s.lens
  env : u.env = s.env
  pins : u.pins = s.pins
  config : u.stop.config = s.stop.config
  gesture : u.stop.gesture = s.stop.gesture
  lampMap : u.stop.lampMap = s.stop.lampMap

theorem linkGood_before (s : State) (reading : Nat) :
    BeforeBlocks s reading (linkGood .u (s.withTimebase reading)) := by
  obtain ⟨recorder, store, player, env, gate⟩ := linkGood_u_stands (s.withTimebase reading)
  exact
    { timebase := by simp
      recorder := recorder, store := store, player := player
      cues := by simp
      pose := by simp
      gate := gate
      lens := by simp
      env := env
      pins := by simp
      config := by simp
      gesture := by simp
      lampMap := by simp }

theorem BeforeBlocks.recorded {s u : State} {reading : Nat} (h : BeforeBlocks s reading u) (x : CycFields) :
    BeforeBlocks s reading (cycRecorded x u) := by
  obtain ⟨timebase, recorder, store, player, cues, pose, gate, lens, env, pins, config, gesture, lampMap, -⟩ :=
    stepCounted_stands u x.cycle
  exact
    { timebase := timebase.trans h.timebase
      recorder := recorder.trans h.recorder, store := store.trans h.store, player := player.trans h.player
      cues := cues.trans h.cues, pose := pose.trans h.pose, gate := gate.trans h.gate, lens := lens.trans h.lens
      env := env.trans h.env, pins := pins.trans h.pins, config := config.trans h.config
      gesture := gesture.trans h.gesture, lampMap := lampMap.trans h.lampMap }

theorem BeforeBlocks.offered {s u : State} {reading : Nat} (h : BeforeBlocks s reading u) (parked : Bool) (f : Frame) :
    BeforeBlocks s reading (if parked then u else offerQueueD f u) := by
  obtain ⟨timebase, recorder, store, player, cues, pose, gate, lens, env, pins, config, gesture, lampMap⟩ := h
  split <;> constructor <;> simp [*]

end Sys2Proof.Machine
end

section
/-! PROOFS. A good CYC received on U: the blocks' takings put together (R6 to R8). -/

namespace Sys2Proof.Machine

/-- One taking by the Pose Unit: ages, FEEDBACK_LOST and STALE with notice 12. -/
theorem poseArrival_acts {s t : State} (taken : t = poseArrival s) :
    let age (k : Axis) : Nat :=
      if s.pose.entries[k].present then min 15 (s.pose.entries[k].age + 1) else s.pose.entries[k].age
    let beyond (k : Axis) : Bool := decide (s.pose.axes[k].ageLimit < age k)
    let lost (k : Axis) : Bool := s.pose.axes[k].valid && (!s.pose.entries[k].present || beyond k)
    let stale (i : Fin 3) : Bool :=
      s.pose.axes[lensAxis i].valid && s.pose.entries[lensAxis i].present && beyond (lensAxis i)
    (∀ k : Fin 10, t.pose.entries[k] = { s.pose.entries[k] with age := age k })
      ∧ t.pose = { s.pose with entries := t.pose.entries }
      ∧ (t.stop.present[Cause.feedbackLost.code] = true ↔ ∃ k : Axis, k.val ≤ 6 ∧ lost k = true)
      ∧ (∀ i : Fin 3, t.lens.stale[i] = stale i) ∧ t.lens = { s.lens with stale := t.lens.stale }
      ∧ Occurrences 12
        (((List.finRange 3).filter fun i => stale i && !s.lens.stale[i]).map fun i => [u8 (i.val + 7), 0x01#8]) s t
      ∧ t.env = s.env ∧ t.cues = s.cues ∧ t.cycle = s.cycle := by
  have pose := poseArrival_pose s
  have entered := poseArrival_entries s
  have axes : (poseArrival s).pose.axes = s.pose.axes := by simp
  have flags := (staleAgrees_iff (s := poseArrival s)).1 (staleAgrees_poseArrival s)
  have notices := poseArrival_notices s
  have lostMirrors := poseArrival_lost s
  have lens := poseArrival_lens s
  have rest : (poseArrival s).env = s.env ∧ (poseArrival s).cues = s.cues ∧ (poseArrival s).cycle = s.cycle := by simp
  rw [agedState_pose, ← entered] at pose
  rw [← taken] at pose entered axes flags notices lostMirrors lens rest
  intro age beyond lost stale
  have entries : ∀ k : Fin 10, t.pose.entries[k] = { s.pose.entries[k] with age := age k } := fun k => by
    rw [entered, ← PoseEntry.aged_eq]
    simp
  have lostAt : ∀ k : Axis, t.pose.lost k = lost k := fun k => by
    rw [Pose.lost, entries, axes]
  have staleAt : ∀ i : Fin 3, t.pose.isStale (lensAxis i) = stale i := fun i => by
    rw [Pose.isStale, entries, axes]
  simp only [staleAt] at notices
  refine ⟨entries, pose, ?_, fun i => (flags i).trans (staleAt i), lens, notices, rest⟩
  rw [lostMirrors, anyLost_iff]
  simp only [lostAt]

/-- One taking by the Take Recorder. -/
theorem recorderArrival_acts {cycle : CycleNo} {timecode : Timecode} {s t : State}
    (taken : t = recorderArrival cycle timecode s) :
    (s.recorder.state = .idle → t = s)
      ∧ ∀ k : Fin 32, s.recorder.take = some k →
        (s.recorder.state = .armed →
            t.recorder = { s.recorder with state := .recording, openCycle := some cycle, repeats := 0 }
              ∧ t.store =
                { s.store with
                  takes :=
                    s.store.takes.set k.val
                      { s.store.takes[k] with
                        state := .recording, mask := s.recorder.mask, samples := 0, start := timecode
                        prints := s.recorder.prints } }
              ∧ t.gate = s.gate ∧ t.player = s.player ∧ t.pose = s.pose ∧ t.stop.state = s.stop.state)
          ∧ ∀ c : CycleNo, s.recorder.state = .recording → s.recorder.openCycle = some c →
            t = recorderCycle cycle s := by
  refine ⟨fun idle => ?_, fun k take => ⟨fun armed => ?_, fun c records opened => ?_⟩⟩
  · simp only [taken, recorderArrival, idle]
  · have arrived : t = startRecording k cycle timecode s := by
      simp only [taken, recorderArrival, armed, take]
    rw [arrived]
    exact ⟨rfl, rfl, rfl, rfl, rfl, rfl⟩
  · simp only [taken, recorderArrival, records]

/-- What the blocks leave of the records that no CYC changes. -/
theorem foldl_cycTaken_rest {s s0 : State} {reading : Nat} (before : BeforeBlocks s reading s0) (a : Arrival)
    (blocks : List CycBlock) :
    let t := blocks.foldl (cycTaken a) s0
    t.timebase = reading ∧ t.pose.axes = s.pose.axes ∧ t.pose.geometry = s.pose.geometry ∧ t.env = s.env
      ∧ t.pins = s.pins ∧ t.stop.config = s.stop.config ∧ t.stop.gesture = s.stop.gesture
      ∧ t.stop.lampMap = s.stop.lampMap := by
  simp [before.timebase, before.pose, before.env, before.pins, before.config, before.gesture, before.lampMap]

/-- Settles O7: the frame counted and recorded, offered to D, and taken by each block once; block by block, what the
taking leaves. -/
theorem cycReceivedActs : Obligations.CycReceivedActs := by
  refine ⟨fun s now order f empty cyc length => ?received, fun a s => ?supervisor, fun a s => poseArrival_acts rfl,
    fun a s => ?recorder, fun a s => ⟨fun fromU => if_pos fromU, fun own => if_neg (by simp [own]), rfl⟩⟩
  case received =>
    intro x reading step missed record good
    obtain ⟨blocks, s0, runs, perm, named, offered⟩ := cycReceived_cyc s now order f empty cyc length
    have linked : BeforeBlocks s reading good := linkGood_before s reading
    have before : BeforeBlocks s reading s0 := offered ▸ (linked.recorded x).offered _ f
    have goodCycle : good.cycle = s.cycle := (linkGood_frame .u (s.withTimebase reading)).2.2.2.2.2.1
    have counted : cycRecorded x good = { stepCounted x.cycle good with cycle := record } := by
      rw [cycRecorded, goodCycle, linked.timebase]
      rfl
    have cycle : s0.cycle = record := by
      rw [offered, cycOffer_cycle]
      exact congrArg State.cycle counted
    have took := dispatched_took perm ⟨true, x, step⟩ s0
    obtain ⟨sync, substitute, syncMirrors⟩ := took.fromU rfl
    have entries := dispatched_entries perm ⟨true, x, step⟩ s0
    simp only [before.pose] at entries
    rw [before.timebase, before.config] at sync
    have taken := (foldl_cycTaken_cycle ⟨true, x, step⟩ blocks s0).trans cycle
    have rest := foldl_cycTaken_rest before ⟨true, x, step⟩ blocks
    obtain ⟨grip, gripMirrors, console, consoleMirrors, -, -⟩ := took
    generalize folded : blocks.foldl (cycTaken ⟨true, x, step⟩) s0 = t at *
    obtain ⟨timebase, axes, geometry, env, pins, config, gesture, lampMap⟩ := rest
    refine ⟨t, runs, taken, timebase, grip, gripMirrors, console, consoleMirrors, sync, syncMirrors, substitute, entries,
      axes, geometry, env, pins, config, gesture, lampMap, blocks, stepCounted x.cycle good, s0, perm, named, folded.symm,
      fun here => ?_, fun none => ?_, fun parked => ?_, fun awake => ?_, before.recorder, before.store, before.player,
      before.cues, before.pose, before.gate, before.lens, fun parked => ?_, fun awake => ?_⟩
    · exact stepCounted_missed good x.cycle (by rw [goodCycle]; exact here)
    · exact stepCounted_next good x.cycle (by rw [goodCycle]; exact none)
    · rw [offered, parked, ← counted]
      rfl
    · rw [offered, beq_false_of_ne awake, ← counted]
      rfl
    · obtain ⟨-, -, -, -, -, -, -, -, -, -, -, -, -, queue⟩ := stepCounted_stands good x.cycle
      rw [offered, parked]
      exact queue.trans (linkGood_queueD (s.withTimebase reading))
    · rw [offered, beq_false_of_ne awake]
      exact cycOffered s reading cyc awake x
  case supervisor =>
    obtain ⟨u, v, w, fromU, own, slips, stays, handed, other, held, ramps⟩ := stopArrival_steps a s
    refine ⟨u, v, w, fromU, own, slips, stays, handed, other, fun state => ?_, fun slip => ?_⟩
    · have completed := complete_iff w.stop.gesture (Detector.step w.stop.gesture a.fields.grip w.stop.detector)
      exact ⟨fun here => (held state).trans (if_pos (completed.2 here)),
        fun none => (held state).trans (if_neg fun here => none (completed.1 here))⟩
    · obtain ⟨ramp, trip⟩ := ramps slip
      rw [other (by simp [ramp])]
      exact ⟨ramp, trip⟩
  case recorder =>
    obtain ⟨idle, acts⟩ := recorderArrival_acts (show cycTaken a s .takeRecorder = _ from rfl)
    refine ⟨idle, fun k take => ⟨(acts k take).1, fun c records opened => ?_⟩⟩
    have taken : cycTaken a s .takeRecorder = recorderCycle a.fields.cycle s := (acts k take).2 c records opened
    intro d n written
    refine ⟨fun old => ?_, fun least most bound => ⟨fun st all => ?_, fun m st fewer some full => ?_⟩⟩
    · exact taken.trans (recorderCycle_old records take opened old)
    · exact (taken.trans (recorderCycle_newer records take opened least most)).trans (closeSamples_all bound all)
    · obtain ⟨recorder, store, notice⟩ :=
        closeSamples_ends (cycle := a.fields.cycle) records take fewer some full
      rw [taken, recorderCycle_newer records take opened least most]
      exact ⟨recorder, store, notice.occurrences, by simp, by simp, by simp⟩

end Sys2Proof.Machine
end

section
/-! PROOFS. The Command Gate: the tests of a setpoint, and what it hands on (R86 to R92, R154, R157, R173, R175). -/

namespace Sys2Proof.Machine

/-! ## The acceptance tests (R86) -/

section
variable {src : Source} {k : Axis} {s : State}

/-- Tests 1 to 3. -/
def Withholds (k : Axis) (s : State) : Prop :=
  s.pose.axes[k].valid = false ∨ (k.val ≤ 6 ∧ s.stop.state ≠ .run)
    ∨ (7 ≤ k.val ∧ (s.stop.state = .cut ∨ s.stop.state = .parked))
    ∨ ∃ i : Fin 3, k = lensAxis i ∧ s.lens.fault[i] = true

/-- Tests 4 and 5. -/
def Overrides (src : Source) (k : Axis) (s : State) : Prop :=
  src = .console ∧ (s.player.mask[k] = true ∨ (k.val = 7 ∧ s.lens.follow.on = true))

/-- Test 6. -/
def Unseeded (k : Axis) (s : State) : Prop := s.gate.last[k] = none ∧ s.pose.entries[k].present = false

theorem stopForbids_iff (st : StopState) (k : Axis) :
    stopForbids st k = true ↔ (k.val ≤ 6 ∧ st ≠ .run) ∨ (7 ≤ k.val ∧ (st = .cut ∨ st = .parked)) := by
  by_cases motion : k.val ≤ 6
  · simp [stopForbids, isMotion, motion]
    omega
  · simp [stopForbids, isMotion, motion]
    omega

theorem lensFaulted_iff : lensFaulted s k = true ↔ ∃ i : Fin 3, k = lensAxis i ∧ s.lens.fault[i] = true := by
  have faulted : ∀ i, s.lens.status i = .fault ↔ s.lens.fault[i] = true := by
    intro i
    unfold Lens.status
    split
    · simp [*]
    · split <;> simp [*]
  unfold lensFaulted
  split
  next i lens =>
    obtain rfl := lensOf_eq_some lens
    rw [beq_iff_eq, faulted]
    refine ⟨fun fault => ⟨i, rfl, fault⟩, fun ⟨j, same, fault⟩ => ?_⟩
    have : i = j := Fin.ext (by simpa [lensAxis] using same)
    rwa [this]
  next motion =>
    refine ⟨fun none => absurd none Bool.false_ne_true, fun ⟨i, same, _⟩ => ?_⟩
    rw [same, lensOf_lensAxis] at motion
    cases motion

/-- The first three tests taken together. -/
theorem withholds_iff :
    Withholds k s ↔
      s.pose.axes[k].valid = false ∨ stopForbids s.stop.state k = true ∨ lensFaulted s k = true := by
  rw [stopForbids_iff, lensFaulted_iff, Withholds, or_assoc]

theorem overrides_iff :
    Overrides src k s ↔
      (src == .console && s.player.mask[k]) = true ∨ (src == .console && k == 7 && s.lens.follow.on) = true := by
  have seven : k.val = 7 ↔ k = 7 := ⟨fun h => Fin.ext h, fun h => congrArg Fin.val h⟩
  simp only [Overrides, Bool.and_eq_true, beq_iff_eq, seven, ← and_or_left, and_assoc]

theorem acceptance_withheld (withholds : Withholds k s ∨ (¬Overrides src k s ∧ Unseeded k s)) :
    acceptance src k s = .withheld := by
  unfold acceptance
  by_cases early : Withholds k s
  · obtain invalid | forbids | faulted := withholds_iff.1 early
    · exact if_pos (by rw [invalid]; rfl)
    · rw [if_pos forbids, ite_self]
    · rw [if_pos faulted, ite_self, ite_self]
  · obtain ⟨stays, none, absent⟩ := withholds.resolve_left early
    rw [overrides_iff, not_or] at stays
    obtain ⟨four, five⟩ := stays
    have six : (s.gate.last[k].isNone && !s.pose.entries[k].present) = true := by rw [none, absent]; rfl
    rw [if_neg four, if_neg five, if_pos six, ite_self, ite_self, ite_self]

theorem acceptance_passes (passes : ¬Withholds k s) :
    acceptance src k s =
      if src == .console && s.player.mask[k] then .overridden
      else if src == .console && k == 7 && s.lens.follow.on then .overridden
      else if s.gate.last[k].isNone && !s.pose.entries[k].present then .withheld
      else .accepted := by
  simp only [withholds_iff, not_or, Bool.not_eq_true] at passes
  obtain ⟨valid, allowed, sound⟩ := passes
  unfold acceptance
  rw [if_neg (by simpa using valid), if_neg (by simp [allowed]), if_neg (by simp [sound])]

theorem acceptance_overridden (passes : ¬Withholds k s) (overrides : Overrides src k s) :
    acceptance src k s = .overridden := by
  rw [acceptance_passes passes]
  obtain four | five := overrides_iff.1 overrides
  · rw [if_pos four]
  · rw [if_pos five, ite_self]

theorem acceptance_accepted (passes : ¬Withholds k s) (stays : ¬Overrides src k s) (seeded : ¬Unseeded k s) :
    acceptance src k s = .accepted := by
  rw [overrides_iff, not_or] at stays
  obtain ⟨four, five⟩ := stays
  have seeded' : ¬(s.gate.last[k].isNone && !s.pose.entries[k].present) = true := fun unseeded => seeded (by
    simpa [Unseeded] using unseeded)
  rw [acceptance_passes passes, if_neg four, if_neg five, if_neg seeded']

/-- A setpoint that passes the tests is of a part that is not PARKED, and its SET is not forbidden at D. -/
theorem passes_awake (passes : ¬Withholds k s) :
    s.stop.state ≠ .parked ∧ ∀ cycle value, forbiddenAtTake s.stop.state (setFrame k cycle value) = false := by
  simp only [withholds_iff, not_or, Bool.not_eq_true] at passes
  obtain ⟨-, allowed, -⟩ := passes
  have address : ∀ cycle value, (setFrame k cycle value).address.toNat = k.val := fun cycle value => by
    simp only [setFrame, BitVec.toNat_ofNat]
    omega
  refine ⟨fun parked => ?_, fun cycle value => ?_⟩
  · have forbids : stopForbids s.stop.state k = true := (stopForbids_iff _ _).2 (by rw [parked]; simp; omega)
    simp [allowed] at forbids
  · rw [← Bool.not_eq_true]
    intro forbidden
    have forbids : stopForbids s.stop.state k = true := by
      simp only [forbiddenAtTake, address, Bool.and_eq_true, Bool.or_eq_true, decide_eq_true_eq, bne_iff_ne,
        beq_iff_eq] at forbidden
      obtain ⟨-, motion | ⟨lens, state⟩⟩ := forbidden
      · exact (stopForbids_iff _ _).2 (.inl motion)
      · exact (stopForbids_iff _ _).2 (.inr ⟨lens.1, state⟩)
    simp [allowed] at forbids

end

/-! ## The recorder at a composed SET (R154, R157) -/

section
variable {s : State} {k : Axis} {v : Int} {cycle : CycleNo} {q : Fin 32} {c : CycleNo}

/-- The recorder with a value for a masked axis. -/
def Recorder.buffered (r : Recorder) (k : Axis) (v : Int) : Recorder :=
  { r with buffer := if r.mask[k] then r.buffer.set k.val v else r.buffer }

theorem bufferValue_eq : bufferValue k v s = s.withRecorder (s.recorder.buffered k v) := by
  unfold bufferValue Recorder.buffered
  split <;> rfl

theorem recorderObserve_idle (idle : s.recorder.state = .idle) : recorderObserve k v cycle s = s := by
  unfold recorderObserve
  rw [idle]

theorem recorderObserve_armed (armed : s.recorder.state = .armed) :
    recorderObserve k v cycle s = s.withRecorder (s.recorder.buffered k v) := by
  unfold recorderObserve
  rw [armed]
  exact bufferValue_eq

section
variable (records : s.recorder.state = .recording) (take : s.recorder.take = some q)
  (opened : s.recorder.openCycle = some c)
include records opened

theorem recorderObserve_recording :
    recorderObserve k v cycle s =
      if (cycle - c).toNat ≤ 32767 then
        (fun s' : State => if s'.recorder.state = .recording then bufferValue k v s' else s') (recorderCycle cycle s)
      else s := by
  unfold recorderObserve
  rw [records, opened]

theorem recorderObserve_older (older : 32768 ≤ (cycle - c).toNat) : recorderObserve k v cycle s = s := by
  rw [recorderObserve_recording records opened, if_neg (by omega)]

include take

theorem recorderObserve_same (same : (cycle - c).toNat = 0) :
    recorderObserve k v cycle s = s.withRecorder (s.recorder.buffered k v) := by
  rw [recorderObserve_recording records opened, if_pos (by omega), recorderCycle_old records take opened (.inl same)]
  exact (if_pos records).trans bufferValue_eq

theorem recorderObserve_newer {st : Store} (least : 1 ≤ (cycle - c).toNat) (most : (cycle - c).toNat ≤ 32767)
    (bound : s.recorder.repeats ≤ 65535)
    (written : writtenSamples q s.recorder.sample s.store (1 + min ((cycle - c).toNat - 1) 3) = some st) :
    recorderObserve k v cycle s =
      (s.withStore st).withRecorder
        { s.recorder.buffered k v with
          openCycle := some cycle
          repeats := min 65535 (s.recorder.repeats + (1 + min ((cycle - c).toNat - 1) 3 - 1)) } := by
  rw [recorderObserve_recording records opened, if_pos most, recorderCycle_newer records take opened least most,
    closeSamples_all bound written]
  exact (if_pos records).trans bufferValue_eq

theorem recorderObserve_ends {m : Nat} {st : Store} (least : 1 ≤ (cycle - c).toNat) (most : (cycle - c).toNat ≤ 32767)
    (fewer : m < 1 + min ((cycle - c).toNat - 1) 3)
    (written : writtenSamples q s.recorder.sample s.store m = some st)
    (full : st.writeSample q s.recorder.sample = none) :
    recorderObserve k v cycle s = closeSamples q (cycle - c).toNat cycle s := by
  obtain ⟨recorder, -⟩ := closeSamples_ends (cycle := cycle) records take fewer written full
  rw [recorderObserve_recording records opened, if_pos most, recorderCycle_newer records take opened least most]
  exact if_neg (by rw [recorder]; decide)

end

theorem writeSamples_stands (t : Fin 32) (n : Nat) : ∀ (u : State) (b : Bool),
    (writeSamples t u n b).1.stop = u.stop ∧ (writeSamples t u n b).1.link = u.link
      ∧ (writeSamples t u n b).1.spine = u.spine := by
  induction n with
  | zero => exact fun u b => ⟨rfl, rfl, rfl⟩
  | succ n ih =>
    intro u b
    unfold writeSamples
    split
    · exact ⟨rfl, rfl, rfl⟩
    · dsimp only
      obtain ⟨stop, link, spine⟩ := ih _ true
      rw [stop, link, spine]
      split <;> exact ⟨rfl, rfl, rfl⟩

/-- Of the stop record the lamps alone changed, and the D side stands. -/
structure LampsAndD (s t : State) : Prop where
  lamps : LampsOnly s t
  d : SameD s t

theorem LampsAndD.refl (s : State) : LampsAndD s s := ⟨.of_stop rfl, .refl s⟩

theorem LampsAndD.trans {t u : State} (h : LampsAndD s t) (g : LampsAndD t u) : LampsAndD s u := by
  refine ⟨?_, h.d.trans g.d⟩
  have lamps := h.lamps
  have lamps' := g.lamps
  unfold LampsOnly at lamps lamps' ⊢
  rw [lamps'] at *
  rw [lamps]

theorem LampsAndD.of_same {t : State} (stop : t.stop = s.stop) (spine : t.spine = s.spine)
    (link : t.link.d = s.link.d) : LampsAndD s t := ⟨.of_stop stop, .of_spine spine, link⟩

theorem LampsAndD.awake {t : State} (h : LampsAndD s t) (awake : s.stop.state ≠ .parked) : t.stop.state ≠ .parked := by
  rw [h.lamps]
  exact awake

theorem endRecording_lampsAndD (awake : s.stop.state ≠ .parked) (e) : LampsAndD s (endRecording e s) :=
  ⟨(lampsOrWoken_endRecording e rfl rfl).resolve_right fun ⟨parked, _⟩ => awake parked, endRecording_sameD awake e⟩

theorem closeSamples_lampsAndD (awake : s.stop.state ≠ .parked) (t d c) : LampsAndD s (closeSamples t d c s) := by
  obtain ⟨stop, link, spine⟩ := writeSamples_stands t (1 + min (d - 1) 3) s false
  have wrote : LampsAndD s (writeSamples t s (1 + min (d - 1) 3) false).1 := .of_same stop spine (by rw [link])
  unfold closeSamples
  split
  next u eq =>
    rw [eq] at wrote
    exact wrote.trans (.of_same rfl rfl rfl)
  next u eq =>
    rw [eq] at wrote
    exact wrote.trans (endRecording_lampsAndD (wrote.awake awake) _)

theorem recorderObserve_lampsAndD (awake : s.stop.state ≠ .parked) (k v c) :
    LampsAndD s (recorderObserve k v c s) := by
  have buffers : ∀ u, LampsAndD u (bufferValue k v u) := fun u => by
    rw [bufferValue_eq]
    exact .of_same rfl rfl rfl
  have cycles : LampsAndD s (recorderCycle c s) := by
    unfold recorderCycle
    split
    · dsimp only
      split
      · exact closeSamples_lampsAndD awake _ _ _
      · exact .refl s
    · exact .refl s
  unfold recorderObserve
  split
  · exact buffers s
  · split
    · dsimp only
      split
      · exact cycles.trans (buffers _)
      · exact cycles
    · exact .refl s
  · exact .refl s

end

/-! ## The history ring and the clamp report (R173, R175) -/

section
variable {s : State} {src : Source} {k : Axis} {v : Int} {cycle : CycleNo}

theorem ringObserve_takes (takes : src = .player ∧ s.player.mask[k] = true) :
    ringObserve src k v cycle s =
      s.withPlayer { s.player with rings := s.player.rings.set k.val (ringTake s.player.rings[k] cycle v) } :=
  if_pos (by simpa using takes)

theorem ringObserve_other (other : src ≠ .player ∨ s.player.mask[k] = false) : ringObserve src k v cycle s = s := by
  refine if_neg ?_
  rw [Bool.and_eq_true, beq_iff_eq]
  rintro ⟨player, masked⟩
  obtain here | here := other
  · exact here player
  · simp [here] at masked

theorem ringTake_replaces {ring : List RingEntry} (known : ∃ e ∈ ring, e.cycle = cycle) :
    ringTake ring cycle v = ring.map fun e => if e.cycle = cycle then ⟨cycle, v⟩ else e :=
  if_pos (by simpa using known)

theorem ringTake_adds {ring : List RingEntry} (new : ∀ e ∈ ring, e.cycle ≠ cycle) :
    ringTake ring cycle v = (if 8 ≤ ring.length then ring.drop 1 else ring) ++ [⟨cycle, v⟩] :=
  if_neg (by simpa using new)

theorem clampReport_reports (latches : latchesClamp src s.player = true) (clear : s.player.clamped = false) :
    clampReport src k cycle s =
      raise 8 ([u8 k.val, src.code] ++ natBE 2 cycle.toNat) (s.withPlayer { s.player with clamped := true }) :=
  if_pos (by simp [latches, clear])

theorem clampReport_quiet (quiet : latchesClamp src s.player = false ∨ s.player.clamped = true) :
    clampReport src k cycle s = s := by
  refine if_neg ?_
  obtain here | here := quiet <;> simp [here]

theorem latchesClamp_iff (p : Player) :
    latchesClamp src p = true ↔ src = .player ∨ (src = .cueing ∧ p.state = .ready) := by
  cases src <;> simp [latchesClamp]

end

end Sys2Proof.Machine
end

section
/-! PROOFS. A setpoint submitted to the gate: the obligation (R83, R86 to R92, R154, R157, R173, R175). -/

namespace Sys2Proof.Machine

theorem offerQueueD_among (f) (s : State) : NotesAmong [14, 0, 16] s (offerQueueD f s) := by
  unfold offerQueueD
  split
  · exact .refl _ s
  split
  · refine .of_same (by simp) (fun _ => ?_) (by simp)
    exact opportunityD_sendingU _
  · exact bumpCounter_among .d .queueDrops s

section
variable (src : Source) (k : Axis) (value : Int) (cycle : CycleNo) (clamped : Bool) (s : State)

/-- The gate's records after an accepted setpoint. -/
def gated : State :=
  s.withGate
    { s.gate with
      clamps := if clamped then s.gate.clamps.set k.val (satInc 65535 s.gate.clamps[k]) else s.gate.clamps
      last := s.gate.last.set k.val (some value) }

/-- The state once the SET of an accepted setpoint has been offered to D. -/
def setOffered : State := offerQueueD (setFrame k cycle value) (gated k value clamped s)

/-- The state once the recorder and the player have taken it. -/
def setComposed : State :=
  ringObserve src k value cycle (recorderObserve k value cycle (setOffered k value cycle clamped s))

theorem gateAccepted_eq (asked : Int) :
    let last := lastOrSeed k s
    let target := s.pose.axes[k].clampTarget asked
    let step := gateStep src k s
    let clamped := clampedOrShortened last asked target step
    gateAccepted src k asked cycle s =
      if clamped then clampReport src k cycle (setComposed src k (slew last target step) cycle clamped s)
      else setComposed src k (slew last target step) cycle clamped s := by
  intro last target step clamped
  unfold gateAccepted composeSet setComposed setOffered gated
  simp only [show clampedOrShortened (lastOrSeed k s) asked (s.pose.axes[k].clampTarget asked) (gateStep src k s) =
    clamped from rfl]
  cases clamped <;> rfl

variable {s}

/-- What the offer of the SET leaves. -/
theorem setOffered_stands (awake : s.stop.state ≠ .parked) :
    let u := setOffered k value cycle clamped s
    u.recorder = s.recorder ∧ u.store = s.store ∧ u.player = s.player ∧ u.gate = (gated k value clamped s).gate
      ∧ u.pose = s.pose ∧ u.env = s.env ∧ u.lens = s.lens ∧ u.cues = s.cues ∧ u.pins = s.pins ∧ u.stop = s.stop
      ∧ NotesAmong [14, 0, 16] s u := by
  have gates : NotesAmong [14, 0, 16] s (gated k value clamped s) := .of_same rfl (fun _ => rfl) fun _ => rfl
  have notes := gates.trans (offerQueueD_among (setFrame k cycle value) _)
  have stop : (setOffered k value cycle clamped s).stop = s.stop := offerQueueD_awake (by exact awake) _
  refine ⟨?_, ?_, ?_, ?_, ?_, ?_, ?_, ?_, ?_, stop, notes⟩ <;> simp [setOffered, gated]

theorem setOffered_offered (awake : s.stop.state ≠ .parked)
    (allowed : forbiddenAtTake s.stop.state (setFrame k cycle value) = false) :
    OfferedToD (setFrame k cycle value) s (setOffered k value cycle clamped s) :=
  (offerQueueD_offered (s := gated k value clamped s) awake allowed).before ⟨.of_spine rfl, rfl⟩

theorem ringObserve_lampsAndD (u : State) : LampsAndD u (ringObserve src k value cycle u) := by
  unfold ringObserve
  split
  · exact .of_same rfl rfl rfl
  · exact .refl u

theorem setComposed_lampsAndD (awake : s.stop.state ≠ .parked) :
    LampsAndD (setOffered k value cycle clamped s) (setComposed src k value cycle clamped s) := by
  obtain ⟨-, -, -, -, -, -, -, -, -, stop, -⟩ := setOffered_stands k value cycle clamped awake
  exact (recorderObserve_lampsAndD (by rwa [stop]) _ _ _).trans (ringObserve_lampsAndD src k value cycle _)

theorem clampReport_lampsAndD {u : State} (awake : u.stop.state ≠ .parked) :
    LampsAndD u (clampReport src k cycle u) := by
  unfold clampReport
  split
  · have raised := raise_sameD (s := u.withPlayer { u.player with clamped := true }) awake 8
      ([u8 k.val, src.code] ++ natBE 2 cycle.toNat)
    have entered : SameD u (u.withPlayer { u.player with clamped := true }) := ⟨.of_spine rfl, rfl⟩
    refine ⟨.of_stop ?_, entered.trans raised⟩
    rw [raise_awake (by exact awake)]
    simp
  · exact .refl u

theorem ringObserve_stands (u : State) :
    let w := ringObserve src k value cycle u
    w.recorder = u.recorder ∧ w.store = u.store ∧ w.gate = u.gate ∧ w.pose = u.pose ∧ w.env = u.env ∧ w.lens = u.lens
      ∧ w.cues = u.cues ∧ w.pins = u.pins ∧ w.player = { u.player with rings := w.player.rings }
      ∧ NotesAmong [] u w := by
  unfold ringObserve
  split
  · exact ⟨rfl, rfl, rfl, rfl, rfl, rfl, rfl, rfl, rfl, .of_same rfl (fun _ => rfl) fun _ => rfl⟩
  · exact ⟨rfl, rfl, rfl, rfl, rfl, rfl, rfl, rfl, rfl, .refl _ u⟩

theorem clampReport_stands (u : State) :
    let w := clampReport src k cycle u
    w.recorder = u.recorder ∧ w.store = u.store ∧ w.gate = u.gate ∧ w.pose = u.pose ∧ w.env = u.env ∧ w.lens = u.lens
      ∧ w.cues = u.cues ∧ w.pins = u.pins ∧ w.player.rings = u.player.rings
      ∧ NotesAmong [8, 0, 16] u w := by
  refine ⟨by simp, by simp, by simp, by simp, by simp, by simp, by simp, by simp, ?_, ?_⟩
  · unfold clampReport
    split <;> simp
  · unfold clampReport
    split
    · have entered : NotesAmong [8, 0, 16] u (u.withPlayer { u.player with clamped := true }) :=
        .of_same rfl (fun _ => rfl) fun _ => rfl
      exact entered.trans (raise_among _ (by decide) (by decide) (by decide) _)
    · exact .refl _ u

end

/-! ## An accepted setpoint (R88 to R92) -/

section
variable {src : Source} {k : Axis} {value : Int} {cycle : CycleNo} {s : State}

/-- What an accepted setpoint leaves, of whichever clamp. -/
structure Accepted (src : Source) (k : Axis) (value : Int) (cycle : CycleNo) (clamped : Bool) (s t : State) : Prop where
  gate : t.gate = (gated k value clamped s).gate
  records : t.recorder = (recorderObserve k value cycle (setOffered k value cycle clamped s)).recorder
    ∧ t.store = (recorderObserve k value cycle (setOffered k value cycle clamped s)).store
  notes : NotesAmong [8, 0, 16] (recorderObserve k value cycle (setOffered k value cycle clamped s)) t
  offered : OfferedToD (setFrame k cycle value) s t
  rings : t.player.rings = (setComposed src k value cycle clamped s).player.rings
  stands : t.pose = s.pose ∧ t.env = s.env ∧ t.lens = s.lens ∧ t.cues = s.cues ∧ t.pins = s.pins ∧ LampsOnly s t

theorem setComposed_accepted (passes : ¬Withholds k s) (clamped : Bool) :
    Accepted src k value cycle clamped s (setComposed src k value cycle clamped s) := by
  obtain ⟨awake, allowed⟩ := passes_awake passes
  obtain ⟨recorder, store, player, gate, pose, env, lens, cues, pins, stop, -⟩ :=
    setOffered_stands k value cycle clamped awake
  have lamps := setComposed_lampsAndD src k value cycle clamped awake
  obtain ⟨recorder', store', gate', pose', env', lens', cues', pins', -, notes⟩ := ringObserve_stands src k value cycle
    (recorderObserve k value cycle (setOffered k value cycle clamped s))
  have composed : setComposed src k value cycle clamped s =
    ringObserve src k value cycle (recorderObserve k value cycle (setOffered k value cycle clamped s)) := rfl
  rw [← composed] at recorder' store' gate' pose' env' lens' cues' pins' notes
  refine ⟨?_, ⟨recorder', store'⟩, notes.mono nofun, ?_, rfl, ?_, ?_, ?_, ?_, ?_, ?_⟩
  · rw [gate', ← gate]
    simp
  · exact (setOffered_offered k value cycle clamped awake (allowed cycle value)).after lamps.d
  · rw [pose', ← pose]
    simp
  · rw [env', ← env]
    simp
  · rw [lens', ← lens]
    simp
  · rw [cues', ← cues]
    simp
  · rw [pins', ← pins]
    simp
  · have only := lamps.lamps
    unfold LampsOnly at only ⊢
    rwa [stop] at only

theorem Accepted.reported {u : State} {clamped : Bool} (passes : ¬Withholds k s)
    (h : Accepted src k value cycle clamped s u) : Accepted src k value cycle clamped s (clampReport src k cycle u) := by
  obtain ⟨awake, -⟩ := passes_awake passes
  obtain ⟨gate, ⟨recorder, store⟩, notes, offered, rings, pose, env, lens, cues, pins, lamps⟩ := h
  obtain ⟨recorder', store', gate', pose', env', lens', cues', pins', rings', notes'⟩ := clampReport_stands src k cycle u
  have awake' : u.stop.state ≠ .parked := by rw [lamps]; exact awake
  have reports := clampReport_lampsAndD src k cycle awake'
  refine ⟨gate'.trans gate, ⟨recorder'.trans recorder, store'.trans store⟩, notes.trans notes', offered.after reports.d,
    rings'.trans rings, pose'.trans pose, env'.trans env, lens'.trans lens, cues'.trans cues, pins'.trans pins, ?_⟩
  have only := reports.lamps
  unfold LampsOnly at lamps only ⊢
  rw [only, lamps]

theorem gateAccepted_accepted (passes : ¬Withholds k s) (asked : Int) :
    Accepted src k (slew (lastOrSeed k s) (s.pose.axes[k].clampTarget asked) (gateStep src k s)) cycle
      (clampedOrShortened (lastOrSeed k s) asked (s.pose.axes[k].clampTarget asked) (gateStep src k s)) s
      (gateAccepted src k asked cycle s) := by
  rw [gateAccepted_eq]
  split
  · exact (setComposed_accepted passes _).reported passes
  · exact setComposed_accepted passes _

end

end Sys2Proof.Machine
end

section
/-! PROOFS. A setpoint submitted to the gate: what its SET brings about, case by case (R83, R86 to R92). -/

namespace Sys2Proof.Machine

/-! ## The seed, the step and the clamp in the words of the obligation -/

section
variable {src : Source} {k : Axis} {asked : Int} {cycle : CycleNo} {s : State}

theorem lastOrSeed_eq (k : Axis) (s : State) :
    lastOrSeed k s =
      (s.gate.last[k]).getD (clampInt s.pose.axes[k].softMin s.pose.axes[k].softMax s.pose.entries[k].position) := by
  unfold lastOrSeed
  cases s.gate.last[k] <;> rfl

theorem gateStep_eq (src : Source) (k : Axis) (s : State) :
    gateStep src k s =
      if k.val ≤ 6 then
        max 1 (s.pose.axes[k].stepMax
          * (if src = .cueing then min s.env.scale.effective s.pose.axes[k].cueScale else s.env.scale.effective) / 16)
      else s.pose.axes[k].stepMax := by
  simp [gateStep, isMotion]

theorem clampedOrShortened_iff {last target : Int} {step : Nat} :
    clampedOrShortened last asked target step = true ↔
      target ≠ asked ∨ (step : Int) < target - last ∨ target - last < -(step : Int) := by
  simp [clampedOrShortened, or_assoc]

/-! ## The recorder -/

variable {value : Int} {clamped : Bool} {t : State}

section
variable (passes : ¬Withholds k s) (accepted : Accepted src k value cycle clamped s t)
include passes accepted

theorem Accepted.recorder_idle (idle : s.recorder.state = .idle) : t.recorder = s.recorder ∧ t.store = s.store := by
  obtain ⟨recorder, store, -⟩ := setOffered_stands k value cycle clamped (passes_awake passes).1
  obtain ⟨records, stores⟩ := accepted.records
  rw [recorderObserve_idle (by rwa [recorder])] at records stores
  exact ⟨records.trans recorder, stores.trans store⟩

theorem Accepted.recorder_armed (armed : s.recorder.state = .armed) :
    t.recorder = s.recorder.buffered k value ∧ t.store = s.store := by
  obtain ⟨recorder, store, -⟩ := setOffered_stands k value cycle clamped (passes_awake passes).1
  obtain ⟨records, stores⟩ := accepted.records
  rw [recorderObserve_armed (by rwa [recorder]), recorder] at records stores
  exact ⟨records, stores.trans store⟩

variable {q : Fin 32} {c : CycleNo} (recording : s.recorder.state = .recording) (take : s.recorder.take = some q)
  (opened : s.recorder.openCycle = some c)
include recording take opened

omit take in
theorem Accepted.recorder_older (older : 32768 ≤ (cycle - c).toNat) : t.recorder = s.recorder ∧ t.store = s.store := by
  obtain ⟨recorder, store, -⟩ := setOffered_stands k value cycle clamped (passes_awake passes).1
  obtain ⟨records, stores⟩ := accepted.records
  rw [recorderObserve_older (by rwa [recorder]) (by rwa [recorder]) older] at records stores
  exact ⟨records.trans recorder, stores.trans store⟩

theorem Accepted.recorder_same (same : (cycle - c).toNat = 0) :
    t.recorder = s.recorder.buffered k value ∧ t.store = s.store := by
  obtain ⟨recorder, store, -⟩ := setOffered_stands k value cycle clamped (passes_awake passes).1
  obtain ⟨records, stores⟩ := accepted.records
  rw [recorderObserve_same (by rwa [recorder]) (by rwa [recorder]) (by rwa [recorder]) same, recorder] at records stores
  exact ⟨records, stores.trans store⟩

variable (least : 1 ≤ (cycle - c).toNat) (most : (cycle - c).toNat ≤ 32767)
include least most

theorem Accepted.recorder_newer {st : Store} (bound : s.recorder.repeats ≤ 65535)
    (written : writtenSamples q s.recorder.sample s.store (1 + min ((cycle - c).toNat - 1) 3) = some st) :
    t.store = st
      ∧ t.recorder =
        { s.recorder.buffered k value with
          openCycle := some cycle
          repeats := min 65535 (s.recorder.repeats + (1 + min ((cycle - c).toNat - 1) 3 - 1)) } := by
  obtain ⟨recorder, store, -⟩ := setOffered_stands k value cycle clamped (passes_awake passes).1
  obtain ⟨records, stores⟩ := accepted.records
  rw [← recorder] at recording take opened bound written
  rw [← store] at written
  rw [recorderObserve_newer recording take opened least most bound written, recorder] at records
  rw [recorderObserve_newer recording take opened least most bound written] at stores
  exact ⟨stores, records⟩

/-- A sample without a page ends the recording. -/
theorem Accepted.recorder_ends {m : Nat} {st : Store} (fewer : m < 1 + min ((cycle - c).toNat - 1) 3)
    (written : writtenSamples q s.recorder.sample s.store m = some st)
    (full : st.writeSample q s.recorder.sample = none) :
    t.recorder = Recorder.initial
      ∧ t.store = st.setTake q { st.takes[q] with state := .closed, endReason := some .storeFull }
      ∧ Occurrences 9 [recordEndDetail q .storeFull st.takes[q].samples st.takes[q].chain.length] s t := by
  obtain ⟨recorder, store, -, -, -, -, -, -, -, -, before⟩ :=
    setOffered_stands k value cycle clamped (passes_awake passes).1
  obtain ⟨records, stores⟩ := accepted.records
  have after := accepted.notes
  rw [← recorder] at recording take opened written full
  rw [← store] at written
  rw [recorderObserve_ends recording take opened least most fewer written full] at records stores after
  obtain ⟨recorder', store', notice⟩ := closeSamples_ends (cycle := cycle) recording take fewer written full
  exact ⟨records.trans recorder', stores.trans store',
    ((notice.before before (by decide)).after after (by decide)).occurrences⟩

end

/-! ## The history ring -/

section
variable (passes : ¬Withholds k s)
include passes

theorem setComposed_player :
    (recorderObserve k value cycle (setOffered k value cycle clamped s)).player = s.player
      ∧ (setComposed src k value cycle clamped s).player =
        { s.player with rings := (setComposed src k value cycle clamped s).player.rings } := by
  obtain ⟨-, -, player, -⟩ := setOffered_stands k value cycle clamped (passes_awake passes).1
  have observed : (recorderObserve k value cycle (setOffered k value cycle clamped s)).player = s.player := by
    rw [← player]
    simp
  obtain ⟨-, -, -, -, -, -, -, -, rings, -⟩ := ringObserve_stands src k value cycle
    (recorderObserve k value cycle (setOffered k value cycle clamped s))
  rw [observed] at rings
  exact ⟨observed, rings⟩

theorem Accepted.rings_stand (accepted : Accepted src k value cycle clamped s t)
    (other : src ≠ .player ∨ s.player.mask[k] = false) : t.player.rings = s.player.rings := by
  obtain ⟨observed, -⟩ := setComposed_player (src := src) (value := value) (cycle := cycle) (clamped := clamped) passes
  rw [accepted.rings, setComposed, ringObserve_other (by rwa [observed]), observed]

theorem Accepted.rings_take (accepted : Accepted src k value cycle clamped s t)
    (takes : src = .player ∧ s.player.mask[k] = true) :
    t.player.rings = s.player.rings.set k.val (ringTake s.player.rings[k] cycle value) := by
  obtain ⟨observed, -⟩ := setComposed_player (src := src) (value := value) (cycle := cycle) (clamped := clamped) passes
  rw [accepted.rings, setComposed, ringObserve_takes (by rwa [observed]), observed]
  rfl

/-! ## The clamp report -/

theorem gateAccepted_player :
    let clamped := clampedOrShortened (lastOrSeed k s) asked (s.pose.axes[k].clampTarget asked) (gateStep src k s)
    let reported : Prop := clamped = true ∧ s.player.clamped = false ∧ latchesClamp src s.player = true
    let t := gateAccepted src k asked cycle s
    (¬reported → t.player = { s.player with rings := t.player.rings })
      ∧ (reported →
        t.player = { s.player with rings := t.player.rings, clamped := true }
          ∧ ∃ u : State, u.player = t.player ∧ u.gate = t.gate ∧ u.recorder = t.recorder ∧ u.store = t.store
            ∧ t = Machine.raise 8 ([u8 k.val, src.code] ++ natBE 2 cycle.toNat) u) := by
  intro clamped reported t
  have eq : t = if clamped then _ else _ := gateAccepted_eq src k cycle s asked
  generalize composed : setComposed src k _ cycle clamped s = u at eq
  have player : u.player = { s.player with rings := u.player.rings } := composed ▸ (setComposed_player passes).2
  have latches : latchesClamp src u.player = latchesClamp src s.player := by
    rw [player]
    rfl
  have clear : u.player.clamped = s.player.clamped := by rw [player]
  by_cases clamps : clamped = true
  · rw [if_pos clamps] at eq
    by_cases reports : s.player.clamped = false ∧ latchesClamp src s.player = true
    · obtain ⟨first, latch⟩ := reports
      refine ⟨fun none => absurd ⟨clamps, first, latch⟩ none, fun _ => ?_⟩
      rw [clampReport_reports (latches.trans latch) (clear.trans first)] at eq
      rw [eq]
      refine ⟨?_, _, ?_, ?_, ?_, ?_, rfl⟩
      · simp only [raise_frame, State.withPlayer_player]
        rw [player]
      · simp
      · simp
      · simp
      · simp
    · refine ⟨fun _ => ?_, fun ⟨_, all⟩ => absurd all reports⟩
      have quiet : latchesClamp src u.player = false ∨ u.player.clamped = true := by
        rw [latches, clear]
        obtain first | latch := not_and_or.1 reports
        · exact .inr (by simpa using first)
        · exact .inl (by simpa using latch)
      rw [clampReport_quiet quiet] at eq
      rw [eq]
      exact player
  · rw [if_neg clamps] at eq
    rw [eq]
    exact ⟨fun _ => player, fun ⟨here, _⟩ => absurd here clamps⟩

end

end

/-- Settles O9: the acceptance tests in their order, and an accepted setpoint followed through the gate, the D queue, the
recorder, the history ring and the clamp report. -/
theorem setpointsAreGated : Obligations.SetpointsAreGated := by
  intro src k asked cycle s r tests123 tests45 test6 t
  have submitted : ∀ x, acceptance src k s = x → t = match x with
      | .withheld => gateWithhold k s
      | .overridden => gateOverride k s
      | .accepted => gateAccepted src k asked cycle s := by
    rintro _ rfl
    rfl
  refine ⟨fun drops => submitted _ (acceptance_withheld drops), fun passes overrides =>
    submitted _ (acceptance_overridden passes overrides), fun passes stays seeded => ?_⟩
  intro last target scale step value shortened
  have t_eq : t = gateAccepted src k asked cycle s := submitted _ (acceptance_accepted passes stays seeded)
  have seed : lastOrSeed k s = last := lastOrSeed_eq k s
  have steps : gateStep src k s = step := gateStep_eq src k s
  have accepted := gateAccepted_accepted (src := src) (cycle := cycle) passes asked
  have reports := gateAccepted_player (src := src) (cycle := cycle) (asked := asked) passes
  have clamp : clampedOrShortened last asked (s.pose.axes[k].clampTarget asked) step = true ↔ shortened :=
    clampedOrShortened_iff
  have slewed : slew last (s.pose.axes[k].clampTarget asked) step = value := rfl
  rw [← t_eq, seed, steps, slewed] at accepted
  rw [← t_eq, seed, steps] at reports
  generalize clampedOrShortened last asked (s.pose.axes[k].clampTarget asked) step = clamped at accepted reports clamp
  have gate := accepted.gate
  obtain ⟨quiet, reported⟩ := reports
  obtain ⟨pose, env, lens, cues, pins, lamps⟩ := accepted.stands
  refine ⟨congrArg Gate.last gate, fun short => ?_, fun whole => ?_, (congrArg Gate.withheld gate).trans rfl,
    (congrArg Gate.overridden gate).trans rfl, (congrArg Gate.refusals gate).trans rfl, accepted.offered,
    ⟨accepted.recorder_idle passes, accepted.recorder_armed passes, fun q c recording take opened => ?_⟩,
    ⟨accepted.rings_stand passes, fun player masked => ?_⟩, ⟨fun none => quiet fun ⟨here, first, latch⟩ => none
      ⟨clamp.1 here, first, (latchesClamp_iff _).1 latch⟩, fun ⟨here, first, latch⟩ => reported
      ⟨clamp.2 here, first, (latchesClamp_iff _).2 latch⟩⟩, pose, env, lens, cues, pins, lamps⟩
  · rw [gate]
    exact if_pos (clamp.2 short)
  · rw [gate]
    exact if_neg fun here => whole (clamp.1 here)
  · exact ⟨accepted.recorder_older passes recording opened, accepted.recorder_same passes recording take opened,
      fun least most bound => ⟨fun st written =>
        accepted.recorder_newer passes recording take opened least most bound written, fun m st fewer written full =>
        accepted.recorder_ends passes recording take opened least most fewer written full⟩⟩
  · rw [accepted.rings_take passes ⟨player, masked⟩]
    refine ⟨fun known => by rw [ringTake_replaces known], fun new => ⟨fun room => ?_, fun full => ?_⟩⟩
    · rw [ringTake_adds new, if_neg (by omega)]
    · rw [ringTake_adds new, if_pos full]

end Sys2Proof.Machine
end

section
/-! PROOFS. A good FBK at the Pose Unit: the pose set row by row, and a completed pose (R47, R49 to R53). -/

namespace Sys2Proof.Machine

/-! ## A full set (R52) -/

theorem fullSet_all {captured : Vector (Option Motion) 4} {motions : Vector Motion 4}
    (all : ∀ j : Fin 4, captured[j] = some motions[j]) : fullSet captured = some motions := by
  unfold fullSet
  have a : captured[0] = some motions[0] := all 0
  have b : captured[1] = some motions[1] := all 1
  have d : captured[2] = some motions[2] := all 2
  have e : captured[3] = some motions[3] := all 3
  rw [a, b, d, e]
  dsimp only
  congr 1
  ext i h
  match i with
  | 0 | 1 | 2 | 3 => rfl

theorem fullSet_missing {captured : Vector (Option Motion) 4} (missing : ∃ j : Fin 4, captured[j] = none) :
    fullSet captured = none := by
  obtain ⟨j, missing⟩ := missing
  unfold fullSet
  split
  next a b d e ha hb hd he =>
    match j with
    | 0 => exact absurd (ha.symm.trans missing) (Option.some_ne_none a)
    | 1 => exact absurd (hb.symm.trans missing) (Option.some_ne_none b)
    | 2 => exact absurd (hd.symm.trans missing) (Option.some_ne_none d)
    | 3 => exact absurd (he.symm.trans missing) (Option.some_ne_none e)
  next => rfl

theorem headConfigured_iff (p : Pose) :
    p.headConfigured = true ↔ p.geometry.valid = true ∧ ∀ j : Fin 4, p.axes[j.val].valid = true := by
  have all : (∀ j : Fin 4, p.axes[j.val].valid = true) ↔
      p.axes[0].valid = true ∧ p.axes[1].valid = true ∧ p.axes[2].valid = true ∧ p.axes[3].valid = true := by
    simp [Fin.forall_fin_succ]
  rw [all, Pose.headConfigured]
  simp only [Bool.and_eq_true, and_assoc]

/-! ## What a completed pose leaves of the envelope and the lenses (R53, R64, R140) -/

section
variable {s u : State} (p : Point) (cycle : CycleNo) (motions : Vector Motion 4)

theorem followSubmission_lens_congr (lens : u.lens = s.lens) :
    (followSubmission p cycle u).lens = (followSubmission p cycle s).lens := by
  unfold followSubmission translate
  rw [lens]
  split
  · dsimp only
    split <;> simp [lens]
  · exact lens

theorem evaluate_env_congr (env : u.env = s.env) (pins : u.pins = s.pins) (axes : u.pose.axes = s.pose.axes)
    (geometry : u.pose.geometry = s.pose.geometry) :
    (evaluate cycle motions p u).env = (evaluate cycle motions p s).env := by
  have points : ∀ counts, headPoint u.pose counts = headPoint s.pose counts := fun counts => by
    simp only [headPoint, axes, geometry]
  have evaluation : evaluationOf u cycle motions p = evaluationOf s cycle motions p := by
    simp only [evaluationOf, projectedPoint, points, axes, geometry, env, pins]
  rw [evaluate_env, evaluate_env, evaluated, evaluated, evaluation]
  simp only [State.setScale, env]
  rfl

theorem followSubmission_cycle (s : State) : (followSubmission p cycle s).cycle = s.cycle := by
  unfold followSubmission
  split
  · exact (submit_cycle _ _ _ _ _).trans (by simp)
  · rfl

end

/-! ## The rows of the pose set (R52) -/

section
variable {first : Bool} {k : Fin 4} {echo : CycleNo} {m : Motion} {s : State} {c : CycleNo}

theorem poseSetTake_first (none : s.pose.set.cycle = none) :
    poseSetTake first k echo m s = s.withPose { s.pose with set := openSet echo k m } := by
  unfold poseSetTake
  rw [none]

section
variable (known : s.pose.set.cycle = some c)
include known

theorem poseSetTake_older (older : 32768 ≤ (echo - c).toNat) : poseSetTake first k echo m s = s := by
  unfold poseSetTake
  rw [known]
  dsimp only
  rw [if_neg (by omega), if_neg (by omega)]

theorem poseSetTake_newer (least : 1 ≤ (echo - c).toNat) (most : (echo - c).toNat ≤ 32767) :
    poseSetTake first k echo m s =
      (if s.pose.set.isOpen then skipPose s else s).withPose { s.pose with set := openSet echo k m } := by
  unfold poseSetTake
  rw [known]
  dsimp only
  rw [if_neg (by omega), if_pos most]
  split <;> rfl

theorem poseSetTake_again (same : (echo - c).toNat = 0)
    (done : s.pose.set.isOpen = false ∨ s.pose.set.captured[k].isSome = true) : poseSetTake first k echo m s = s := by
  unfold poseSetTake
  rw [known]
  dsimp only
  rw [if_pos same, if_neg]
  obtain closed | captured := done
  · rw [closed]
    exact Bool.false_ne_true
  · rw [Option.isNone_eq_false_iff.2 captured, Bool.and_false]
    exact Bool.false_ne_true

theorem poseSetTake_captures (same : (echo - c).toNat = 0) (opened : s.pose.set.isOpen = true)
    (missing : s.pose.set.captured[k] = none) : poseSetTake first k echo m s = captureAxis first echo k m s := by
  unfold poseSetTake
  rw [known]
  dsimp only
  rw [if_pos same, if_pos]
  rw [opened, missing]
  rfl

end

theorem captureAxis_fewer (missing : ∃ j : Fin 4, (s.pose.set.captured.set k.val (some m))[j] = none) :
    captureAxis first echo k m s =
      s.withPose { s.pose with set := ⟨true, some echo, s.pose.set.captured.set k.val (some m)⟩ } := by
  unfold captureAxis
  dsimp only
  rw [fullSet_missing missing]

variable {motions : Vector Motion 4}

theorem captureAxis_full (all : ∀ j : Fin 4, (s.pose.set.captured.set k.val (some m))[j] = some motions[j]) :
    captureAxis first echo k m s =
      completePose first echo motions
        (s.withPose { s.pose with set := ⟨false, some echo, s.pose.set.captured.set k.val (some m)⟩ }) := by
  unfold captureAxis
  dsimp only
  rw [fullSet_all all]

end

/-! ## The taking by the Pose Unit (R47) -/

section
variable (first : Bool) (k : Fin 4) (x : FbkFields) (s : State)

/-- The state with the entry of an FBK. -/
def entryTaken (k : Axis) (x : FbkFields) (s : State) : State :=
  s.withPose { s.pose with entries := s.pose.entries.set k.val (entryOf x) }

theorem poseFeedback_kinematic :
    poseFeedback first ⟨k.val, by omega⟩ x s =
      (fun v : State => handOver .feedbackLost v.pose.anyLost v)
        (poseSetTake first k x.echo ⟨x.position, clampInt (-1048575) 1048575 x.velocity⟩
          (entryTaken ⟨k.val, by omega⟩ x s)) := by
  unfold poseFeedback
  dsimp only
  rw [dif_pos k.isLt, judgeFeedback_motion (by simp only; omega)]
  rfl

/-- The hand-over of FEEDBACK_LOST leaves the pose, the envelope, the lenses, the gate's counts and ZONE. -/
theorem handOver_lost_leaves (b : Bool) (v : State) :
    (handOver .feedbackLost b v).pose = v.pose ∧ (handOver .feedbackLost b v).env = v.env
      ∧ (handOver .feedbackLost b v).lens = v.lens
      ∧ (handOver .feedbackLost b v).gate.clamps = v.gate.clamps
      ∧ (handOver .feedbackLost b v).stop.present[Cause.zone.code] = v.stop.present[Cause.zone.code] := by
  have apart : Cause.feedbackLost.code.val ≠ Cause.zone.code.val := by decide
  refine ⟨by simp, by simp, by simp, by simp, ?_⟩
  rw [handOver_present]
  exact Vector.getElem_set_ne _ _ apart

variable {first k x s}

/-- What the Pose Unit leaves, from what the pose set leaves. -/
theorem fbkTaken_pose_of {v : State}
    (taken : poseSetTake first k x.echo ⟨x.position, clampInt (-1048575) 1048575 x.velocity⟩
      (entryTaken ⟨k.val, by omega⟩ x s) = v) :
    let t := fbkTaken first ⟨k.val, by omega⟩ x s .poseUnit
    t.pose = v.pose ∧ t.env = v.env ∧ t.lens = v.lens ∧ t.gate.clamps = v.gate.clamps
      ∧ t.stop.present[Cause.zone.code] = v.stop.present[Cause.zone.code]
      ∧ t = handOver .feedbackLost v.pose.anyLost v := by
  have eq : fbkTaken first ⟨k.val, by omega⟩ x s .poseUnit = handOver .feedbackLost v.pose.anyLost v := by
    rw [← taken]
    exact poseFeedback_kinematic first k x s
  obtain ⟨pose, env, lens, clamps, zone⟩ := handOver_lost_leaves v.pose.anyLost v
  rw [← eq] at pose env lens clamps zone
  exact ⟨pose, env, lens, clamps, zone, eq⟩

end

/-! ## A completed pose (R53) -/

section
variable (first : Bool) (cycle : CycleNo) (motions : Vector Motion 4) {s u : State}

/-- The completed state before the head position is handed over. -/
def poseCompleted (cycle : CycleNo) (motions : Vector Motion 4) (s : State) : State :=
  s.withPose
    { s.pose with completed := ⟨true, cycle, motions, some (headPoint s.pose fun j => motions[j].position)⟩ }

theorem completePose_unconfigured (unconfigured : ¬s.pose.headConfigured = true) :
    completePose first cycle motions s = s.withPose { s.pose with completed := ⟨true, cycle, motions, none⟩ } :=
  if_neg unconfigured

theorem completePose_configured (configured : s.pose.headConfigured = true) :
    completePose first cycle motions s =
      if first then
        followSubmission (headPoint s.pose fun j => motions[j].position) cycle
          (evaluate cycle motions (headPoint s.pose fun j => motions[j].position) (poseCompleted cycle motions s))
      else
        evaluate cycle motions (headPoint s.pose fun j => motions[j].position)
          (followSubmission (headPoint s.pose fun j => motions[j].position) cycle (poseCompleted cycle motions s)) :=
  if_pos configured

/-- The head position handed over in either order. -/
theorem completePose_leaves (configured : u.pose.headConfigured = true) (env : u.env = s.env) (pins : u.pins = s.pins)
    (axes : u.pose.axes = s.pose.axes) (geometry : u.pose.geometry = s.pose.geometry) (lens : u.lens = s.lens) :
    let p := headPoint s.pose fun j => motions[j].position
    let v := completePose first cycle motions u
    v.pose = { u.pose with completed := ⟨true, cycle, motions, some p⟩ }
      ∧ v.env = (evaluate cycle motions p s).env ∧ v.lens = (followSubmission p cycle s).lens
      ∧ v.stop.present[Cause.zone.code] =
        zoneIntruded s.env.zones (evaluate cycle motions p s).env.evaluation.zones := by
  intro p v
  have point : headPoint u.pose (fun j => motions[j].position) = p := by
    simp only [p, headPoint, axes, geometry]
  have eq := completePose_configured first cycle motions configured
  rw [point] at eq
  have completed : (poseCompleted cycle motions u).pose = { u.pose with completed := ⟨true, cycle, motions, some p⟩ } := by
    rw [← point]
    rfl
  have same : ∀ w : State, w.env = s.env → w.pins = s.pins → w.pose = (poseCompleted cycle motions u).pose →
      (evaluate cycle motions p w).env = (evaluate cycle motions p s).env
        ∧ (evaluate cycle motions p w).stop.present[Cause.zone.code] =
          zoneIntruded s.env.zones (evaluate cycle motions p s).env.evaluation.zones := by
    intro w hEnv hPins hPose
    have congr := evaluate_env_congr (u := w) (s := s) p cycle motions hEnv hPins
      (by rw [hPose, completed]; exact axes) (by rw [hPose, completed]; exact geometry)
    refine ⟨congr, ?_⟩
    rw [evaluate_zone, ← congr, (evaluate_scale cycle motions p w).1, hEnv]
  cases first with
  | true =>
    obtain ⟨evaluated, zone⟩ := same (poseCompleted cycle motions u) env pins rfl
    have v_eq : v = followSubmission p cycle (evaluate cycle motions p (poseCompleted cycle motions u)) := eq
    rw [v_eq]
    refine ⟨?_, ?_, followSubmission_lens_congr p cycle ?_, ?_⟩
    · rw [← completed]
      simp
    · rw [← evaluated]
      simp
    · rw [← lens]
      simp [poseCompleted]
    · rw [← zone]
      simp
  | false =>
    obtain ⟨evaluated, zone⟩ := same (followSubmission p cycle (poseCompleted cycle motions u))
      (by rw [← env]; simp [poseCompleted]) (by rw [← pins]; simp [poseCompleted]) (by simp)
    have v_eq : v = evaluate cycle motions p (followSubmission p cycle (poseCompleted cycle motions u)) := eq
    rw [v_eq]
    refine ⟨?_, evaluated, ?_, zone⟩
    · rw [← completed]
      simp
    · have followed := followSubmission_lens_congr (u := poseCompleted cycle motions u) (s := s) p cycle lens
      rw [← followed]
      simp

end

end Sys2Proof.Machine
end

section
/-! PROOFS. A good FBK at the Pose Unit, the Stop Supervisor, the Take Player and the Lens Unit (R47, R50, R52, R53, R102,
R109, R133, R166, R174). -/

namespace Sys2Proof.Machine

/-! ## The Pose Unit's taking for axes 0 to 3 (R52, R53) -/

/-- The motion that an FBK reports. -/
def motionOf (x : FbkFields) : Motion := ⟨x.position, clampInt (-1048575) 1048575 x.velocity⟩

/-- The completed pose, the lenses and the gate's clamp counts stand. -/
def PoseKept (s t : State) : Prop :=
  t.pose.completed = s.pose.completed ∧ t.lens = s.lens ∧ t.gate.clamps = s.gate.clamps

/-- The state with the entry of the FBK and the full set. -/
def setClosed (k : Fin 4) (x : FbkFields) (s : State) : State :=
  (entryTaken ⟨k.val, by omega⟩ x s).withPose
    { (entryTaken ⟨k.val, by omega⟩ x s).pose with
      set := ⟨false, some x.echo, s.pose.set.captured.set k.val (some (motionOf x))⟩ }

section
variable {first : Bool} {k : Fin 4} {x : FbkFields} {s : State}

/-- A row that completes no pose. -/
theorem fbkTaken_pose_kept {v : State}
    (taken : poseSetTake first k x.echo (motionOf x) (entryTaken ⟨k.val, by omega⟩ x s) = v)
    (completed : v.pose.completed = s.pose.completed) (lens : v.lens = s.lens) (gate : v.gate = s.gate) :
    let t := fbkTaken first ⟨k.val, by omega⟩ x s .poseUnit
    t.pose.set = v.pose.set ∧ t.env = v.env ∧ PoseKept s t := by
  obtain ⟨pose, env, lens', clamps, -⟩ := fbkTaken_pose_of taken
  exact ⟨congrArg Pose.set pose, env, (congrArg Pose.completed pose).trans completed, lens'.trans lens,
    clamps.trans (congrArg Gate.clamps gate)⟩

/-- An FBK that finds no set known opens one. -/
theorem fbkTaken_pose_first (none : s.pose.set.cycle = none) :
    let t := fbkTaken first ⟨k.val, by omega⟩ x s .poseUnit
    t.pose.set = openSet x.echo k (motionOf x) ∧ t.env = s.env ∧ PoseKept s t :=
  fbkTaken_pose_kept (poseSetTake_first (s := entryTaken ⟨k.val, by omega⟩ x s) none) rfl rfl rfl

variable {c : CycleNo} (known : s.pose.set.cycle = some c)
include known

theorem fbkTaken_pose_older (older : 32768 ≤ (x.echo - c).toNat) :
    let t := fbkTaken first ⟨k.val, by omega⟩ x s .poseUnit
    t.pose.set = s.pose.set ∧ t.env = s.env ∧ PoseKept s t :=
  fbkTaken_pose_kept (v := entryTaken ⟨k.val, by omega⟩ x s) (poseSetTake_older (s := entryTaken ⟨k.val, by omega⟩ x s) known older) rfl rfl rfl

/-- A newer echo opens another set, and one that was open is a skipped pose. -/
theorem fbkTaken_pose_newer (least : 1 ≤ (x.echo - c).toNat) (most : (x.echo - c).toNat ≤ 32767) :
    let t := fbkTaken first ⟨k.val, by omega⟩ x s .poseUnit
    t.pose.set = openSet x.echo k (motionOf x) ∧ PoseKept s t
      ∧ (s.pose.set.isOpen = false → t.env = s.env)
      ∧ (s.pose.set.isOpen = true →
        t.env =
          { s.env with
            evaluation := { s.env.evaluation with skipped := satInc 65535 s.env.evaluation.skipped } }) := by
  have row := poseSetTake_newer (first := first) (k := k) (m := motionOf x) (s := entryTaken ⟨k.val, by omega⟩ x s)
    known least most
  by_cases opened : s.pose.set.isOpen = true
  · rw [if_pos (by exact opened)] at row
    obtain ⟨set, env, kept⟩ := fbkTaken_pose_kept row rfl rfl rfl
    exact ⟨set, kept, fun closed => absurd opened (by simp [closed]), fun _ => env⟩
  · rw [if_neg (by exact opened)] at row
    obtain ⟨set, env, kept⟩ := fbkTaken_pose_kept row rfl rfl rfl
    exact ⟨set, kept, fun _ => env, fun here => absurd here opened⟩

theorem fbkTaken_pose_again (same : (x.echo - c).toNat = 0)
    (done : s.pose.set.isOpen = false ∨ s.pose.set.captured[k].isSome = true) :
    let t := fbkTaken first ⟨k.val, by omega⟩ x s .poseUnit
    t.pose.set = s.pose.set ∧ t.env = s.env ∧ PoseKept s t :=
  fbkTaken_pose_kept (v := entryTaken ⟨k.val, by omega⟩ x s) (poseSetTake_again (s := entryTaken ⟨k.val, by omega⟩ x s) known same done) rfl rfl rfl

variable (same : (x.echo - c).toNat = 0) (opened : s.pose.set.isOpen = true)
  (missing : s.pose.set.captured[k] = none)
include same opened missing

theorem fbkTaken_pose_captures (fewer : ∃ j : Fin 4, (s.pose.set.captured.set k.val (some (motionOf x)))[j] = none) :
    let t := fbkTaken first ⟨k.val, by omega⟩ x s .poseUnit
    t.pose.set = ⟨true, some x.echo, s.pose.set.captured.set k.val (some (motionOf x))⟩ ∧ t.env = s.env
      ∧ PoseKept s t :=
  fbkTaken_pose_kept
    ((poseSetTake_captures (s := entryTaken ⟨k.val, by omega⟩ x s) known same opened missing).trans
      (captureAxis_fewer fewer)) rfl rfl rfl

variable {motions : Vector Motion 4}
  (all : ∀ j : Fin 4, (s.pose.set.captured.set k.val (some (motionOf x)))[j] = some motions[j])
include all

theorem poseSetTake_completes :
    poseSetTake first k x.echo (motionOf x) (entryTaken ⟨k.val, by omega⟩ x s) =
      completePose first x.echo motions (setClosed k x s) :=
  (poseSetTake_captures (s := entryTaken ⟨k.val, by omega⟩ x s) known same opened missing).trans
    (captureAxis_full (s := entryTaken ⟨k.val, by omega⟩ x s) all)

theorem fbkTaken_pose_unconfigured (unconfigured : ¬s.pose.headConfigured = true) :
    let t := fbkTaken first ⟨k.val, by omega⟩ x s .poseUnit
    t.pose.set = ⟨false, some x.echo, s.pose.set.captured.set k.val (some (motionOf x))⟩
      ∧ t.pose.completed = ⟨true, x.echo, motions, none⟩ ∧ t.env = s.env ∧ t.lens = s.lens := by
  obtain ⟨pose, env, lens, -⟩ := fbkTaken_pose_of
    ((poseSetTake_completes (first := first) known same opened missing all).trans
      (completePose_unconfigured first x.echo motions (s := setClosed k x s) unconfigured))
  exact ⟨congrArg Pose.set pose, congrArg Pose.completed pose, env, lens⟩

theorem fbkTaken_pose_configured (configured : s.pose.headConfigured = true) :
    let t := fbkTaken first ⟨k.val, by omega⟩ x s .poseUnit
    let p := headPoint s.pose fun j => motions[j].position
    let completed := poseCompleted x.echo motions (setClosed k x s)
    t.pose.set = ⟨false, some x.echo, s.pose.set.captured.set k.val (some (motionOf x))⟩
      ∧ t.pose.completed = ⟨true, x.echo, motions, some p⟩
      ∧ t.env = (evaluate x.echo motions p s).env ∧ t.lens = (followSubmission p x.echo s).lens
      ∧ (∃ u : State,
        (first = true → u = followSubmission p x.echo (evaluate x.echo motions p completed))
          ∧ (first = false → u = evaluate x.echo motions p (followSubmission p x.echo completed))
          ∧ t = handOver .feedbackLost u.pose.anyLost u)
      ∧ (t.stop.present[Cause.zone.code] = true
        ↔ ∃ z : Fin 24, t.env.evaluation.zones[z] = .intrude ∧ s.env.zones[z].kind ≠ .soft) := by
  intro t p completed
  have completes := poseSetTake_completes (first := first) known same opened missing all
  obtain ⟨pose, env, lens, -, zone, eq⟩ := fbkTaken_pose_of completes
  obtain ⟨pose', env', lens', zone'⟩ := completePose_leaves (s := s) (u := setClosed k x s) first x.echo motions configured
    rfl rfl rfl rfl rfl
  have handed := completePose_configured first x.echo motions (s := setClosed k x s) configured
  refine ⟨(congrArg Pose.set pose).trans (congrArg Pose.set pose'),
    (congrArg Pose.completed pose).trans (congrArg Pose.completed pose'), env.trans env', lens.trans lens',
    ⟨_, fun here => ?_, fun here => ?_, eq⟩, ?_⟩
  · rw [handed, if_pos here]
    rfl
  · rw [handed, if_neg (by simp [here])]
    rfl
  · rw [zone, zone', zoneIntruded_iff, ← env', ← env]

end

/-! ## The Pose Unit's taking for any axis (R47, R49, R50) -/

section
variable (first : Bool) (x : FbkFields) (s : State)

theorem completePose_entries (c : CycleNo) (motions : Vector Motion 4) :
    (completePose first c motions s).pose.entries = s.pose.entries := by
  unfold completePose
  split
  · dsimp only
    split <;> simp
  · rfl

theorem poseSetTake_entries (k echo m) : (poseSetTake first k echo m s).pose.entries = s.pose.entries := by
  unfold poseSetTake captureAxis
  dsimp only
  repeat' split
  · rfl
  · exact completePose_entries first _ _ _
  all_goals rfl

theorem judgeFeedback_pose (k : Axis) : (judgeFeedback k s).pose = s.pose := by simp

theorem poseFeedback_entries (k : Axis) : (poseFeedback first k x s).pose.entries = s.pose.entries.set k.val (entryOf x) := by
  unfold poseFeedback
  dsimp only
  rw [judgeFeedback_pose]
  split
  · rw [poseSetTake_entries]
    rfl
  · rfl

theorem poseFeedback_lost {k : Axis} (motion : k.val ≤ 6) :
    Mirrors (poseFeedback first k x s) .feedbackLost (poseFeedback first k x s).pose.anyLost
      ∧ (poseFeedback first k x s).lens.stale = s.lens.stale := by
  have stale : ∀ h : k.val < 4, ∀ u : State, (poseSetTake first ⟨k.val, h⟩ x.echo (motionOf x) u).lens.stale = u.lens.stale :=
    fun h u => (sameStale_poseSetTake ..).stale
  unfold poseFeedback
  dsimp only
  rw [judgeFeedback_motion motion]
  refine ⟨?_, ?_⟩
  · simp [Mirrors, handOver_present]
  · rw [handOver_stale]
    split
    next h => exact stale h _
    next => rfl

/-- An FBK of a lens axis leaves it not stale, for its entry has age 0. -/
theorem poseFeedback_lens (i : Fin 3) :
    poseFeedback first (lensAxis i) x s =
      { s with
        pose := { s.pose with entries := s.pose.entries.set (lensAxis i).val (entryOf x) }
        lens := { s.lens with stale := s.lens.stale.set i.val false } } := by
  have axis : ¬(lensAxis i).val < 4 := by simp only [lensAxis]; omega
  have fresh : (entryTaken (lensAxis i) x s).pose.isStale (lensAxis i) = false := by
    simp [entryTaken, Pose.isStale, entryOf]
  have eq : poseFeedback first (lensAxis i) x s = judgeStale i (entryTaken (lensAxis i) x s) := by
    unfold poseFeedback
    dsimp only
    rw [dif_neg axis, judgeFeedback_lens]
    rfl
  rw [eq]
  unfold judgeStale
  dsimp only
  rw [fresh, Bool.false_and, if_neg Bool.false_ne_true]
  by_cases stale : s.lens.stale[i] = true
  · rw [if_pos (by simpa [entryTaken] using stale)]
    rfl
  · rw [if_neg (by simpa [entryTaken] using stale)]
    have clear : s.lens.stale.set i.val false = s.lens.stale := by
      rw [← show s.lens.stale[i] = false by simpa using stale]
      simp
    rw [clear]
    rfl

end

/-! ## The Stop Supervisor and the Lens Unit (R102, R133) -/

section
variable (first : Bool) (x : FbkFields) (s : State)

theorem stopFeedback_motion (k : Fin 7) :
    stopFeedback ⟨k.val, by omega⟩ x s =
      refreshLamps (judgeStandstill k x.echo (handOver .driveFault s.pose.driveFault s)) := by
  unfold stopFeedback
  rw [dif_pos k.isLt]

theorem stopFeedback_mirrors (k : Fin 7) : Mirrors (stopFeedback ⟨k.val, by omega⟩ x s) .driveFault s.pose.driveFault := by
  rw [stopFeedback_motion]
  simp [Mirrors, handOver_present]

theorem fbkTaken_lens (i : Fin 3) : fbkTaken first (lensAxis i) x s .lensUnit = lensFeedback i x s := by
  unfold fbkTaken
  dsimp only
  rw [lensOf_lensAxis]

theorem fbkTaken_lens_motion {k : Axis} (motion : k.val ≤ 6) : fbkTaken first k x s .lensUnit = s := by
  unfold fbkTaken
  dsimp only
  rw [show lensOf k = none from dif_neg (by omega)]

end

end Sys2Proof.Machine
end

section
/-! PROOFS. A good FBK at the Take Player, and through the blocks in their order (R10, R11, R166, R174). -/

namespace Sys2Proof.Machine

/-! ## The order of an FBK (R10) -/

section
variable {l : List FbkBlock} (perm : l.Perm fbkBlocks)
include perm

theorem fbkBlocks_members : l.Nodup ∧ ∀ b : FbkBlock, b ∈ l :=
  ⟨perm.nodup_iff.2 (by decide), fun b => perm.mem_iff.2 (by cases b <;> decide)⟩

theorem poseBeforeStop_perm : (poseBeforeStop l).Perm l := by
  obtain ⟨once, mem⟩ := fbkBlocks_members perm
  unfold poseBeforeStop
  split
  next =>
    have pose : FbkBlock.poseUnit ∈ l.erase .stopSupervisor := (List.mem_erase_of_ne (by decide)).mpr (mem _)
    obtain ⟨before, after, split, fresh⟩ := List.eq_append_cons_of_mem pose
    have onceSplit := split ▸ once.erase FbkBlock.stopSupervisor
    have rest : FbkBlock.poseUnit ∉ after := (List.nodup_cons.mp (List.nodup_append.mp onceSplit).2.1).1
    have placed : (l.erase .stopSupervisor).flatMap
        (fun b => if b = .poseUnit then [.poseUnit, .stopSupervisor] else [b]) =
        before ++ [.poseUnit] ++ .stopSupervisor :: after := by
      rw [split, List.flatMap_append, List.flatMap_cons, flatMap_of_not_mem fresh, flatMap_of_not_mem rest]
      simp
    rw [placed]
    refine List.perm_middle.trans (.trans ?_ (List.perm_cons_erase (mem .stopSupervisor)).symm)
    rw [split]
    simp
  next => exact .refl l

/-- The order as it is run: before the Pose Unit, between it and the Stop Supervisor, and after that. -/
theorem poseBeforeStop_parts :
    ∃ before between after : List FbkBlock,
      poseBeforeStop l = before ++ .poseUnit :: (between ++ .stopSupervisor :: after)
        ∧ .poseUnit ∉ before ∧ .stopSupervisor ∉ before ∧ .poseUnit ∉ between ∧ .poseUnit ∉ after
        ∧ .stopSupervisor ∉ after := by
  obtain ⟨once, mem⟩ := fbkBlocks_members perm
  obtain ⟨before, rest, split, fresh, out, stop⟩ := poseBeforeStop_split once (mem _) (mem _)
  obtain ⟨between, after, split'⟩ := List.append_of_mem stop
  have onceRun : (poseBeforeStop l).Nodup := (poseBeforeStop_perm perm).nodup_iff.2 once
  rw [split, split', List.nodup_append, List.nodup_cons, List.nodup_append, List.nodup_cons] at onceRun
  obtain ⟨-, ⟨-, -, ⟨last, -⟩, -⟩, apart⟩ := onceRun
  rw [split', List.mem_append, List.mem_cons, not_or, not_or] at out
  obtain ⟨outBetween, -, outAfter⟩ := out
  refine ⟨before, between, after, by rw [split, split'], fresh, fun early => ?_, outBetween, outAfter, last⟩
  exact apart _ early _ (by simp) rfl

theorem poseBeforeStop_index :
    (poseBeforeStop l).idxOf .poseUnit < (poseBeforeStop l).idxOf .stopSupervisor := by
  obtain ⟨before, between, after, split, fresh, early, -⟩ := poseBeforeStop_parts perm
  rw [split, List.idxOf_append_of_notMem fresh, List.idxOf_append_of_notMem early, List.idxOf_cons_self,
    List.idxOf_cons_ne _ (by decide)]
  omega

omit perm in
theorem poseBeforeStop_of_index (index : l.idxOf .poseUnit < l.idxOf .stopSupervisor) : poseBeforeStop l = l :=
  if_neg (by omega)

end

/-! ## What the other blocks leave -/

section
variable {first : Bool} {k : Axis} {x : FbkFields} {s : State}

theorem fbkTaken_other {b : FbkBlock} (other : b ≠ .poseUnit) (s : State) :
    (fbkTaken first k x s b).pose = s.pose
      ∧ (fbkTaken first k x s b).stop.present[Cause.feedbackLost.code] = s.stop.present[Cause.feedbackLost.code] := by
  cases b with
  | poseUnit => exact absurd rfl other
  | stopSupervisor =>
    refine ⟨by simp [fbkTaken], ?_⟩
    have apart : Cause.driveFault.code.val ≠ Cause.feedbackLost.code.val := by decide
    dsimp only [fbkTaken, stopFeedback]
    split
    · simp [handOver_present, Vector.getElem_set_ne, apart]
    · rfl
  | takePlayer => simp [fbkTaken]
  | lensUnit =>
    dsimp only [fbkTaken]
    split
    · simp
    · exact ⟨rfl, rfl⟩

theorem fbkTaken_driveFault {b : FbkBlock} (other : b ≠ .poseUnit) (other' : b ≠ .stopSupervisor) (s : State) :
    (fbkTaken first k x s b).stop.present[Cause.driveFault.code] = s.stop.present[Cause.driveFault.code] := by
  cases b with
  | poseUnit => exact absurd rfl other
  | stopSupervisor => exact absurd rfl other'
  | takePlayer => simp [fbkTaken]
  | lensUnit =>
    dsimp only [fbkTaken]
    split
    · simp
    · rfl

theorem foldl_fbkTaken_other (l : List FbkBlock) (others : FbkBlock.poseUnit ∉ l) : ∀ s : State,
    (l.foldl (fbkTaken first k x) s).pose = s.pose
      ∧ (l.foldl (fbkTaken first k x) s).stop.present[Cause.feedbackLost.code] =
        s.stop.present[Cause.feedbackLost.code] := by
  induction l with
  | nil => exact fun _ => ⟨rfl, rfl⟩
  | cons b rest ih =>
    intro s
    obtain ⟨other, others⟩ := List.ne_and_not_mem_of_not_mem_cons others
    obtain ⟨pose, lost⟩ := fbkTaken_other (first := first) (k := k) (x := x) other.symm s
    obtain ⟨pose', lost'⟩ := ih others (fbkTaken first k x s b)
    exact ⟨pose'.trans pose, lost'.trans lost⟩

theorem foldl_fbkTaken_driveFault (l : List FbkBlock) (others : FbkBlock.poseUnit ∉ l)
    (others' : FbkBlock.stopSupervisor ∉ l) : ∀ s : State,
    (l.foldl (fbkTaken first k x) s).stop.present[Cause.driveFault.code] = s.stop.present[Cause.driveFault.code] := by
  induction l with
  | nil => exact fun _ => rfl
  | cons b rest ih =>
    intro s
    obtain ⟨other, others⟩ := List.ne_and_not_mem_of_not_mem_cons others
    obtain ⟨other', others'⟩ := List.ne_and_not_mem_of_not_mem_cons others'
    exact (ih others others' _).trans (fbkTaken_driveFault other.symm other'.symm s)

/-- The entry, DRIVE_FAULT and FEEDBACK_LOST after every block has taken the FBK. -/
theorem fbkDispatched {l : List FbkBlock} (perm : l.Perm fbkBlocks) (s : State) :
    let t := (poseBeforeStop l).foldl (fbkTaken first k x) s
    t.pose.entries = s.pose.entries.set k.val (entryOf x)
      ∧ (k.val ≤ 6 → Mirrors t .driveFault t.pose.driveFault ∧ Mirrors t .feedbackLost t.pose.anyLost) := by
  obtain ⟨before, between, after, split, fresh, -, outBetween, outAfter, outAfter'⟩ := poseBeforeStop_parts perm
  rw [split, List.foldl_append, List.foldl_cons, List.foldl_append, List.foldl_cons]
  obtain ⟨pose, -⟩ := foldl_fbkTaken_other (first := first) (k := k) (x := x) before fresh s
  generalize before.foldl (fbkTaken first k x) s = u at pose ⊢
  have entries : (fbkTaken first k x u .poseUnit).pose.entries = u.pose.entries.set k.val (entryOf x) :=
    poseFeedback_entries first x u k
  have lost : k.val ≤ 6 → Mirrors (fbkTaken first k x u .poseUnit) .feedbackLost
      (fbkTaken first k x u .poseUnit).pose.anyLost := fun motion => (poseFeedback_lost first x u motion).1
  generalize fbkTaken first k x u .poseUnit = v at entries lost ⊢
  obtain ⟨poseBetween, lostBetween⟩ := foldl_fbkTaken_other (first := first) (k := k) (x := x) between outBetween v
  generalize between.foldl (fbkTaken first k x) v = v1 at poseBetween lostBetween ⊢
  obtain ⟨poseStop, lostStop⟩ := fbkTaken_other (first := first) (k := k) (x := x)
    (show FbkBlock.stopSupervisor ≠ .poseUnit by decide) v1
  have fault : k.val ≤ 6 → Mirrors (fbkTaken first k x v1 .stopSupervisor) .driveFault v1.pose.driveFault :=
    fun motion => stopFeedback_mirrors x v1 ⟨k.val, by omega⟩
  generalize fbkTaken first k x v1 .stopSupervisor = v2 at poseStop lostStop fault ⊢
  obtain ⟨poseAfter, lostAfter⟩ := foldl_fbkTaken_other (first := first) (k := k) (x := x) after outAfter v2
  have faultAfter := foldl_fbkTaken_driveFault (first := first) (k := k) (x := x) after outAfter outAfter' v2
  generalize after.foldl (fbkTaken first k x) v2 = t at poseAfter lostAfter faultAfter ⊢
  have poseAll : t.pose = v.pose := poseAfter.trans (poseStop.trans poseBetween)
  refine ⟨by rw [poseAll, entries, pose], fun motion => ⟨?_, ?_⟩⟩
  · rw [poseAfter, poseStop]
    exact faultAfter.trans (fault motion)
  · rw [poseAll]
    exact lostAfter.trans (lostStop.trans (lostBetween.trans (lost motion)))

end

/-- What the blocks leave of the cycle record. -/
theorem fbkTaken_cycle (first k x) (s : State) (b) : (fbkTaken first k x s b).cycle = s.cycle := by
  have completed : ∀ c motions (u : State), (completePose first c motions u).cycle = u.cycle := by
    intro c motions u
    unfold completePose
    split
    · dsimp only
      split
      · exact (followSubmission_cycle _ _ _).trans (by simp)
      · exact (evaluate_frame _ _ _ _).2.2.2.2.2.1.trans (followSubmission_cycle _ _ _)
    · rfl
  cases b with
  | poseUnit =>
    have set : ∀ j e m (u : State), (poseSetTake first j e m u).cycle = u.cycle := by
      intro j e m u
      unfold poseSetTake captureAxis
      dsimp only
      repeat' split
      · rfl
      · exact completed _ _ _
      · rfl
      · rfl
      · rfl
      · rfl
      · rfl
    dsimp only [fbkTaken, poseFeedback]
    rw [(judgeFeedback_frame _ _).2.2.2.2.2.1]
    split
    · exact set _ _ _ _
    · rfl
  | lensUnit =>
    dsimp only [fbkTaken]
    split <;> simp
  | stopSupervisor | takePlayer => simp [fbkTaken]

theorem foldl_fbkTaken_cycle (first k x) (l : List FbkBlock) : ∀ s : State,
    (l.foldl (fbkTaken first k x) s).cycle = s.cycle := by
  induction l with
  | nil => exact fun _ => rfl
  | cons b rest ih => exact fun s => (ih _).trans (fbkTaken_cycle first k x s b)

end Sys2Proof.Machine
end

section
/-! PROOFS. A good FBK at the Take Player, and the obligation (R10, R11, R166, R174). -/

namespace Sys2Proof.Machine

/-! ## The in-position judgement (R166) -/

section
variable {s : State} {k : Axis} {x : FbkFields} {q : Fin 32}

/-- An axis of the mask is at its target, by the position of the FBK for its own axis and by the entry for another. -/
def Reached (s : State) (q : Fin 32) (k : Axis) (x : FbkFields) (j : Axis) : Prop :=
  let r := s.pose.axes[j]
  let target := clampInt r.softMin r.softMax (s.store.sampleValue q j s.player.index)
  let near (position : Int) : Prop := (position - target).natAbs ≤ r.inPosition
  r.valid = true ∧ (j = k → near x.position)
    ∧ (j ≠ k → s.pose.entries[j].present = true ∧ near s.pose.entries[j].position)

theorem inPosition_iff (j : Axis) : inPosition s q k x j = true ↔ Reached s q k x j := by
  unfold inPosition Reached
  dsimp only
  by_cases same : j = k
  · rw [if_pos same]
    simp [same, AxisRecord.clampTarget]
  · rw [if_neg same]
    by_cases present : s.pose.entries[j].present = true
    · rw [if_pos present]
      dsimp only
      rw [Bool.and_eq_true, decide_eq_true_iff]
      exact and_congr_right fun _ => ⟨fun near => ⟨fun here => absurd here same, fun _ => ⟨present, near⟩⟩,
        fun ⟨_, others⟩ => (others same).2⟩
    · rw [if_neg present]
      simp only [Fin.getElem_fin] at present
      simp [same, present]

theorem judgeInPosition_eq (take : s.player.take = some q) :
    ((∀ j : Axis, s.player.mask[j] = true → Reached s q k x j) → judgeInPosition k x s = enterPlayer .ready s)
      ∧ ((∃ j : Axis, s.player.mask[j] = true ∧ ¬Reached s q k x j) → judgeInPosition k x s = s) := by
  have all : ((FlagSet.members s.player.mask).all fun j => inPosition s q k x j) = true ↔
      ∀ j : Axis, s.player.mask[j] = true → Reached s q k x j := by
    rw [List.all_eq_true]
    exact forall_congr' fun j => imp_congr (by simp [FlagSet.members]) (inPosition_iff j)
  unfold judgeInPosition
  rw [take]
  dsimp only
  refine ⟨fun reached => if_pos (all.2 reached), fun ⟨j, masked, away⟩ => if_neg fun here => ?_⟩
  exact away (all.1 here j masked)

/-! ## The follow check (R174) -/

theorem find_unique {ring : List RingEntry} (once : (ring.map (·.cycle)).Nodup) {e : RingEntry} (mem : e ∈ ring) :
    (ring.find? fun r => r.cycle == e.cycle) = some e := by
  cases found : ring.find? fun r => r.cycle == e.cycle with
  | none => exact absurd (by simp) (List.find?_eq_none.1 found e mem)
  | some r =>
    have same : r.cycle = e.cycle := by simpa using List.find?_some found
    rw [List.inj_on_of_nodup_map once (List.mem_of_find?_eq_some found) mem same]

theorem followCheck_none (unknown : ∀ e ∈ s.player.rings[k], e.cycle ≠ x.echo - BitVec.ofNat 16 s.pose.axes[k].followLag) :
    followCheck k x s = s := by
  have none : followDifferenceOf s k x = none :=
    Option.map_eq_none_iff.2 (List.find?_eq_none.2 fun e mem => by simpa using unknown e mem)
  unfold followCheck
  rw [none]

/-- The player with the peak of an axis raised to a difference. -/
def peaked (k : Axis) (d : Int) (s : State) : State :=
  { s with
    player := { s.player with peaks := s.player.peaks.set k.val (min 16777215 (max s.player.peaks[k] d.natAbs)) } }

section
variable (once : (s.player.rings[k].map (·.cycle)).Nodup) {e : RingEntry} (mem : e ∈ s.player.rings[k])
  (sought : e.cycle = x.echo - BitVec.ofNat 16 s.pose.axes[k].followLag)
include once mem sought

theorem followCheck_some :
    followCheck k x s =
      if s.pose.axes[k].followThreshold < (x.position - e.value).natAbs then
        raise 7 ([u8 k.val] ++ natBE 2 x.echo.toNat ++ intBE 4 (clampInt (-16777215) 16777215 (x.position - e.value)))
          (rampEvent .follow (peaked k (x.position - e.value) s))
      else peaked k (x.position - e.value) s := by
  have some : followDifferenceOf s k x = some (x.position - e.value) := by
    unfold followDifferenceOf
    dsimp only
    rw [← sought, find_unique once mem]
    rfl
  unfold followCheck
  rw [some]
  rfl

end

/-- An event cause in RUN suspends a player at work (R170). -/
theorem rampEvent_player {c : Cause} (run : s.stop.state = .run) (suspends : s.player.state.suspends = true) :
    (rampEvent c s).player.state = .suspended := by
  have player : (offerDecels (ramping (.cause c) s)).player = s.player := by simp [ramping]
  have eq : rampEvent c s = joinTrip c.code (joinPresent (enterRamp (.cause c) s)) := if_pos run
  have joined : ∀ u : State, (joinTrip c.code (joinPresent u)).player = u.player := fun u => by simp
  have entered : (enterRamp (.cause c) s).player = (leaveRun (offerDecels (ramping (.cause c) s))).player := by
    have lamps : ∀ u : State, (refreshLamps u).player = u.player := fun _ => rfl
    rw [enterRamp_eq, lamps]
  rw [eq, joined, entered]
  generalize offerDecels (ramping (.cause c) s) = u at player ⊢
  have works : u.player.state.suspends = true := by
    rw [player]
    exact suspends
  rw [leaveRun_player_suspends works]

theorem followed_inRun {d : List Byte} (run : s.stop.state = .run) (plays : s.player.state = .playing) :
    let t := raise 7 d (rampEvent .follow s)
    t.stop.state = .ramp ∧ t.stop.trip[Cause.follow.code] = true ∧ t.player.state = .suspended := by
  obtain ⟨ramp, -, trip, -⟩ := rampEvent_run (c := .follow) run
  have suspended := rampEvent_player (c := .follow) run (by rw [plays]; rfl)
  dsimp only
  rw [raise_awake (by simp [ramp])]
  have here : (rampEvent .follow s).stop.trip[Cause.follow.code] = true := by
    rw [trip]
    simp
  generalize rampEvent .follow s = u at ramp here suspended ⊢
  simpa using ⟨ramp, here, suspended⟩

end

/-! ## The frame forwarded (R11) -/

theorem axisOf_axis (k : Axis) : axisOf (u8 k.val) = some k := by
  have small := k.isLt
  have value : (u8 k.val).toNat = k.val := by
    simp only [u8, BitVec.toNat_ofNat]
    omega
  unfold axisOf
  rw [dif_pos (by omega)]
  exact congrArg some (Fin.ext value)

theorem exec_fbkReceived {s : State} {f : Frame} (empty : s.spine.receivingD = []) (other : s.inTest = false)
    (fbk : f.kind = .fbk) (length : f.payload.length = 18) (order : FbkOrder) :
    exec (.fbkReceived order f.wire) s = .next (fbkArrives order f (linkGood .d s)) := by
  refine congrArg Host.Outcome.next ((frameBytes_wire (p := .d) empty (fun _ => other) ?_ ?_).trans ?_)
  · rw [fbk]
    rfl
  · rw [fbk, length]
    rfl
  · unfold goodFrame
    rw [fbk]

theorem fbkArrives_axis {f : Frame} {k : Axis} (axis : axisOf f.address = some k) (order : FbkOrder) (s : State) :
    fbkArrives order f s =
      (fun u : State => offerForward (filledFbk f (userValue u k (fbkFields f.payload).position) u) u)
        ((poseBeforeStop (completeOrder fbkBlocks order.blocks)).foldl
          (fbkTaken order.envelopeFirst k (fbkFields f.payload)) s) := by
  unfold fbkArrives
  rw [axis]

theorem fbkArrives_none {f : Frame} (none : axisOf f.address = none) (order : FbkOrder) (s : State) :
    fbkArrives order f s = offerForward (filledFbk f 0 s) s := by
  unfold fbkArrives
  rw [none]

/-! ## The obligation -/

theorem fbkReceived_axis (s : State) (order : FbkOrder) (f : Frame) (k : Axis) (empty : s.spine.receivingD = [])
    (other : s.inTest = false) (fbk : f.kind = .fbk) (length : f.payload.length = 18) (address : f.address = u8 k.val) :
    let x := fbkFields f.payload
    ∃ (s2 : State) (blocks : List FbkBlock),
      exec (.fbkReceived order f.wire) s = .next (offerForward (filledFbk f (userValue s2 k x.position) s2) s2)
        ∧ blocks.Perm fbkBlocks ∧ blocks.idxOf .poseUnit < blocks.idxOf .stopSupervisor
        ∧ (order.blocks.Perm fbkBlocks → order.blocks.idxOf .poseUnit < order.blocks.idxOf .stopSupervisor →
          blocks = order.blocks)
        ∧ s2 = blocks.foldl (fbkTaken order.envelopeFirst k x) (linkGood .d s)
        ∧ s2.pose.entries = s.pose.entries.set k.val (entryOf x)
        ∧ (k.val ≤ 6 → Mirrors s2 .driveFault s2.pose.driveFault ∧ Mirrors s2 .feedbackLost s2.pose.anyLost)
        ∧ s2.pose.axes = s.pose.axes ∧ s2.pose.geometry = s.pose.geometry ∧ s2.cycle = s.cycle ∧ s2.cues = s.cues
        ∧ s2.pins = s.pins ∧ s2.timebase = s.timebase := by
  intro x
  have perm := completeOrder_perm order.blocks fbkBlocks
  have axis : axisOf f.address = some k := address ▸ axisOf_axis k
  obtain ⟨entries, mirrors⟩ := fbkDispatched (first := order.envelopeFirst) (k := k) (x := x) perm (linkGood .d s)
  have cycle := foldl_fbkTaken_cycle order.envelopeFirst k x
    (poseBeforeStop (completeOrder fbkBlocks order.blocks)) (linkGood .d s)
  have pose : (linkGood .d s).pose = s.pose := by simp
  rw [pose] at entries
  refine ⟨_, poseBeforeStop (completeOrder fbkBlocks order.blocks),
    (exec_fbkReceived empty other fbk length order).trans (congrArg Host.Outcome.next (fbkArrives_axis axis order _)),
    (poseBeforeStop_perm perm).trans perm, poseBeforeStop_index perm, fun named index => ?_, rfl, entries, mirrors,
    by simp, by simp, cycle.trans (by simp), by simp, by simp, by simp⟩
  rw [completeOrder_of_perm _ _ named, poseBeforeStop_of_index index]

end Sys2Proof.Machine
end

section
/-! PROOFS. A good FBK received on D: the obligation (R10, R11). -/

namespace Sys2Proof.Machine

theorem filledFbk_eq (f : Frame) (user : Int) (s : State) :
    filledFbk f user s =
      { f with
        payload :=
          f.payload.take 11 ++ [s.stop.state.code, s.player.state.code] ++ natBE 1 s.env.scale.effective
            ++ intBE 4 user } := by
  simp [filledFbk]

/-- The Pose Unit's taking for axes 0 to 3, row by row. -/
theorem fbkTaken_pose_rows (first : Bool) (k : Fin 4) (x : FbkFields) (s : State) :
    let t := fbkTaken first ⟨k.val, by omega⟩ x s .poseUnit
    let captured := s.pose.set.captured.set k.val (some (motionOf x))
    let p (motions : Vector Motion 4) := headPoint s.pose fun j => motions[j].position
    (s.pose.set.cycle = none → t.pose.set = openSet x.echo k (motionOf x) ∧ t.env = s.env ∧ PoseKept s t)
      ∧ ∀ c : CycleNo, s.pose.set.cycle = some c →
        let d := (x.echo - c).toNat
        (32768 ≤ d → t.pose.set = s.pose.set ∧ t.env = s.env ∧ PoseKept s t)
          ∧ (1 ≤ d → d ≤ 32767 →
            t.pose.set = openSet x.echo k (motionOf x) ∧ PoseKept s t
              ∧ (s.pose.set.isOpen = false → t.env = s.env)
              ∧ (s.pose.set.isOpen = true →
                t.env =
                  { s.env with
                    evaluation := { s.env.evaluation with skipped := satInc 65535 s.env.evaluation.skipped } }))
          ∧ (d = 0 → s.pose.set.isOpen = false ∨ s.pose.set.captured[k].isSome = true →
            t.pose.set = s.pose.set ∧ t.env = s.env ∧ PoseKept s t)
          ∧ (d = 0 → s.pose.set.isOpen = true → s.pose.set.captured[k] = none →
            ((∃ j : Fin 4, captured[j] = none) →
                t.pose.set = ⟨true, some x.echo, captured⟩ ∧ t.env = s.env ∧ PoseKept s t)
              ∧ ∀ motions : Vector Motion 4, (∀ j : Fin 4, captured[j] = some motions[j]) →
                (¬s.pose.headConfigured = true → t.pose.set = ⟨false, some x.echo, captured⟩
                  ∧ t.pose.completed = ⟨true, x.echo, motions, none⟩ ∧ t.env = s.env ∧ t.lens = s.lens)
                ∧ (s.pose.headConfigured = true → t.pose.set = ⟨false, some x.echo, captured⟩
                  ∧ t.pose.completed = ⟨true, x.echo, motions, some (p motions)⟩
                  ∧ t.env = (evaluate x.echo motions (p motions) s).env
                  ∧ t.lens = (followSubmission (p motions) x.echo s).lens
                  ∧ (∃ u : State,
                    (first = true → u = followSubmission (p motions) x.echo
                        (evaluate x.echo motions (p motions) (poseCompleted x.echo motions (setClosed k x s))))
                      ∧ (first = false → u = evaluate x.echo motions (p motions)
                        (followSubmission (p motions) x.echo (poseCompleted x.echo motions (setClosed k x s))))
                      ∧ t = handOver .feedbackLost u.pose.anyLost u)
                  ∧ (t.stop.present[Cause.zone.code] = true
                    ↔ ∃ z : Fin 24, t.env.evaluation.zones[z] = .intrude ∧ s.env.zones[z].kind ≠ .soft))) := by
  intro t captured p
  exact ⟨fbkTaken_pose_first, fun c known => ⟨fbkTaken_pose_older known, fbkTaken_pose_newer known,
    fbkTaken_pose_again known, fun same opened missing => ⟨fbkTaken_pose_captures known same opened missing,
      fun motions all => ⟨fbkTaken_pose_unconfigured known same opened missing all,
        fbkTaken_pose_configured known same opened missing all⟩⟩⟩⟩

section
variable {s : State} {k : Axis} {x : FbkFields}

theorem playerFeedback_stands
    (idle : s.player.mask[k] = false ∨ (s.player.state ≠ .cueing ∧ s.player.state ≠ .playing)) :
    playerFeedback k x s = s := by
  unfold playerFeedback
  obtain unmasked | ⟨notCueing, notPlaying⟩ := idle
  · rw [unmasked]
    rfl
  · split
    · split
      next cueing => exact absurd cueing notCueing
      next playing => exact absurd playing notPlaying
      next => rfl
    · rfl

variable (masked : s.player.mask[k] = true)
include masked

theorem playerFeedback_cueing (cueing : s.player.state = .cueing) : playerFeedback k x s = judgeInPosition k x s := by
  unfold playerFeedback
  rw [if_pos masked, cueing]

theorem playerFeedback_playing (plays : s.player.state = .playing) : playerFeedback k x s = followCheck k x s := by
  unfold playerFeedback
  rw [if_pos masked, plays]

end

/-- Settles O10: the FBK through its blocks and onward, and block by block what the taking leaves. -/
theorem fbkReceivedActs : Obligations.FbkReceivedActs := by
  refine ⟨fun s order f k empty other fbk length address => ?received, fun s order f empty other fbk length address =>
    ?unaddressed, fun first k x s => ?rows, fun first k x s => ⟨poseFeedback_entries first x s k, fun motion =>
      poseFeedback_lost first x s motion, fun i axis => ?lens⟩, fun first x s => ⟨fun k lens => dif_neg (by omega),
      fun k => ⟨stopFeedback_motion x s k, stopFeedback_mirrors x s k⟩⟩, fun first x s =>
      ⟨fun k motion => fbkTaken_lens_motion first x s motion, fun i => ?fault⟩, fun first k x s => ?player⟩
  case received =>
    obtain ⟨s2, blocks, runs, perm, index, named, eq, entries, mirrors, axes, geometry, cycle, cues, pins, timebase⟩ :=
      fbkReceived_axis s order f k empty other fbk length address
    rw [filledFbk_eq] at runs
    exact ⟨s2, runs, entries, mirrors, axes, geometry, cycle, cues, pins, timebase, blocks, perm, index, named, eq⟩
  case unaddressed =>
    have none : axisOf f.address = none := dif_neg (by omega)
    have runs := (exec_fbkReceived empty other fbk length order).trans
      (congrArg Host.Outcome.next (fbkArrives_none none order _))
    rw [filledFbk_eq] at runs
    exact runs
  case rows =>
    obtain ⟨opens, known⟩ := fbkTaken_pose_rows first k x s
    refine ⟨opens, fun c here => ?_⟩
    obtain ⟨older, newer, again, captures⟩ := known c here
    refine ⟨older, newer, again, fun same opened missing => ?_⟩
    obtain ⟨fewer, full⟩ := captures same opened missing
    refine ⟨fewer, fun motions all => ?_⟩
    obtain ⟨unconfigured, configured⟩ := full motions all
    by_cases here : s.pose.headConfigured = true
    · obtain ⟨set, completed, env, lens, order, zone⟩ := configured here
      exact ⟨set, fun none => absurd ((headConfigured_iff _).1 here) none, fun _ => ⟨completed, env, lens, order, zone⟩⟩
    · obtain ⟨set, completed, env, lens⟩ := unconfigured here
      exact ⟨set, fun _ => ⟨completed, env, lens⟩, fun all => absurd ((headConfigured_iff _).2 all) here⟩
  case lens =>
    subst axis
    exact poseFeedback_lens first x s i
  case fault =>
    dsimp only
    rw [fbkTaken_lens]
    unfold lensFeedback
    refine ⟨fun fault set => ?_, fun fault clear => ?_, fun ready => ?_, fun others => ?_⟩
    · rw [fault]
      exact if_pos set
    · rw [fault]
      exact if_neg (by rw [clear]; exact Bool.false_ne_true)
    · rw [ready]
      rfl
    · obtain braked | disabled := others
      · rw [braked]
      · rw [disabled]
  case player =>
    refine ⟨playerFeedback_stands, fun q masked cueing take => ?_, fun masked plays => ?_⟩
    · dsimp only [fbkTaken]
      rw [playerFeedback_cueing masked cueing]
      obtain ⟨enters, stays⟩ := judgeInPosition_eq (k := k) (x := x) take
      exact ⟨fun all => ⟨enters all, by rw [enters all, enterPlayer_player]⟩, stays⟩
    · dsimp only [fbkTaken]
      rw [playerFeedback_playing masked plays]
      refine ⟨followCheck_none, fun once e mem sought => ?_⟩
      rw [followCheck_some once mem sought]
      exact ⟨fun within => if_neg (by omega), fun beyond => ⟨if_pos beyond, fun run => by
        rw [if_pos beyond]
        exact followed_inRun run plays⟩⟩

end Sys2Proof.Machine
end

section
/-! PROOFS. A CYC arrival at the Take Player: pacing, cueing and the end of play (R165, R167 to R169). -/

namespace Sys2Proof.Machine

theorem members_pairwise (m : FlagSet 10) : (FlagSet.members m).Pairwise fun j k => j.val < k.val :=
  List.Pairwise.filter _ (List.pairwise_lt_finRange 10)

/-! ## A sample submitted (R165, R167, R168) -/

section
variable {s : State} {t : Fin 32} (take : s.player.take = some t)
include take

theorem submitSample_eq (src : Source) (i : Nat) (cycle : CycleNo) :
    submitSample src i cycle s =
      (FlagSet.members s.player.mask).foldl (fun u k => submit src k (u.store.sampleValue t k i) cycle u) s := by
  unfold submitSample
  rw [take]

/-- The player once a sample is played, before the end of play. -/
def samplePlayed (n : Nat) (cycle : CycleNo) (s : State) : State :=
  let u := submitSample .player n cycle s
  { u with player := { u.player with index := n + 1 } }

theorem playSample_eq (i : Nat) (cycle : CycleNo) :
    let n := min i (s.store.takes[t].samples - 1)
    playSample i cycle s =
      if n = s.store.takes[t].samples - 1 then
        (fun u : State => raise 6 (playDoneDetail u.player t) u) (enterPlayer .holding (samplePlayed n cycle s))
      else samplePlayed n cycle s := by
  intro n
  unfold playSample
  rw [take]
  rfl

end

section
variable (n : Nat) (cycle : CycleNo) (s : State)

theorem samplePlayed_player :
    (samplePlayed n cycle s).player.index = n + 1 ∧ (samplePlayed n cycle s).player.state = s.player.state
      ∧ (samplePlayed n cycle s).player.take = s.player.take ∧ (samplePlayed n cycle s).player.mask = s.player.mask := by
  obtain ⟨state, take, mask, -⟩ := submitSample_player .player n cycle s
  exact ⟨rfl, state, take, mask⟩

/-- With the recorder IDLE a setpoint leaves the store. -/
theorem submit_idle {s : State} (idle : s.recorder.state = .idle) (src k v c) :
    (submit src k v c s).store = s.store ∧ (submit src k v c s).recorder = s.recorder := by
  unfold submit
  split
  · exact ⟨rfl, rfl⟩
  · exact ⟨rfl, rfl⟩
  next accepted =>
    have passes : ¬Withholds k s := fun withholds => by
      rw [acceptance_withheld (.inl withholds)] at accepted
      cases accepted
    exact ((gateAccepted_accepted passes v).recorder_idle passes idle).symm

theorem foldl_submit_idle (src : Source) (t : Fin 32) (i : Nat) (ks : List Axis) : ∀ s : State, s.recorder.state = .idle →
    (ks.foldl (fun u k => submit src k (u.store.sampleValue t k i) cycle u) s).store = s.store := by
  induction ks with
  | nil => exact fun _ _ => rfl
  | cons k rest ih =>
    intro s idle
    obtain ⟨store, recorder⟩ := submit_idle idle src k (s.store.sampleValue t k i) cycle
    exact (ih _ (by rwa [recorder])).trans store

theorem samplePlayed_stands :
    (samplePlayed n cycle s).pose = s.pose ∧ (samplePlayed n cycle s).env = s.env
      ∧ (s.recorder.state = .idle → (samplePlayed n cycle s).store = s.store) := by
  have pose : (submitSample .player n cycle s).pose = s.pose := by simp
  have env : (submitSample .player n cycle s).env = s.env := by simp
  refine ⟨pose, env, fun idle => ?_⟩
  show (submitSample .player n cycle s).store = s.store
  unfold submitSample
  split
  · exact foldl_submit_idle cycle .player _ n _ s idle
  · rfl

end

/-! ## Pacing (R167, R168) -/

section
variable {s : State} {cycle : CycleNo}

theorem isPacing_iff (step : Option Nat) : isPacing step = true ↔ ∃ g : Nat, step = some g ∧ 1 ≤ g ∧ g ≤ 4 := by
  cases step <;> simp [isPacing]

theorem playerArrival_playing (plays : s.player.state = .playing) (step : Option Nat) :
    playerArrival cycle step s =
      if isPacing step then playSample (s.player.index + step.getD 1 - 1) cycle s else s := by
  unfold playerArrival
  rw [plays]

theorem playerArrival_ready (ready : s.player.state = .ready) (step : Option Nat) :
    playerArrival cycle step s =
      if s.player.goPending && isPacing step then
        playSample s.player.index cycle (enterPlayer .playing (s.withPlayer { s.player with goPending := false }))
      else submitSample .cueing s.player.index cycle s := by
  unfold playerArrival
  rw [ready]

theorem playerArrival_cueing (cueing : s.player.state = .cueing) (step : Option Nat) :
    playerArrival cycle step s = submitSample .cueing s.player.index cycle s := by
  unfold playerArrival
  rw [cueing]

theorem playerArrival_stands (idle : s.player.state = .idle ∨ s.player.state = .suspended ∨ s.player.state = .holding)
    (step : Option Nat) : playerArrival cycle step s = s := by
  unfold playerArrival
  obtain state | state | state := idle <;> rw [state]

end

/-- A pacing arrival at a player whose take is known plays a sample, from whatever state the play begins in. -/
theorem playSample_played {s v : State} {t : Fin 32} (take : v.player.take = some t) (mask : v.player.mask = s.player.mask)
    (store : v.store = s.store) (i : Nat) (cycle : CycleNo) :
    let final := s.store.takes[t].samples - 1
    let n := min i final
    let u := (FlagSet.members s.player.mask).foldl (fun u k => submit .player k (u.store.sampleValue t k n) cycle u) v
    let u1 : State := { u with player := { u.player with index := n + 1 } }
    playSample i cycle v =
      if n = final then
        raise 6
          ([u8 t.val, flagByte u1.player.clamped]
            ++ (FlagSet.members s.player.mask).flatMap fun k => natBE 3 u1.player.peaks[k])
          (enterPlayer .holding u1)
      else u1 := by
  intro final n u u1
  have played : samplePlayed n cycle v = u1 := by
    simp only [samplePlayed, submitSample_eq take, mask]
    rfl
  have masked : u1.player.mask = s.player.mask := by
    rw [← played, ← mask]
    exact (samplePlayed_player n cycle v).2.2.2
  have eq := playSample_eq take i cycle
  rw [store] at eq
  rw [eq, show min i (s.store.takes[t].samples - 1) = n from rfl, played]
  congr 1
  dsimp only
  rw [enterPlayer_player, playDoneDetail]
  dsimp only
  rw [masked]

/-- Settles O52: an arrival by the state of the player and its step; play submits the sample, and leaves the store where
no recorder is at work. -/
theorem playingIsPaced : Obligations.PlayingIsPaced := by
  refine ⟨fun m => ⟨members_pairwise m, FlagSet.mem_members m⟩, fun s t cycle take => ?_⟩
  intro final sent played
  have paces : ∀ g : Nat, 1 ≤ g → g ≤ 4 → isPacing (some g) = true := fun g least most =>
    (isPacing_iff _).2 ⟨g, rfl, least, most⟩
  have plays : s.player.state = .playing → ∀ g : Nat, 1 ≤ g → g ≤ 4 →
      playerArrival cycle (some g) s = playSample (s.player.index + g - 1) cycle s := fun playing g least most =>
    (playerArrival_playing playing _).trans (if_pos (paces g least most))
  refine ⟨fun playing g least most => (plays playing g least most).trans (playSample_played take rfl rfl _ cycle),
    fun playing g least most idle => ?_, fun ready pending g least most => ?_, fun step waits => ?_,
    fun playing g outside => ?_, fun playing => (playerArrival_playing playing _).trans rfl, playerArrival_stands⟩
  · intro n s1
    obtain ⟨index, state, held, mask⟩ := samplePlayed_player n cycle s
    obtain ⟨pose, env, store⟩ := samplePlayed_stands n cycle s
    have eq : s1 = if n = final then _ else samplePlayed n cycle s :=
      (plays playing g least most).trans (playSample_eq take _ cycle)
    generalize samplePlayed n cycle s = u at *
    by_cases last : n = final
    · rw [if_pos last] at eq ⊢
      rw [eq]
      refine ⟨?_, ?_, ?_, ?_, ?_, ?_, ?_⟩
      · simpa using index
      · simp
      · simpa using held.trans take
      · simpa using mask
      · simpa using store idle
      · simpa using pose
      · simpa using env
    · rw [if_neg last] at eq ⊢
      rw [eq]
      exact ⟨index, state.trans playing, held.trans take, mask, store idle, pose, env⟩
  · have starts : playerArrival cycle (some g) s = playSample s.player.index cycle
        (enterPlayer .playing (s.withPlayer { s.player with goPending := false })) := by
      rw [playerArrival_ready ready, if_pos (by rw [pending, paces g least most]; rfl)]
    rw [starts]
    exact playSample_played (by simpa using take) (by simp) (by simp) _ cycle
  · obtain cueing | ⟨ready, unpaced⟩ := waits
    · exact (playerArrival_cueing cueing step).trans (submitSample_eq take _ _ _)
    · refine (playerArrival_ready ready step).trans ((if_neg fun both => ?_).trans (submitSample_eq take _ _ _))
      rw [Bool.and_eq_true, isPacing_iff] at both
      obtain ⟨pending, g, some, least, most⟩ := both
      obtain clear | outside := unpaced
      · simp [clear] at pending
      · have := outside g some
        omega
  · refine (playerArrival_playing playing _).trans (if_neg fun here => ?_)
    obtain ⟨j, same, least, most⟩ := (isPacing_iff _).1 here
    obtain rfl := Option.some.inj same
    omega

end Sys2Proof.Machine
end

section
/-! PROOFS. O51: the matching of cue bytes slot by slot, and the firing of an action as the matching request
(R177, R179 to R183). -/

namespace Sys2Proof.Machine

/-! ## One slot and one cue byte -/

theorem cueMatches_iff (x b : Byte) : cueMatches x b = true ↔ x = 0x00#8 ∨ x = b := by
  simp only [cueMatches, Bool.or_eq_true, beq_iff_eq]

/-- A disabled slot takes no part. -/
theorem updateSlot_disabled {b : Byte} {s : State} {n : Fin 8} (h : s.cues[n].pattern = []) :
    updateSlot b s n = s := by
  unfold updateSlot
  simp only [h]

/-- An enabled slot takes the byte by its progress. -/
theorem updateSlot_enabled {b : Byte} {s : State} {n : Fin 8} {a : CueAction} (h : s.cues[n].pattern ≠ [])
    (act : s.cues[n].action = some a) :
    updateSlot b s n =
      if s.cues[n].advance b = s.cues[n].pattern.length then fire n a (setProgress n 0 s)
      else setProgress n (s.cues[n].advance b) s := by
  obtain ⟨x, rest, eq⟩ := List.exists_cons_of_ne_nil h
  unfold updateSlot
  simp only [eq, act]

theorem CueSlot.advance_matched {c : CueSlot} {b x : Byte} (at' : c.pattern[c.progress]? = some x)
    (h : x = 0x00#8 ∨ x = b) : c.advance b = c.progress + 1 := by
  refine if_pos ?_
  rw [List.getD_eq_getElem?_getD, at']
  exact (cueMatches_iff x b).mpr h

theorem CueSlot.advance_restarts {c : CueSlot} {b x y : Byte} (at' : c.pattern[c.progress]? = some x)
    (first : c.pattern.head? = some y) (h : ¬(x = 0x00#8 ∨ x = b)) :
    c.advance b = if y = 0x00#8 ∨ y = b then 1 else 0 := by
  refine (if_neg ?_).trans ?_
  · rw [List.getD_eq_getElem?_getD, at']
    exact fun m => h ((cueMatches_iff x b).mp m)
  · rw [List.headD_eq_head?_getD, first]
    exact if_congr (cueMatches_iff y b) rfl rfl

/-- A slot that does not match at its progress, and matches at its first byte, has more than one byte. -/
theorem CueSlot.longer_of_restart {c : CueSlot} {b x y : Byte} (at' : c.pattern[c.progress]? = some x)
    (first : c.pattern.head? = some y) (h : ¬(x = 0x00#8 ∨ x = b)) (again : y = 0x00#8 ∨ y = b) :
    1 ≠ c.pattern.length := by
  intro one
  obtain ⟨z, eq⟩ := List.length_eq_one_iff.mp one.symm
  have below : c.progress < c.pattern.length := (List.getElem?_eq_some_iff.mp at').1
  have zero : c.progress = 0 := by omega
  rw [eq, zero] at at'
  rw [eq] at first
  cases at'
  cases first
  exact h again

/-- The states between the slots of one cue byte. -/
def slotsTaken (b : Byte) (s : State) (n : Nat) : State := ((List.finRange 8).take n).foldl (updateSlot b) s

theorem slotsTaken_succ (b : Byte) (s : State) (n : Fin 8) :
    slotsTaken b s (n.val + 1) = updateSlot b (slotsTaken b s n.val) n := by
  unfold slotsTaken
  rw [List.take_succ_eq_append_getElem (by rw [List.length_finRange]; exact n.isLt), List.foldl_append,
    List.getElem_finRange]
  rfl

theorem slotsTaken_all (b : Byte) (s : State) : slotsTaken b s 8 = cueArrival [b] s := by
  unfold slotsTaken cueArrival
  rw [List.take_of_length_le (by rw [List.length_finRange]), List.foldl_cons, List.foldl_nil, cueByte]

/-! ## A run of bytes that match the one enabled slot -/

theorem setProgress_own (n : Fin 8) (p : Nat) (s : State) :
    (setProgress n p s).cues[n] = { s.cues[n] with progress := p } := Vector.getElem_set_self ..

theorem setProgress_other {n j : Fin 8} (p : Nat) (s : State) (apart : j ≠ n) :
    (setProgress n p s).cues[j] = s.cues[j] :=
  Vector.getElem_set_ne n.isLt j.isLt (fun eq => apart (Fin.ext eq.symm))

theorem setProgress_twice (n : Fin 8) (p q : Nat) (s : State) :
    setProgress n q (setProgress n p s) = setProgress n q s := by
  have own := setProgress_own n p s
  unfold setProgress at own ⊢
  simp only [State.withCues] at own ⊢
  rw [own, Vector.set_set]

theorem setProgress_self {n : Fin 8} {p : Nat} {s : State} (h : s.cues[n].progress = p) :
    setProgress n p s = s := by
  subst h
  unfold setProgress
  have same : s.cues.set n.val s.cues[n] = s.cues := Vector.set_getElem_self ..
  exact congrArg s.withCues same

/-- Only slot n is enabled. -/
def Alone (n : Fin 8) (s : State) : Prop := ∀ j : Fin 8, j ≠ n → s.cues[j].pattern = []

theorem Alone.of_cues {n : Fin 8} {s t : State} (h : Alone n s) (same : ∀ j : Fin 8, j ≠ n → t.cues[j] = s.cues[j]) :
    Alone n t := fun j apart => (congrArg CueSlot.pattern (same j apart)).trans (h j apart)

theorem Alone.setProgress {n : Fin 8} {s : State} (h : Alone n s) (p : Nat) : Alone n (setProgress n p s) :=
  h.of_cues fun _ apart => setProgress_other p s apart

theorem fire_cues (n : Fin 8) (a : CueAction) (s : State) : (fire n a s).cues = s.cues := by
  obtain ⟨-, -, -, -, -, -, -, -, -, -, -, -, -, -, -, -, -, -, -, -, -, -, -, cues, -⟩ := fire_frame n a s
  exact cues

theorem Alone.updateSlot {n : Fin 8} {s : State} (h : Alone n s) (b : Byte) {a : CueAction}
    (some' : s.cues[n].pattern ≠ []) (act : s.cues[n].action = some a) : Alone n (updateSlot b s n) := by
  rw [updateSlot_enabled some' act]
  split
  · exact (h.setProgress 0).of_cues fun j _ => by rw [fire_cues]
  · exact h.setProgress _

theorem foldl_updateSlot_disabled {b : Byte} {s : State} {l : List (Fin 8)}
    (h : ∀ j ∈ l, s.cues[j].pattern = []) : l.foldl (Machine.updateSlot b) s = s := by
  induction l with
  | nil => rfl
  | cons j l ih =>
    rw [List.foldl_cons, updateSlot_disabled (h j (List.mem_cons_self ..))]
    exact ih fun i mem => h i (List.mem_cons_of_mem j mem)

/-- With one slot enabled, a cue byte is taken by that slot alone. -/
theorem cueByte_alone {n : Fin 8} {s : State} (h : Alone n s) (b : Byte) {a : CueAction}
    (some' : s.cues[n].pattern ≠ []) (act : s.cues[n].action = some a) : cueByte s b = updateSlot b s n := by
  obtain ⟨l1, l2, split', before, after⟩ : ∃ l1 l2, List.finRange 8 = l1 ++ n :: l2 ∧ n ∉ l1 ∧ n ∉ l2 := by
    obtain ⟨l1, l2, eq⟩ := List.append_of_mem (List.mem_finRange n)
    have nodup := List.nodup_finRange 8
    rw [eq, List.nodup_append] at nodup
    obtain ⟨-, right, apart⟩ := nodup
    exact ⟨l1, l2, eq, fun mem => apart n mem n (List.mem_cons_self ..) rfl, (List.nodup_cons.mp right).1⟩
  unfold cueByte
  rw [split', List.foldl_append,
    foldl_updateSlot_disabled fun j mem => h j fun eq => before (eq ▸ mem), List.foldl_cons]
  have next := h.updateSlot b some' act
  exact foldl_updateSlot_disabled fun j mem => next j fun eq => after (eq ▸ mem)

theorem cueArrival_cons (b : Byte) (bytes : List Byte) (s : State) :
    cueArrival (b :: bytes) s = cueArrival bytes (cueByte s b) := List.foldl_cons ..

/-- From a progress inside its pattern, a run of bytes that match the rest fires the action of the one enabled slot
once, at the last of them. -/
theorem cueArrival_fires {n : Fin 8} {a : CueAction} (bytes : List Byte) :
    ∀ (s : State) (done rest : List Byte), s.cues[n].pattern = done ++ rest → rest ≠ [] →
      s.cues[n].progress = done.length → s.cues[n].action = some a → Alone n s →
      List.Forall₂ (fun x b => x = 0x00#8 ∨ x = b) rest bytes →
      cueArrival bytes s = fire n a (setProgress n 0 s) := by
  induction bytes with
  | nil =>
    intro s done rest _ some' _ _ _ all
    cases all
    exact absurd rfl some'
  | cons b bytes ih =>
    intro s done rest pattern _ progress act alone all
    cases all with
    | @cons x _ rest' _ head tail =>
      have enabled : s.cues[n].pattern ≠ [] := by rw [pattern]; exact List.append_ne_nil_of_right_ne_nil _ (by simp)
      have at' : s.cues[n].pattern[s.cues[n].progress]? = some x := by
        rw [pattern, progress, List.getElem?_append_right (Nat.le_refl _), Nat.sub_self, List.getElem?_cons_zero]
      have length : s.cues[n].pattern.length = done.length + (rest'.length + 1) := by
        rw [pattern, List.length_append, List.length_cons]
      rw [cueArrival_cons, cueByte_alone alone b enabled act, updateSlot_enabled enabled act, CueSlot.advance_matched at' head]
      cases tail with
      | nil =>
        rw [if_pos (by rw [length, progress]; rfl)]
        rfl
      | @cons y c more bytes' hy tail =>
        rw [if_neg (by rw [length, progress, List.length_cons]; omega)]
        have own := setProgress_own n (s.cues[n].progress + 1) s
        rw [ih (setProgress n (s.cues[n].progress + 1) s) (done ++ [x]) (y :: more)
            (by rw [own]; exact pattern.trans (List.append_cons ..)) (List.cons_ne_nil _ _)
            (by rw [own, List.length_append]; exact congrArg (· + 1) progress) (by rw [own]; exact act)
            (alone.setProgress _) (List.Forall₂.cons hy tail),
          setProgress_twice]

/-! ## A firing is the request of its action -/

theorem readArm_recStart (k : Fin 32) (mask : FlagSet 10) : readArm (u8 k.val :: axisSetBytes mask) = some (k, mask) := by
  unfold readArm
  rw [readFin_append (by decide)]
  simp only [Option.bind_eq_bind, Option.bind_some]
  rw [← List.append_nil (axisSetBytes mask), readAxisSet_append]
  rfl

/-- A firing takes each enabled slot as R179 says. -/
theorem slotsTaken_acts (s0 : State) (b : Byte) (n : Fin 8) {x y : Byte} {a : CueAction}
    (at' : s0.cues[n].pattern[s0.cues[n].progress]? = some x) (first : s0.cues[n].pattern.head? = some y)
    (act : s0.cues[n].action = some a) :
    (x = 0x00#8 ∨ x = b → s0.cues[n].progress + 1 = s0.cues[n].pattern.length →
        updateSlot b s0 n = fire n a (setProgress n 0 s0))
      ∧ (x = 0x00#8 ∨ x = b → s0.cues[n].progress + 1 < s0.cues[n].pattern.length →
        updateSlot b s0 n = setProgress n (s0.cues[n].progress + 1) s0)
      ∧ (¬(x = 0x00#8 ∨ x = b) → y = 0x00#8 ∨ y = b → updateSlot b s0 n = setProgress n 1 s0)
      ∧ (¬(x = 0x00#8 ∨ x = b) → ¬(y = 0x00#8 ∨ y = b) → updateSlot b s0 n = setProgress n 0 s0) := by
  have enabled : s0.cues[n].pattern ≠ [] := fun none' => by rw [none'] at first; cases first
  rw [updateSlot_enabled enabled act]
  refine ⟨fun m last => ?_, fun m inside => ?_, fun m again => ?_, fun m never => ?_⟩
  · rw [CueSlot.advance_matched at' m, if_pos last]
  · rw [CueSlot.advance_matched at' m, if_neg (Nat.ne_of_lt inside)]
  · rw [CueSlot.advance_restarts at' first m, if_pos again,
      if_neg (CueSlot.longer_of_restart at' first m again)]
  · rw [CueSlot.advance_restarts at' first m, if_neg never,
      if_neg fun eq => enabled (List.length_eq_zero_iff.mp eq.symm)]

/-- Settles O51: the slots of a cue byte are taken one after another, a run that matches fires once, and a firing is the
request of its action. -/
theorem cuePatternsFire : Obligations.CuePatternsFire := by
  unfold Obligations.CuePatternsFire
  refine ⟨fun s b rest => ?_, fun _ => rfl, ?_, ?_, ?_, ?_⟩
  · rw [cueArrival_cons b rest, cueArrival_cons b [], cueArrival, cueArrival, cueArrival, List.foldl_nil]
  · intro s b
    refine ⟨slotsTaken b s, rfl, slotsTaken_all b s, fun n => ?_⟩
    rw [slotsTaken_succ]
    exact ⟨updateSlot_disabled, fun x y a at' first act => slotsTaken_acts _ b n at' first act⟩
  · intro s n a enabled act alone start bytes all
    rw [cueArrival_fires bytes s [] _ rfl enabled start act alone all, setProgress_self start]
  · intro s n a
    obtain ⟨-, -, -, -, -, -, -, -, -, -, -, -, -, -, -, -, -, -, -, -, -, -, -, cues, requests, -⟩ := fire_frame n a s
    exact ⟨rfl, cues, requests, rfl⟩
  · intro s s' tag
    exact ⟨fun k mask h => h.replies_body (row := .armRecord) rfl (a := (k, mask)) (readArm_recStart k mask) rfl rfl,
      fun h => h.replies_operation (row := .stopRecord) rfl rfl rfl,
      fun k h => h.replies_body (row := .cue) rfl (a := k) (oneFin_byte (by decide) k) rfl rfl,
      fun h => h.replies_operation (row := .go) rfl rfl rfl,
      fun h => h.replies_operation (row := .release) rfl rfl rfl,
      fun k h => h.replies_body (row := .followOn) rfl (a := k) (oneFin_byte (by decide) k) rfl rfl⟩

end Sys2Proof.Machine
end

section
/-! PROOFS. O8 and O11: where a good SET, MGT and RPY goes (R9, R12, R13, R85, R130, R132, R141, R184). -/

namespace Sys2Proof.Machine

/-! ## A good frame that carries no order (R3) -/

section
variable {s : State} {f : Frame}

theorem exec_setReceived (empty : s.spine.receivingU = []) (kind : f.kind = .set) (length : f.payload.length = 7) :
    exec (.setReceived f.wire) s = .next (setArrives f (linkGood .u s)) := by
  refine congrArg Host.Outcome.next ((frameBytes_wire (p := .u) empty (by simp) ?_ ?_).trans ?_)
  · rw [kind]
    rfl
  · rw [kind, length]
    rfl
  · unfold goodFrame
    rw [kind]

theorem exec_mgtReceived (empty : s.spine.receivingU = []) (kind : f.kind = .mgt) (least : 2 ≤ f.payload.length)
    (most : f.payload.length ≤ 274) :
    exec (.mgtReceived f.wire) s = .next (mgtArrives s.stop.state f (linkGood .u s)) := by
  refine congrArg Host.Outcome.next ((frameBytes_wire (p := .u) empty (by simp) ?_ ?_).trans ?_)
  · rw [kind]
    rfl
  · rw [kind]
    simp [FrameKind.lengthAgrees, least, most]
  · unfold goodFrame
    rw [kind]

theorem exec_rpyReceived (empty : s.spine.receivingD = []) (other : s.inTest = false) (kind : f.kind = .rpy)
    (least : 2 ≤ f.payload.length) (most : f.payload.length ≤ 274) :
    exec (.rpyReceived f.wire) s = .next (offerForward f (linkGood .d s)) := by
  refine congrArg Host.Outcome.next ((frameBytes_wire (p := .d) empty (fun _ => other) ?_ ?_).trans ?_)
  · rw [kind]
    rfl
  · rw [kind]
    simp [FrameKind.lengthAgrees, least, most]
  · unfold goodFrame
    rw [kind]

end

/-! ## Where a SET goes (R9, R132, R141) -/

section
variable {s : State} {f : Frame}

theorem setArrives_noAxis (far : 10 ≤ f.address.toNat) : setArrives f s = gateRefusal s := by
  unfold setArrives axisOf
  rw [dif_neg (Nat.not_lt.mpr far)]

/-- A SET whose basis names none of COUNTS and USER is refused, whatever its address. -/
theorem setArrives_noBasis (counts : (setFields f.payload).basis ≠ 0x00#8) (user : (setFields f.payload).basis ≠ 0x01#8) :
    setArrives f s = gateRefusal s := by
  unfold setArrives
  cases axisOf f.address with
  | none => rfl
  | some k => exact (if_neg counts).trans (if_neg user)

theorem setArrives_counts {k : Axis} (names : f.address = u8 k.val) (counts : (setFields f.payload).basis = 0x00#8) :
    setArrives f s = submit .console k (setFields f.payload).setpoint (setFields f.payload).cycle s := by
  unfold setArrives
  rw [names, axisOf_axis]
  exact if_pos counts

theorem setArrives_user {k : Axis} (names : f.address = u8 k.val) (user : (setFields f.payload).basis = 0x01#8) :
    setArrives f s = match lensOf k with
      | some i => lensSetpoint i (setFields f.payload).setpoint (setFields f.payload).cycle s
      | none => gateRefusal s := by
  unfold setArrives
  rw [names, axisOf_axis]
  exact (if_neg (by rw [user]; decide)).trans ((if_pos user).trans rfl)

theorem lensOf_motion {k : Axis} (motion : k.val ≤ 6) : lensOf k = none := dif_neg (by omega)

end

section
variable {i : Fin 3} {v : Int} {cycle : CycleNo} {s : State}

theorem lensSetpoint_trims (focus : i.val = 0) (on : s.lens.follow.on = true) :
    lensSetpoint i v cycle s =
      s.withLens { s.lens with
        follow := { s.lens.follow with
          trim := clampInt (-(s.lens.follow.trimLimit : Int)) s.lens.follow.trimLimit v } } := if_pos ⟨focus, on⟩

theorem not_trims (stays : i.val ≠ 0 ∨ s.lens.follow.on = false) : ¬(i.val = 0 ∧ s.lens.follow.on = true) :=
  fun ⟨focus, on⟩ => stays.elim (· focus) fun off => by rw [off] at on; cases on

theorem lensSetpoint_refused (stays : i.val ≠ 0 ∨ s.lens.follow.on = false) (invalid : s.lens.curves[i].valid = false) :
    lensSetpoint i v cycle s = gateRefusal s :=
  (if_neg (not_trims stays)).trans (if_neg (by rw [invalid]; decide))

theorem lensSetpoint_translated (stays : i.val ≠ 0 ∨ s.lens.follow.on = false) (valid : s.lens.curves[i].valid = true) :
    lensSetpoint i v cycle s =
      submit .console (lensAxis i) (s.lens.curves[i].forward v) cycle (translate i v s).1 :=
  (if_neg (not_trims stays)).trans (if_pos valid)

/-- A value is changed by the clamp to a curve exactly where it lies beyond an end of it. -/
theorem clampUser_ne_iff (c : Curve) (u : Int) :
    c.clampUser u ≠ u ↔ u < (c.at 0).user ∨ ((c.at (c.points.length - 1)).user : Int) < u := clampInt_ne_iff

/-- The end-reached flag that a translation leaves (R130). -/
theorem translate_state :
    (translate i v s).1 = { s with lens := { s.lens with endReached := (translate i v s).1.lens.endReached } } := by
  unfold translate
  dsimp only
  split <;> rfl

theorem translate_beyond (beyond : s.lens.curves[i].clampUser v ≠ v) :
    (translate i v s).1.lens.endReached = s.lens.endReached.set i.val true := by
  unfold translate
  dsimp only
  rw [if_pos beyond]
  rfl

theorem translate_within (within : ¬s.lens.curves[i].clampUser v ≠ v) :
    (translate i v s).1.lens.endReached = s.lens.endReached := by
  unfold translate
  dsimp only
  rw [if_neg within]

end

theorem linkGood_lens (p : Port) (s : State) : (linkGood p s).lens = s.lens := by simp

/-- Settles O8: each SET goes where its address, its basis and the lens record send it. -/
theorem setReceivedIsRouted : Obligations.SetReceivedIsRouted := by
  unfold Obligations.SetReceivedIsRouted
  refine ⟨fun _ => rfl, fun s f empty kind length => ?_⟩
  have lens := linkGood_lens .u s
  rw [exec_setReceived empty kind length]
  generalize linkGood .u s = s1 at lens
  refine ⟨fun far => congrArg _ (setArrives_noAxis far),
    fun counts user => congrArg _ (setArrives_noBasis counts user),
    fun k names => ⟨fun counts => congrArg _ (setArrives_counts names counts), fun user motion => congrArg _ ?_,
      fun i axis user => ?_⟩⟩
  · rw [setArrives_user names user, lensOf_motion motion]
  · have routed : setArrives f s1 = lensSetpoint i (setFields f.payload).setpoint (setFields f.payload).cycle s1 := by
      rw [setArrives_user names user, axis, lensOf_lensAxis]
    rw [routed, ← lens, axis]
    refine ⟨fun focus on => congrArg _ (lensSetpoint_trims focus on),
      fun stays invalid => congrArg _ (lensSetpoint_refused stays invalid), fun stays valid => ?_⟩
    refine ⟨(translate i (setFields f.payload).setpoint s1).1, translate_state,
      fun beyond => translate_beyond ((clampUser_ne_iff ..).mpr beyond),
      fun within => translate_within (mt (clampUser_ne_iff ..).mp within),
      congrArg _ (lensSetpoint_translated stays valid)⟩

/-! ## Where an MGT goes (R12, R184) -/

section
variable {st : StopState} {f : Frame} {s : State}

theorem mgtArrives_admitted (own : f.address = partNode) (room : s.mgmt.requests.length < 4) :
    mgtArrives st f s = s.withMgmt { s.mgmt with requests := s.mgmt.requests ++ [requestOf f] } :=
  (if_pos own).trans (if_pos room)

theorem mgtArrives_full (own : f.address = partNode) (full : 4 ≤ s.mgmt.requests.length) :
    mgtArrives st f s = s.withMgmt { s.mgmt with drops := satInc 65535 s.mgmt.drops } :=
  (if_pos own).trans (if_neg (Nat.not_lt.mpr full))

theorem mgtArrives_forwarded (other : f.address ≠ partNode) (forwards : st.forwardsMgt = true) :
    mgtArrives st f s = offerQueueD f s := (if_neg other).trans (if_pos forwards)

theorem mgtArrives_dropped (other : f.address ≠ partNode) (drops : st.forwardsMgt = false) :
    mgtArrives st f s = raise 15 [f.address, f.payload.getD 0 0] s :=
  (if_neg other).trans (if_neg (by rw [drops]; decide))

end

/-- Settles O11: an MGT goes to the request queue, to D or nowhere, and an RPY is forwarded. -/
theorem mgtAndRpyAreRouted : Obligations.MgtAndRpyAreRouted := by
  unfold Obligations.MgtAndRpyAreRouted
  refine ⟨fun s f empty kind least most => ?_, fun s f empty other kind least most =>
    exec_rpyReceived empty other kind least most⟩
  rw [exec_mgtReceived empty kind least most]
  refine ⟨fun own room => congrArg _ (mgtArrives_admitted own room), fun own full => congrArg _ (mgtArrives_full own full),
    fun other state => congrArg _ (mgtArrives_forwarded other ?_),
    fun other state => congrArg _ (mgtArrives_dropped other ?_)⟩
  · obtain eq | eq | eq := state <;> rw [eq] <;> rfl
  · obtain eq | eq := state <;> rw [eq] <;> rfl

end Sys2Proof.Machine
end

section
/-! PROOFS. O13, O14 and O15: what the two transmitters take, and what is offered to them (R14 to R18). -/

namespace Sys2Proof.Machine

/-! ## The U arbiter (R15) -/

section
variable {s : State}

theorem takeU_express {k : Fin 17} (express : s.notices.express = some k) : takeU s = sendNotice k s := by
  unfold takeU
  rw [express]

theorem takeU_forward {f : Frame} {rest : List Frame} (express : s.notices.express = none)
    (forward : s.spine.forward = f :: rest) :
    takeU s = s.withSpine { s.spine with forward := rest, sendingU := some ⟨f, false⟩ } := by
  unfold takeU
  rw [express, forward]

theorem takeU_reply {r : Reply} {rest : List Reply} (express : s.notices.express = none) (forward : s.spine.forward = [])
    (replies : s.mgmt.replies = r :: rest) :
    takeU s =
      (s.withMgmt { s.mgmt with replies := rest }).withSpine
        { s.spine with sendingU := some ⟨rpyFrame r.tag r.result.code r.body, r.ofReset⟩ } := by
  unfold takeU
  rw [express, forward, replies]

theorem takeU_notice {k : Fin 17} (express : s.notices.express = none) (forward : s.spine.forward = [])
    (replies : s.mgmt.replies = []) (choice : s.notices.choice = some k) : takeU s = sendNotice k s := by
  unfold takeU
  rw [express, forward, replies, choice]

theorem takeU_nothing (express : s.notices.express = none) (forward : s.spine.forward = [])
    (replies : s.mgmt.replies = []) (choice : s.notices.choice = none) : takeU s = s := by
  unfold takeU
  rw [express, forward, replies, choice]

theorem completeU_idle (idle : s.spine.sendingU = none) : completeU s = s := by
  unfold completeU
  rw [idle]

theorem completeU_sending {x : Sending} (sending : s.spine.sendingU = some x) :
    completeU s =
      takeU
        { s with
          spine := { s.spine with sendingU := none }
          mgmt := { s.mgmt with reset := if x.ofReset then .transmitted else s.mgmt.reset } } := by
  unfold completeU
  rw [sending]
  obtain ⟨_, ofReset⟩ := x
  cases ofReset <;> rfl

end

/-- Settles O13: the completion of a frame on U is the arbiter's choice, case by case. -/
theorem uTransmitterServesInOrder : Obligations.UTransmitterServesInOrder := by
  unfold Obligations.UTransmitterServesInOrder
  refine fun s => ⟨fun idle => congrArg _ (completeU_idle idle), fun x sending => ?_⟩
  have complete := completeU_sending sending
  exact ⟨fun k express => congrArg _ (complete.trans (takeU_express express)), fun express =>
    ⟨fun f rest forward => congrArg _ (complete.trans (takeU_forward express forward)), fun forward =>
      ⟨fun r rest replies => congrArg _ (complete.trans (takeU_reply express forward replies)), fun replies =>
        ⟨fun k choice => congrArg _ (complete.trans (takeU_notice express forward replies choice)),
          fun choice => congrArg _ (complete.trans (takeU_nothing express forward replies choice))⟩⟩⟩⟩

/-! ## The D arbiter (R17, R18) -/

theorem takeQueueD_eq (st : StopState) (queue : List Frame) :
    takeQueueD st queue = ((queue.dropWhile (forbiddenAtTake st)).head?, (queue.dropWhile (forbiddenAtTake st)).tail) := by
  induction queue with
  | nil => rfl
  | cons f rest ih =>
    cases forbidden : forbiddenAtTake st f with
    | true => rw [takeQueueD, if_pos forbidden, List.dropWhile_cons_of_pos forbidden, ih]
    | false =>
      rw [takeQueueD, if_neg (by rw [forbidden]; decide), List.dropWhile_cons_of_neg (by rw [forbidden]; decide)]
      rfl

/-- The first member of 0..n−1 that meets a test. -/
theorem find_finRange {n : Nat} {test : Fin n → Bool} {k : Fin n} (meets : test k = true)
    (least : ∀ j : Fin n, j.val < k.val → test j = false) : (List.finRange n).find? test = some k := by
  refine List.find?_eq_some_iff_getElem.2 ⟨meets, k.val, by rw [List.length_finRange]; exact k.isLt, ?_, fun j hj => ?_⟩
  · rw [List.getElem_finRange]
    rfl
  · rw [List.getElem_finRange, least _ hj]
    rfl

section
variable {s : State}

theorem takeD_inTest (test : s.inTest = true) : takeD s = s := if_pos test

theorem takeD_brake {f : Frame} (other : s.inTest = false) (brake : s.spine.brake = some f) :
    takeD s = s.withSpine { s.spine with brake := none, sendingD := some f } := by
  unfold takeD
  rw [if_neg (by rw [other]; decide), brake]

theorem takeD_decel {k : Fin 7} {f : Frame} (other : s.inTest = false) (brake : s.spine.brake = none)
    (waits : s.spine.decel[k] = some f) (least : ∀ j : Fin 7, j.val < k.val → s.spine.decel[j] = none) :
    takeD s = s.withSpine { s.spine with decel := s.spine.decel.set k.val none, sendingD := some f } := by
  have first : ((List.finRange 7).find? fun k : Fin 7 => s.spine.decel[k].isSome) = some k :=
    find_finRange (by rw [waits]; rfl) fun j before => by rw [least j before]; rfl
  unfold takeD
  rw [if_neg (by rw [other]; decide), brake]
  dsimp only
  rw [first]
  dsimp only
  rw [waits]

theorem takeD_queue (other : s.inTest = false) (brake : s.spine.brake = none)
    (decel : ∀ k : Fin 7, s.spine.decel[k] = none) :
    takeD s =
      s.withSpine { s.spine with
        queueD := (s.spine.queueD.dropWhile (forbiddenAtTake s.stop.state)).tail
        sendingD := (s.spine.queueD.dropWhile (forbiddenAtTake s.stop.state)).head? } := by
  have search : ((List.finRange 7).find? fun k => s.spine.decel[k].isSome) = none :=
    List.find?_eq_none.2 fun k _ => by simp [decel k]
  unfold takeD
  rw [if_neg (by rw [other]; decide), brake]
  dsimp only
  rw [search, takeQueueD_eq]

theorem completeD_idle (idle : s.spine.sendingD = none) : completeD s = s := if_pos (by rw [idle]; rfl)

theorem completeD_sending (sending : s.spine.sendingD.isSome = true) :
    completeD s = takeD (s.withSpine { s.spine with sendingD := none }) :=
  if_neg (by simpa [Option.isSome_iff_ne_none] using sending)

end

/-- Settles O14: the completion of a frame on D is the arbiter's choice, case by case. -/
theorem dTransmitterServesInOrder : Obligations.DTransmitterServesInOrder := by
  unfold Obligations.DTransmitterServesInOrder
  refine fun s => ⟨fun idle => congrArg _ (completeD_idle idle), fun sending => ?_⟩
  have complete := completeD_sending sending
  exact ⟨fun test => congrArg _ (complete.trans (takeD_inTest test)), fun other =>
    ⟨fun f brake => congrArg _ (complete.trans (takeD_brake other brake)), fun brake =>
      ⟨fun k f waits least => congrArg _ (complete.trans (takeD_decel other brake waits least)),
        fun decel => congrArg _ (complete.trans (takeD_queue other brake decel))⟩⟩⟩

/-! ## Offers to U (R14, R184, R191) -/

section
variable {s : State}

theorem opportunityU_idle (idle : s.spine.sendingU = none) : opportunityU s = takeU s := if_pos (by rw [idle]; rfl)

theorem opportunityD_busy (busy : s.spine.sendingD.isSome = true) : opportunityD s = s :=
  if_neg (by simpa [Option.isSome_iff_ne_none] using busy)

theorem opportunityD_idle (idle : s.spine.sendingD = none) : opportunityD s = takeD s := if_pos (by rw [idle]; rfl)

theorem offerForward_room (f : Frame) (room : s.spine.forward.length < 16) :
    offerForward f s = opportunityU (s.withSpine { s.spine with forward := s.spine.forward ++ [f] }) := if_pos room

theorem offerForward_full (f : Frame) (full : 16 ≤ s.spine.forward.length) :
    offerForward f s = bumpCounter .u .queueDrops s := if_neg (Nat.not_lt.mpr full)

/-- What the transmitter does when a frame ends is what it would do idle, with the same queues. -/
theorem completeU_restores (idle : s.spine.sendingU = none) (x : Frame) :
    completeU (s.withSpine { s.spine with sendingU := some ⟨x, false⟩ }) = takeU s := by
  rw [completeU_sending (x := ⟨x, false⟩) rfl]
  congr 1
  obtain ⟨_, _, _, spine, _⟩ := s
  obtain ⟨_, _, _, _, _⟩ := spine
  cases idle
  rfl

theorem completeD_restores (idle : s.spine.sendingD = none) (x : Frame) :
    completeD (s.withSpine { s.spine with sendingD := some x }) = takeD s := by
  rw [completeD_sending rfl]
  congr 1
  obtain ⟨_, _, _, spine, _⟩ := s
  obtain ⟨_, _, _, _, _⟩ := spine
  cases idle
  rfl

/-! ## Offers to D (R16, R18) -/

theorem offerQueueD_inTest (f : Frame) (test : s.inTest = true) : offerQueueD f s = s := if_pos test

theorem offerDecel_inTest (k : Fin 7) (d : Nat) (test : s.inTest = true) : offerDecel k d s = s := if_pos test

theorem offerQueueD_room (f : Frame) (other : s.inTest = false) (room : s.spine.queueD.length < 16) :
    offerQueueD f s = opportunityD (s.withSpine { s.spine with queueD := s.spine.queueD ++ [f] }) :=
  (if_neg (by rw [other]; decide)).trans (if_pos room)

theorem offerQueueD_full (f : Frame) (other : s.inTest = false) (full : 16 ≤ s.spine.queueD.length) :
    offerQueueD f s = bumpCounter .d .queueDrops s :=
  (if_neg (by rw [other]; decide)).trans (if_neg (Nat.not_lt.mpr full))

theorem offerDecel_offers (k : Fin 7) (d : Nat) (other : s.inTest = false) :
    offerDecel k d s = opportunityD (s.withSpine { s.spine with decel := s.spine.decel.set k.val (some (decFrame k d)) }) :=
  if_neg (by rw [other]; decide)

/-- An idle D transmitter with no brake order and no other deceleration order waiting sends the order offered. -/
theorem offerDecel_alone (k : Fin 7) (d : Nat) (other : s.inTest = false) (idle : s.spine.sendingD = none)
    (brake : s.spine.brake = none) (decel : ∀ k : Fin 7, s.spine.decel[k] = none) :
    offerDecel k d s = s.withSpine { s.spine with sendingD := some (decFrame k d) } := by
  have taken := takeD_decel (s := s.withSpine { s.spine with decel := s.spine.decel.set k.val (some (decFrame k d)) })
    (k := k) (f := decFrame k d) other brake (Vector.getElem_set_self ..) fun j before =>
      (Vector.getElem_set_ne k.isLt j.isLt (Nat.ne_of_gt before)).trans (decel j)
  have restored : (s.spine.decel.set k.val (some (decFrame k d))).set k.val none = s.spine.decel := by
    rw [Vector.set_set]
    exact (congrArg (s.spine.decel.set k.val) (decel k).symm).trans (Vector.set_getElem_self ..)
  refine (offerDecel_offers k d other).trans ((opportunityD_idle (by exact idle)).trans (taken.trans ?_))
  exact congrArg (fun v => s.withSpine { s.spine with decel := v, sendingD := some (decFrame k d) }) restored

theorem forbidden_only_sets {f : Frame} (st : StopState) (other : f.kind ≠ .set) : forbiddenAtTake st f = false := by
  unfold forbiddenAtTake
  rw [beq_eq_false_iff_ne.mpr other, Bool.false_and]

/-- An idle D transmitter with nothing waiting sends a frame that is no SET at once. -/
theorem offerQueueD_alone {f : Frame} (other : s.inTest = false) (idle : s.spine.sendingD = none)
    (brake : s.spine.brake = none) (decel : ∀ k : Fin 7, s.spine.decel[k] = none) (queue : s.spine.queueD = [])
    (noSet : f.kind ≠ .set) : offerQueueD f s = s.withSpine { s.spine with sendingD := some f } := by
  have taken := takeD_alone (s := s.withSpine { s.spine with queueD := s.spine.queueD ++ [f] }) (f := f) other brake
    decel (congrArg (· ++ [f]) queue) (forbidden_only_sets _ noSet)
  refine (offerQueueD_room f other (by rw [queue]; decide)).trans
    ((opportunityD_idle (by exact idle)).trans (taken.trans ?_))
  exact congrArg (fun q => s.withSpine { s.spine with queueD := q, sendingD := some f }) queue.symm

/-! ## An idle U transmitter with nothing, or one notice, waiting (R15) -/

theorem offerForward_alone (f : Frame) (idle : s.spine.sendingU = none) (express : s.notices.express = none)
    (forward : s.spine.forward = []) : offerForward f s = s.withSpine { s.spine with sendingU := some ⟨f, false⟩ } := by
  have taken := takeU_forward (s := s.withSpine { s.spine with forward := s.spine.forward ++ [f] }) (f := f) (rest := [])
    express (congrArg (· ++ [f]) forward)
  refine (offerForward_room f (by rw [forward]; decide)).trans
    ((opportunityU_idle (by exact idle)).trans (taken.trans ?_))
  exact congrArg (fun q => s.withSpine { s.spine with forward := q, sendingU := some ⟨f, false⟩ }) forward.symm

theorem appendReply_alone (tag : Byte) (result : Result) (body : List Byte) (ofReset : Bool)
    (idle : s.spine.sendingU = none) (express : s.notices.express = none) (forward : s.spine.forward = [])
    (replies : s.mgmt.replies = []) :
    appendReply tag result body ofReset s =
      s.withSpine { s.spine with sendingU := some ⟨rpyFrame tag result.code body, ofReset⟩ } := by
  have taken := takeU_reply
    (s := s.withMgmt { s.mgmt with replies := s.mgmt.replies ++ [⟨tag, result, body, ofReset⟩] })
    (r := ⟨tag, result, body, ofReset⟩) (rest := []) express forward (congrArg (· ++ [_]) replies)
  refine (opportunityU_idle (by exact idle)).trans (taken.trans ?_)
  exact congrArg (fun q => (s.withMgmt { s.mgmt with replies := q }).withSpine
    { s.spine with sendingU := some ⟨rpyFrame tag result.code body, ofReset⟩ }) replies.symm

/-- With no frame and no reply waiting and no other source eligible, the arbiter sends the notice of a source where it
is eligible, and otherwise nothing. -/
theorem takeU_onlyNotice {k : Fin 17} (forward : s.spine.forward = []) (replies : s.mgmt.replies = [])
    (others : ∀ j : Fin 17, j ≠ k → s.notices.eligible j = false) :
    (s.notices.eligible k = true → takeU s = sendNotice k s)
      ∧ (s.notices.eligible k = false → takeU s = s) := by
  have own : ∀ j, s.notices.eligible j = true → j = k := fun j eligible => by
    by_contra apart
    rw [others j apart] at eligible
    cases eligible
  cases express : s.notices.express with
  | some j =>
    obtain ⟨-, eligible⟩ := (express_eq_some s.notices j).1 express
    cases own j eligible
    exact ⟨fun _ => takeU_express express, fun not => by rw [not] at eligible; cases eligible⟩
  | none =>
    cases choice : s.notices.choice with
    | some j =>
      obtain ⟨eligible, -⟩ := choice_some choice
      cases own j eligible
      exact ⟨fun _ => takeU_notice express forward replies choice, fun not => by rw [not] at eligible; cases eligible⟩
    | none =>
      exact ⟨fun eligible => (by rw [choice_none choice k] at eligible; cases eligible),
        fun _ => takeU_nothing express forward replies choice⟩

/-- An entry of a source changes the eligibility of no other. -/
theorem setEntry_eligible {k j : Fin 17} (e : NoticeEntry) (apart : j ≠ k) :
    (s.setEntry k e).notices.eligible j = s.notices.eligible j := by
  have same : (s.setEntry k e).notices.entries[j] = s.notices.entries[j] :=
    Vector.getElem_set_ne k.isLt j.isLt fun eq => apart (Fin.ext eq.symm)
  unfold Notices.eligible
  rw [same]
  rfl

end

/-- Settles O15: what waits behind a busy transmitter, what an idle one sends at once, and that an offer to an idle one
is the opportunity that the completion of a frame is. -/
theorem offersWaitInTheirQueues : Obligations.OffersWaitInTheirQueues := by
  unfold Obligations.OffersWaitInTheirQueues
  refine ⟨fun s f => ⟨fun busy => ?_, fun idle express forward => offerForward_alone f idle express forward,
      fun other idle brake decel queue noSet => offerQueueD_alone other idle brake decel queue noSet,
      fun test => ⟨offerQueueD_inTest f test, fun a => offerBrake_inTest test a, fun k d => offerDecel_inTest k d test⟩,
      fun other busy => ?_⟩,
    fun s idle forward replies => ⟨fun express tag result body ofReset =>
      appendReply_alone tag result body ofReset idle express forward replies, fun k detail others => ?_⟩,
    fun s other idle => ⟨offerBrake_idle other idle _, offerBrake_idle other idle _, fun brake decel k d =>
      offerDecel_alone k d other idle brake decel⟩,
    fun s f x idle => ?_, fun s f x other idle => ?_⟩
  · exact ⟨fun room => (offerForward_room f room).trans (opportunityU_busy busy), offerForward_full f,
      fun tag result body ofReset => opportunityU_busy busy⟩
  · exact ⟨fun room => (offerQueueD_room f other room).trans (opportunityD_busy busy), offerQueueD_full f other,
      offerBrake_busy other busy _, offerBrake_busy other busy _,
      fun k d => (offerDecel_offers k d other).trans (opportunityD_busy busy)⟩
  · obtain ⟨sends, waits⟩ := takeU_onlyNotice
      (s := s.setEntry k (s.notices.entries[k].occur (sourceLatched k) s.cycle.timecode detail)) (k := k) forward replies
      fun j apart => (setEntry_eligible _ apart).trans (others j apart)
    have taken := opportunityU_idle
      (s := s.setEntry k (s.notices.entries[k].occur (sourceLatched k) s.cycle.timecode detail)) idle
    exact ⟨fun eligible => taken.trans (sends eligible), fun not => taken.trans (waits not)⟩
  · refine ⟨fun room => ?_, fun tag result body ofReset => ?_, fun k detail => ?_⟩
    · exact congrArg Host.Outcome.next <| (completeU_restores (s := s.withSpine { s.spine with forward := s.spine.forward ++ [f] }) idle x).trans
        ((opportunityU_idle (by exact idle)).symm.trans (offerForward_room f room).symm)
    · exact congrArg Host.Outcome.next <| (completeU_restores
        (s := s.withMgmt { s.mgmt with replies := s.mgmt.replies ++ [⟨tag, result, body, ofReset⟩] }) idle x).trans
        (opportunityU_idle (by exact idle)).symm
    · exact congrArg Host.Outcome.next <| (completeU_restores
        (s := s.setEntry k (s.notices.entries[k].occur (sourceLatched k) s.cycle.timecode detail)) idle x).trans
        (opportunityU_idle (by exact idle)).symm
  · refine ⟨fun room => ?_, fun k d => ?_⟩
    · exact congrArg Host.Outcome.next <| (completeD_restores (s := s.withSpine { s.spine with queueD := s.spine.queueD ++ [f] }) idle x).trans
        ((opportunityD_idle (by exact idle)).symm.trans (offerQueueD_room f other room).symm)
    · exact congrArg Host.Outcome.next <| (completeD_restores
        (s := s.withSpine { s.spine with decel := s.spine.decel.set k.val (some (decFrame k d)) }) idle x).trans
        ((opportunityD_idle (by exact idle)).symm.trans (offerDecel_offers k d other).symm)

end Sys2Proof.Machine
end

section
/-! PROOFS. O16, O26 and O27: the notice entries, and the state that a cold reset leaves (R24, R96, R124, R191). -/

namespace Sys2Proof.Machine

/-! ## The notice entries (R191) -/

theorem noteOccurrence_busy {s : State} (busy : s.spine.sendingU.isSome = true) (k : Fin 17) (detail : List Byte) :
    noteOccurrence k detail s =
      s.setEntry k (s.notices.entries[k].occur (sourceLatched k) s.cycle.timecode detail) := opportunityU_busy busy

/-- The entry after an occurrence: fresh where it was not pending, and otherwise counted. -/
theorem NoticeEntry.occur_eq (e : NoticeEntry) (latched : Bool) (timecode : Timecode) (detail : List Byte) :
    e.occur latched timecode detail =
      if e.pending = false then ⟨true, false, 0, timecode, detail⟩
      else if latched then { e with count := satInc 255 e.count }
      else ⟨true, e.sent, satInc 255 e.count, timecode, detail⟩ := by
  obtain ⟨pending, _⟩ := e
  cases pending <;> rfl

theorem Notices.eligible_latched {n : Notices} {k : Fin 17} (latched : sourceLatched k = true)
    (sent : n.entries[k].sent = true) : n.eligible k = false := by
  unfold Notices.eligible
  rw [latched, sent, Bool.and_self, Bool.not_true, Bool.and_false, Bool.false_and, Bool.false_and]

theorem coldReset_entries (s : State) (k : Fin 17) : (coldReset s).notices.entries[k] = NoticeEntry.initial :=
  Vector.getElem_replicate ..

theorem warmReset_entries (s : State) (k : Fin 17) :
    (warmReset s).notices.entries[k] = s.notices.entries[k].warm := Vector.getElem_ofFn ..

/-- Settles O16: an entry at an occurrence, at its take, and at both resets. -/
theorem noticeEntriesChangeAsR191Says : Obligations.NoticeEntriesChangeAsR191Says := by
  unfold Obligations.NoticeEntriesChangeAsR191Says
  refine ⟨fun k detail s busy => ?_, fun k s => rfl, sourceLatched_iff, fun _ => rfl,
    fun n k latched sent => Notices.eligible_latched latched sent, fun s k => ?_⟩
  · rw [noteOccurrence_busy busy, NoticeEntry.occur_eq]
    rfl
  · dsimp only
    rw [coldReset_entries, warmReset_entries]
    exact ⟨⟨rfl, rfl, rfl, rfl⟩, rfl, rfl, rfl, rfl⟩

/-! ## The cold reset (R96, R124) -/

theorem Cause.code_eq_iff {c d : Cause} : c.code = d.code ↔ c = d :=
  ⟨fun eq => Cause.code_inj (congrArg Fin.val eq), congrArg Cause.code⟩

theorem causeOf_surjects : ∀ c : Fin 21, (causeOf c).code = c := by decide

theorem coldReset_lines (s : State) (n : Fin 4) : (coldReset s).stop.lines[n] = s.stop.lines[n].sampled :=
  Vector.getElem_ofFn ..

theorem LineRecord.discrepant_iff (r : LineRecord) : r.state = .discrepant ↔ r.a ≠ r.b := by
  obtain ⟨a, b, _, _⟩ := r
  cases a <;> cases b <;> simp [LineRecord.state]

/-- The line record that a cold reset leaves: the channels as they are found, the window of a discrepant line. -/
theorem LineRecord.sampled_eq (r : LineRecord) :
    r.sampled = ⟨r.a, r.b, if r.a = r.b then .stopped else .running 0 50, .absent⟩ := by
  unfold LineRecord.sampled
  by_cases same : r.a = r.b
  · rw [if_neg (mt r.discrepant_iff.mp (not_not.mpr same)), if_pos same]
  · rw [if_pos (r.discrepant_iff.mpr same), if_neg same]
    rfl

theorem coldReset_present (s : State) (c : Cause) :
    (coldReset s).stop.present[c.code] =
      ((match c with | .crewStop n => s.stop.lines[n].state != .clear | _ => false)
        || [(Cause.linkD, true), (.unconfigured, true), (.grip, true)].any fun j => j.2 && decide (j.1 = c)) := by
  have formed : (coldReset s).stop.present = causesOf (crewStops (coldReset s).stop.lines
      ++ [(.linkD, true), (.unconfigured, true), (.grip, true)]) := rfl
  rw [formed, causesOf_code, List.any_append, any_crewStops]
  congr 1
  cases c with
  | crewStop n =>
    dsimp only
    rw [coldReset_lines]
    rfl
  | _ => rfl

/-- Settles O26: record by record what the cold reset leaves, with the levels of the lines as they were found. -/
theorem coldResetSetsEveryRecord : Obligations.ColdResetSetsEveryRecord := by
  intro s
  refine ⟨coldReset s, rfl, rfl, rfl, rfl, rfl, rfl, rfl, rfl, rfl, rfl, rfl, rfl, rfl, rfl, rfl, rfl, rfl, rfl,
    fun n => ?_, fun c => ?_⟩
  · rw [coldReset_lines, LineRecord.sampled_eq]
    exact ⟨rfl, rfl, rfl, rfl⟩
  · obtain ⟨cause, rfl⟩ : ∃ cause : Cause, cause.code = c := ⟨causeOf c, causeOf_surjects c⟩
    rw [coldReset_present, Bool.eq_iff_iff]
    cases cause with
    | crewStop n => simp [Cause.code_eq_iff, LineRecord.clear_iff, imp_iff_not_or]
    | _ => simp [Cause.code_eq_iff]

/-! ## The state after reset (R124) -/

theorem coldReset_reset : coldReset State.reset = State.reset := by
  have lines : (Vector.ofFn fun n : Fin 4 => LineRecord.sampled State.reset.stop.lines[n]) = State.reset.stop.lines := by
    decide
  have present : causesOf (crewStops State.reset.stop.lines ++ [(.linkD, true), (.unconfigured, true), (.grip, true)]) =
      State.reset.stop.present := by decide
  unfold coldReset
  rw [lines]
  dsimp only
  rw [present]
  rfl

namespace State.reset

theorem takes_at (t : Fin 32) : State.reset.store.takes[t] = Take.initial := Vector.getElem_replicate ..

theorem entries_at (k : Fin 17) : State.reset.notices.entries[k] = NoticeEntry.initial := Vector.getElem_replicate ..

theorem zones_at (z : Fin 24) : State.reset.env.zones[z] = Zone.initial := Vector.getElem_replicate ..

theorem curves_at (i : Fin 3) : State.reset.lens.curves[i] = Curve.initial := Vector.getElem_replicate ..

theorem lensFlags_at (i : Fin 3) : (FlagSet.empty 3)[i] = false := Vector.getElem_replicate ..

theorem pose_at (k : Fin 10) : State.reset.pose.entries[k] = PoseEntry.initial := Vector.getElem_replicate ..

theorem counts_at (k : Fin 10) : (Vector.replicate 10 0)[k] = 0 := Vector.getElem_replicate ..

theorem present_at : ∀ c : Fin 21, State.reset.stop.present[c] =
    decide (c = Cause.linkD.code ∨ c = Cause.unconfigured.code ∨ c = Cause.grip.code) := by decide

theorem port_at (p : Port) : State.reset.link.port p = PortRecord.initial true := by cases p <;> rfl

theorem cutStands : CutStands State.reset := fun _ _ _ => rfl

theorem presentSetAgrees : PresentSetAgrees State.reset where
  crewStop := by unfold Mirrors; decide
  lineFault := by unfold Mirrors; decide
  driveFault := by unfold Mirrors; decide
  feedbackLost := by unfold Mirrors; decide
  linkD := rfl
  unconfigured := rfl
  grip := rfl
  consoleStop := rfl
  syncLost := rfl
  zone := fun present => by cases present
  rampTimeout := rfl
  follow := rfl
  slip := rfl
  mgmtRamp := rfl

theorem tripSetAgrees : TripSetAgrees State.reset := ⟨fun run => absurd run (by decide), fun _ _ present => present⟩

theorem limitsHeld : LimitsHeld State.reset := fun k =>
  ⟨fun valid => by simp [State.reset, AxisRecord.initial] at valid, fun v entry => by simp [State.reset] at entry⟩

theorem cutForgets : CutForgets State.reset := fun _ k => by simp [State.reset]

theorem free : State.reset.store.free = List.range 3072 := by simp only [State.reset]

theorem pagesConserved : PagesConserved State.reset := by
  have chains : State.reset.store.takes.toList.flatMap (·.chain) = [] := by simp [State.reset, Take.initial]
  exact List.Perm.of_eq ((congrArg (State.reset.store.free ++ ·) chains).trans ((List.append_nil _).trans free))

theorem takesRule : TakesRule True State.reset := takesRule_reset True

theorem portsAgree : PortsAgree State.reset :=
  ⟨PortRecord.initial_agrees _, PortRecord.initial_agrees _, by decide⟩

theorem agesBounded : AgesBounded State.reset := fun k => by simp [State.reset, PoseEntry.initial]

theorem ringsBounded : RingsBounded State.reset := fun k => by simp [State.reset, Player.initial]

theorem slotsAgree : SlotsAgree State.reset := fun n => by simpa [State.reset] using CueSlot.initial_agrees

theorem staleAgrees : StaleAgrees State.reset := fun i => by simp [State.reset, FlagSet.empty, AxisRecord.initial]

end State.reset

/-- Settles O27: the state after reset, record by record, with the invariants that hold of it. -/
theorem resetStateIsAsStated : Obligations.ResetStateIsAsStated := by
  unfold Obligations.ResetStateIsAsStated
  obtain ⟨takes, chains⟩ := State.reset.takesRule
  refine ⟨congrArg Host.Outcome.next coldReset_reset, rfl, rfl, rfl, rfl, rfl, rfl, rfl, rfl, rfl, rfl, rfl,
    fun k => ⟨Vector.getElem_replicate .., Vector.getElem_replicate ..⟩, rfl, State.reset.free, fun t => ?_, rfl, rfl, rfl, rfl, rfl, rfl, rfl, rfl, rfl, rfl, rfl, rfl, rfl, rfl,
    rfl, rfl, fun k => Vector.getElem_replicate .., rfl,
    ⟨rfl, rfl, rfl, rfl, rfl, rfl, rfl, rfl, fun n => Vector.getElem_replicate .., State.reset.present_at⟩,
    ⟨rfl, fun k => ?_⟩, ⟨rfl, rfl, fun p => ?_⟩,
    ⟨fun z => ?_, rfl, rfl, rfl, rfl, rfl, fun i => Vector.getElem_replicate .., rfl, rfl,
      fun z => Vector.getElem_replicate ..⟩,
    ⟨fun i => ?_, fun k => Vector.getElem_replicate .., rfl⟩,
    ⟨rfl, rfl, rfl, fun k => Vector.getElem_replicate .., rfl, fun k => ?_⟩,
    ⟨rfl, rfl, fun n => Vector.getElem_replicate ..⟩, fun a => rfl,
    ⟨State.reset.cutStands, State.reset.presentSetAgrees, rfl, State.reset.tripSetAgrees,
      ⟨rfl, fun _ => rfl, fun _ => rfl, rfl⟩, rfl, rfl, rfl⟩,
    ⟨State.reset.limitsHeld, State.reset.cutForgets, State.reset.pagesConserved, takes, State.reset.portsAgree, rfl⟩,
    ⟨⟨Nat.zero_le _, Nat.zero_le _, Nat.zero_le _, Nat.zero_le _⟩, State.reset.agesBounded, rfl,
      State.reset.ringsBounded, State.reset.slotsAgree, chains trivial⟩,
    State.reset.staleAgrees⟩
  · rw [State.reset.takes_at]
    exact ⟨rfl, rfl, rfl, rfl⟩
  · rw [State.reset.entries_at]
    exact ⟨rfl, rfl, rfl, rfl⟩
  · rw [State.reset.port_at]
    rfl
  · rw [State.reset.zones_at]
    exact ⟨rfl, rfl, rfl, rfl, rfl, rfl⟩
  · rw [State.reset.curves_at]
    exact ⟨rfl, State.reset.lensFlags_at i, State.reset.lensFlags_at i, State.reset.lensFlags_at i⟩
  · rw [State.reset.pose_at]
    exact ⟨rfl, State.reset.counts_at k, State.reset.counts_at k, State.reset.counts_at k⟩

end Sys2Proof.Machine
end

section
/-! PROOFS. O28: what the warm reset keeps and clears (R124, R189, R190). -/

namespace Sys2Proof.Machine

theorem warmResetDue_iff (s : State) :
    warmResetDue s = true ↔ s.mgmt.reset = .transmitted ∨ s.spine.sendingU.any (·.ofReset) = true := by
  unfold warmResetDue
  rw [Bool.or_eq_true, beq_iff_eq]

theorem exec_warmReset_notDue {s : State} (waits : warmResetDue s = false) : exec .warmReset s = .next s :=
  congrArg Host.Outcome.next (if_neg (by rw [waits]; decide))

/-- The present set that the warm reset forms from its judgements. -/
theorem warmReset_present (s : State) (c : Cause) :
    (warmReset s).stop.present[c.code] =
      (warmJudgements s s.pose.warm).any fun j => j.2 && decide (j.1 = c) := causesOf_code _ c

/-- After the pose record is cleared, every axis 0 to 6 with a valid record is lost. -/
theorem warm_anyLost (p : Pose) : p.warm.anyLost = (List.finRange 7).any fun k => p.axes[k.val].valid := by
  rw [Bool.eq_iff_iff]
  have lost : ∀ k : Axis, p.warm.lost k = p.axes[k].valid := fun k => by simp [Pose.lost, Pose.warm, PoseEntry.initial]
  simp only [anyLost_iff, lost, List.any_eq_true]
  exact ⟨fun ⟨k, motion, valid⟩ => ⟨⟨k.val, by omega⟩, List.mem_finRange _, valid⟩,
    fun ⟨k, _, valid⟩ => ⟨⟨k.val, by omega⟩, Nat.le_of_lt_succ k.isLt, valid⟩⟩

theorem warm_unconfigured (p : Pose) : p.warm.unconfigured = p.unconfigured := rfl

theorem warm_sendingU (sp : Spine) :
    sp.warm.sendingU = if sp.sendingU.any (·.ofReset) then none else sp.sendingU := by
  unfold Spine.warm
  cases sp.sendingU with
  | none => rfl
  | some x => rfl

theorem warm_link (s : State) :
    (warmReset s).env.scale.link = if s.link.d.state = .degraded then s.stop.config.degradeFactor else 16 :=
  if_congr beq_iff_eq rfl rfl

theorem warm_effective (s : State) :
    (warmReset s).env.scale.effective = min 16 (warmReset s).env.scale.link := by
  have scale : (warmReset s).env.scale.effective = min 16 (min (warmReset s).env.scale.link 16) := rfl
  omega

theorem warmReset_words (s : State) : (warmReset s).store.words = s.store.words := by
  rw [warmReset_store, eraseLoadings_words, closeRecorder_words]

/-- Settles O28: record by record what the warm reset leaves. -/
theorem warmResetKeepsAndClears : Obligations.WarmResetKeepsAndClears := by
  intro s
  refine ⟨fun waits noReply => exec_warmReset_notDue ?_, fun due =>
    ⟨warmReset s, exec_warmReset_of_due ((warmResetDue_iff s).mpr due), ?_⟩⟩
  · rw [Bool.eq_false_iff]
    exact fun due => ((warmResetDue_iff s).mp due).elim waits fun reply => by rw [noReply] at reply; cases reply
  refine ⟨rfl, rfl, rfl, rfl, rfl, rfl, rfl, fun k => Vector.getElem_replicate .., rfl, rfl, warm_sendingU s.spine, rfl,
    rfl, rfl, rfl, rfl, rfl, rfl, rfl, rfl, rfl, rfl, rfl, rfl, rfl, warm_link s, warm_effective s, rfl, rfl, rfl, rfl,
    (warmReset_present s .mgmtCut).trans ?_, (warmReset_present s .linkD).trans ?_,
    (warmReset_present s .driveFault).trans ?_, (warmReset_present s .grip).trans ?_,
    (warmReset_present s .consoleStop).trans ?_, (warmReset_present s .unconfigured).trans ?_,
    (warmReset_present s .zone).trans ?_, (warmReset_present s .syncLost).trans ?_,
    (warmReset_present s .feedbackLost).trans ?_,
    fun n => ⟨(warmReset_present s (.crewStop n)).trans ?_, (warmReset_present s (.lineFault n)).trans ?_⟩,
    rfl, rfl, rfl, rfl, rfl, rfl, rfl, rfl, rfl, rfl, rfl, rfl, rfl,
    fun i => ⟨Vector.getElem_replicate .., Vector.getElem_replicate .., Vector.getElem_replicate ..⟩,
    warmReset_words s, rfl, rfl, fun n => Vector.getElem_ofFn .., rfl, rfl⟩
  -- each judgement is about one cause, which the others do not name
  all_goals
    rw [warmJudgements, List.any_append, List.any_append, any_crewStops, any_lineFaults]
    simp [warm_anyLost, warm_unconfigured]

end Sys2Proof.Machine
end

section
/-! PROOFS. O43 and O44: the requests of the player and of the lenses (R125 to R127, R138, R139, R162 to R164, R167, R170
to R172). -/

namespace Sys2Proof.Machine

/-! ## A change of player state (R162) -/

/-- What occurs from the state after the take of a request occurs from the state before it. -/
theorem Takes.occurrences {s s' t : State} {r : Request} (h : Takes s r s') {k : Fin 17} {details : List (List Byte)}
    (occurs : Occurrences k details s' t) : Occurrences k details s t := by
  obtain ⟨rest, -, rfl⟩ := h.head
  exact occurs

theorem enterPlayer_raised (new : PlayerState) (s : State) :
    Occurrences 5 [playerDetail new s.player] s (enterPlayer new s) := by
  have entered : Noted [] s (s.withPlayer { s.player with state := new }) := .of_same rfl (fun _ => rfl) fun _ => rfl
  have notes := entered.trans ((raise_noted (s.withPlayer { s.player with state := new }) 5
    (playerDetail new s.player)).trans (refreshLamps_noted _))
  refine notes.occurrences ?_
  rw [detailsOf_append, detailsOf_append, detailsOf_raiseLog (by decide) (by decide)]
  rfl

theorem playerDetail_eq (new : PlayerState) (p : Player) :
    playerDetail new p =
      [p.state.code, new.code]
        ++ (match p.take with | some q => [0x01#8, u8 q.val] | none => [0x00#8, 0x00#8]) ++ natBE 3 p.index := by
  unfold playerDetail
  cases p.take <;> rfl

/-- An entry of the player leaves the gate, the take store, the pose and the recorder as they stand. -/
theorem enterPlayer_stands (new : PlayerState) (s : State) :
    (enterPlayer new s).gate = s.gate ∧ (enterPlayer new s).store = s.store ∧ (enterPlayer new s).pose = s.pose
      ∧ (enterPlayer new s).recorder = s.recorder := by simp

/-- An entry of the player that a request makes, its record replaced before it. -/
theorem Takes.enterPlayer {s s' : State} {r : Request} (h : Takes s r s') (new : PlayerState) (p : Player) :
    let t := Machine.enterPlayer new (s'.withPlayer p)
    t.player = { p with state := new } ∧ Occurrences 5 [playerDetail new p] s t ∧ t.gate = s.gate ∧ t.store = s.store
      ∧ t.pose = s.pose ∧ t.recorder = s.recorder := by
  obtain ⟨gate, store, pose, recorder⟩ := enterPlayer_stands new (s'.withPlayer p)
  have occurs : Occurrences 5 [playerDetail new p] s' (Machine.enterPlayer new (s'.withPlayer p)) :=
    enterPlayer_raised new (s'.withPlayer p)
  refine ⟨enterPlayer_player .., h.occurrences occurs, ?_⟩
  obtain ⟨rest, -, rfl⟩ := h.head
  exact ⟨gate, store, pose, recorder⟩

/-! ## The requests of the player (R163, R164, R167, R171, R172) -/

section
variable {s : State} {t : Fin 32}

/-- The tests of CUE that refuse it (R163). -/
def CueRefused (t : Fin 32) (s : State) : Prop :=
  s.player.state ≠ .idle ∨ s.stop.state ≠ .run ∨ s.store.takes[t].state ≠ .closed ∨ s.store.takes[t].samples = 0
    ∨ (s.store.takes[t].mask[7] = true ∧ s.lens.follow.on = true)

/-- A lens axis of the take's mask has no valid curve of the stored fingerprint (R163, test 7). -/
def CueMismatch (t : Fin 32) (s : State) : Prop :=
  ∃ i : Fin 3, s.store.takes[t].mask[lensAxis i] = true
    ∧ (s.lens.curves[i].valid = false ∨ s.store.takes[t].prints[i] ≠ some s.lens.curves[i].fingerprint)

theorem printsMatch_iff : printsMatch s.store.takes[t] s.lens = true ↔ ¬CueMismatch t s := by
  simp [printsMatch, CueMismatch, Lens.matchesPrint, or_iff_not_imp_left]

theorem cueTake_refused (refused : CueRefused t s) : cueTake t s = (.refused, s) := by
  unfold cueTake
  dsimp only
  split_ifs with idle run closed empty follow
  · rfl
  · rfl
  · rfl
  · rfl
  · rfl
  all_goals
    rw [Bool.and_eq_true] at follow
    exact absurd refused (by unfold CueRefused; tauto)

theorem cueTake_passes (passes : ¬CueRefused t s) :
    cueTake t s =
      if !printsMatch s.store.takes[t] s.lens then (.mismatch, s)
      else (.ok, enterPlayer .cueing
        (s.withPlayer { Player.initial with take := some t, mask := s.store.takes[t].mask })) := by
  unfold CueRefused at passes
  push Not at passes
  obtain ⟨idle, run, closed, samples, follow⟩ := passes
  refine (if_neg (not_not.mpr idle)).trans ((if_neg (not_not.mpr run)).trans ((if_neg (not_not.mpr closed)).trans
    ((if_neg samples).trans (if_neg ?_))))
  rw [Bool.and_eq_true]
  exact fun ⟨masked, on⟩ => follow masked on

theorem cueTake_mismatch (passes : ¬CueRefused t s) (mismatch : CueMismatch t s) : cueTake t s = (.mismatch, s) := by
  have differs : printsMatch s.store.takes[t] s.lens = false :=
    Bool.eq_false_iff.mpr fun fit => printsMatch_iff.mp fit mismatch
  rw [cueTake_passes passes, differs]
  rfl

theorem cueTake_accepts (passes : ¬CueRefused t s) (fits : ¬CueMismatch t s) :
    cueTake t s =
      (.ok, enterPlayer .cueing
        (s.withPlayer { Player.initial with take := some t, mask := s.store.takes[t].mask })) := by
  rw [cueTake_passes passes, printsMatch_iff.mpr fits]
  rfl

theorem natBE_zero : natBE 3 0 = [0x00#8, 0x00#8, 0x00#8] := by decide

theorem playerDetail_cue (t : Fin 32) (mask : FlagSet 10) :
    playerDetail .cueing { Player.initial with take := some t, mask := mask } =
      [0x00#8, 0x01#8, 0x01#8, u8 t.val, 0x00#8, 0x00#8, 0x00#8] := by
  rw [playerDetail_eq, Player.initial, natBE_zero]
  rfl

theorem playerDetail_release (state : PlayerState) :
    playerDetail .idle { Player.initial with state := state } = state.code :: List.replicate 6 0x00#8 := by
  rw [playerDetail_eq, Player.initial, natBE_zero]
  rfl

theorem releasable_iff (p : PlayerState) : p.releasable = true ↔ p = .ready ∨ p = .suspended ∨ p = .holding := by
  cases p <;> decide

end

/-- Settles O43: the tests of each request of the player in order, what it leaves, and notice 5. -/
theorem playerRequestsAct : Obligations.PlayerRequestsAct := by
  unfold Obligations.PlayerRequestsAct
  refine ⟨rfl, fun new s => ⟨enterPlayer_player new s, playerDetail_eq new s.player ▸ enterPlayer_raised new s⟩,
    fun s s' tag => ⟨fun t h => ?_, fun h => ?_, fun h => ?_, fun h => ?_⟩⟩
  · have reply := h.replies_body (row := .cue) rfl (a := t) (oneFin_byte (by decide) t) rfl
    obtain ⟨player, occurs, stands⟩ := h.enterPlayer .cueing
      { Player.initial with take := some t, mask := s'.store.takes[t].mask }
    rw [playerDetail_cue] at occurs
    have accepts := cueTake_accepts (t := t) (s := s')
    have mismatched := cueTake_mismatch (t := t) (s := s')
    have refuses := cueTake_refused (t := t) (s := s')
    obtain ⟨rest, -, rfl⟩ := h.head
    exact ⟨fun refused => reply (congrArg answerOf (refuses refused)),
      fun passes mismatch => reply (congrArg answerOf (mismatched passes mismatch)),
      fun passes fits => ⟨_, reply (congrArg answerOf (accepts passes fits)), player, occurs, stands⟩⟩
  · have reply := h.replies_operation (row := .go) rfl rfl
    obtain ⟨rest, -, rfl⟩ := h.head
    exact ⟨fun ready => reply (congrArg answerOf (if_pos ready)), fun other => reply (congrArg answerOf (if_neg other))⟩
  · have reply := h.replies_operation (row := .resume) rfl rfl
    obtain ⟨player, occurs, stands⟩ := h.enterPlayer .cueing
      { s'.player with index := resumeIndex s'.player, suspendedFrom := none, rings := Vector.replicate 10 [] }
    rw [playerDetail_eq] at occurs
    obtain ⟨rest, -, rfl⟩ := h.head
    refine ⟨fun refused => reply (congrArg answerOf (if_neg (not_and_or.mpr refused))), fun suspended run => ?_⟩
    refine ⟨_, reply (congrArg answerOf (if_pos ⟨suspended, run⟩)), player, fun q take => ?_, stands⟩
    rw [State.withMgmt_player, suspended, take] at occurs
    rw [player]
    exact occurs
  · have reply := h.replies_operation (row := .release) rfl rfl
    obtain ⟨player, occurs, stands⟩ := h.enterPlayer .idle { Player.initial with state := s'.player.state }
    rw [playerDetail_release] at occurs
    have releases := releasable_iff s'.player.state
    obtain ⟨rest, -, rfl⟩ := h.head
    refine ⟨fun refused => reply (congrArg answerOf (if_neg fun can => ?_)), fun can =>
      ⟨_, reply (congrArg answerOf (if_pos (releases.mpr can))), player, occurs, stands⟩⟩
    obtain eq | eq | eq := refused <;> rw [State.withMgmt_player, eq] at can <;> cases can

end Sys2Proof.Machine
end

section
/-! PROOFS. O44: the requests of the lenses (R125 to R127, R138, R139). -/

namespace Sys2Proof.Machine

/-! ## The points of a curve (R125) -/

/-- A list is in the order of a transitive relation where each member is so with the next. -/
theorem pairwise_iff_next {α : Type} {r : α → α → Prop} {l : List α} (trans : ∀ {p q t}, r p q → r q t → r p t) :
    l.Pairwise r ↔ ∀ (j : Nat) (p q : α), l[j]? = some p → l[j + 1]? = some q → r p q := by
  have : Trans r r r := ⟨trans⟩
  rw [← List.isChain_iff_pairwise, List.isChain_iff_getElem]
  refine ⟨fun next j p q hp hq => ?_, fun next j hj => ?_⟩
  · obtain ⟨_, rfl⟩ := List.getElem?_eq_some_iff.mp hp
    obtain ⟨later, rfl⟩ := List.getElem?_eq_some_iff.mp hq
    exact next j later
  · exact next j _ _ (List.getElem?_eq_getElem _) (List.getElem?_eq_getElem _)

theorem curvePointsOk_iff (i : Fin 3) (points : List CurvePoint) :
    curvePointsOk i points = true
      ↔ (2 ≤ points.length ∧ points.length ≤ 24)
        ∧ (∀ p ∈ points, (userRange i).1 ≤ p.user ∧ p.user ≤ (userRange i).2)
        ∧ points.Pairwise (fun p q => p.user < q.user)
        ∧ (points.Pairwise (fun p q => p.count < q.count) ∨ points.Pairwise fun p q => q.count < p.count) := by
  simp only [curvePointsOk, Bool.and_eq_true, Bool.or_eq_true, List.all_eq_true, decide_eq_true_iff, and_assoc]

/-! ## The requests -/

section
variable {s : State} {i : Fin 3} {identity : Vector Byte 4} {points : List CurvePoint}

/-- The player or the recorder has the lens axis in its mask (R127). -/
def CurveHeld (i : Fin 3) (s : State) : Prop :=
  s.player.mask[lensAxis i] = true ∨ (s.recorder.state ≠ .idle ∧ s.recorder.mask[lensAxis i] = true)

theorem recorderHolds_iff : recorderHolds i s = true ↔ s.recorder.state ≠ .idle ∧ s.recorder.mask[lensAxis i] = true := by
  rw [recorderHolds, Bool.and_eq_true, bne_iff_ne]

theorem runCurveLoad_held (held : CurveHeld i s) : runCurveLoad i identity points s = refuse .refused s := by
  unfold runCurveLoad
  split_ifs with masked holds
  · rfl
  · rfl
  all_goals exact absurd held (not_or.mpr ⟨masked, mt recorderHolds_iff.mpr holds⟩)

theorem runCurveLoad_free (free : ¬CurveHeld i s) :
    runCurveLoad i identity points s =
      if curvePointsOk i points = true ∧ ∀ b ∈ identity.toList, b.toNat ≤ 127 then
        ⟨.ok, natBE 2 (curveFingerprint identity points).toNat,
          s.withLens { s.lens with
            curves := s.lens.curves.set i.val ⟨true, points, identity, curveFingerprint identity points⟩ }⟩
      else refuse .invalid s := by
  obtain ⟨masked, holds⟩ := not_or.mp free
  have fit : (curvePointsOk i points && identity.toList.all fun b => decide (b.toNat ≤ 0x7F)) = true
      ↔ curvePointsOk i points = true ∧ ∀ b ∈ identity.toList, b.toNat ≤ 127 := by
    simp only [Bool.and_eq_true, List.all_eq_true, decide_eq_true_iff]
  refine (if_neg masked).trans ((if_neg (mt recorderHolds_iff.mp holds)).trans ?_)
  by_cases ok : curvePointsOk i points = true ∧ ∀ b ∈ identity.toList, b.toNat ≤ 127
  · rw [if_pos ok]
    exact if_neg (by rw [fit.mpr ok]; decide)
  · rw [if_neg ok]
    exact if_pos (by rw [Bool.eq_false_iff.mpr (mt fit.mp ok)]; rfl)

theorem followOn_refused {k : Fin 4} (refused : s.lens.curves[0].valid = false ∨ s.player.mask[7] = true) :
    followOn k s = (.refused, s) :=
  if_pos (by rw [Bool.or_eq_true, Bool.not_eq_true']; exact refused)

theorem followOn_accepted {k : Fin 4} (valid : s.lens.curves[0].valid = true) (unmasked : s.player.mask[7] = false) :
    followOn k s = (.ok, turnFollowOn k s) :=
  if_neg (by rw [valid, unmasked]; decide)

theorem oneFin_beyond {n : Nat} {b : Byte} (beyond : n ≤ b.toNat) : oneFin n [b] = none := by
  unfold oneFin readFin finOf
  dsimp only
  rw [dif_neg (Nat.not_lt.mpr beyond)]
  rfl

end

/-- Settles O44: the order of a curve's points, and each request of the lenses in the order of its tests. -/
theorem lensRequestsAct : Obligations.LensRequestsAct := by
  unfold Obligations.LensRequestsAct
  refine ⟨fun i points => ?_, fun s s' tag => ⟨fun body i identity points read h => ?_, fun k h => ?_, fun b beyond h => ?_,
    fun h => ?_⟩⟩
  · have users := pairwise_iff_next (r := fun p q : CurvePoint => p.user < q.user) (l := points) Nat.lt_trans
    have rises := pairwise_iff_next (r := fun p q : CurvePoint => p.count < q.count) (l := points) Int.lt_trans
    have falls := pairwise_iff_next (r := fun p q : CurvePoint => q.count < p.count) (l := points) fun h g =>
      Int.lt_trans g h
    rw [curvePointsOk_iff, users, rises, falls, and_assoc]
    fin_cases i <;> exact Iff.rfl
  · have reply := h.replies_body (row := .curveLoad) rfl read rfl
    have held := runCurveLoad_held (i := i) (identity := identity) (points := points) (s := s')
    have free := runCurveLoad_free (i := i) (identity := identity) (points := points) (s := s')
    obtain ⟨rest, -, rfl⟩ := h.head
    exact ⟨fun holds => reply (held holds), fun not unfit => reply ((free not).trans (if_neg unfit)),
      fun not fit => reply ((free not).trans (if_pos fit))⟩
  · have reply := h.replies_body (row := .followOn) rfl (a := k) (oneFin_byte (by decide) k) rfl
    have refuses := followOn_refused (k := k) (s := s')
    have accepts := followOn_accepted (k := k) (s := s')
    obtain ⟨rest, -, rfl⟩ := h.head
    exact ⟨fun refused => reply (congrArg answerOf (refuses refused)),
      fun valid unmasked => reply (congrArg answerOf (accepts valid unmasked))⟩
  · exact h.replies (row := .followOn) rfl rfl (by simp only [withBody, oneFin_beyond beyond]; rfl)
  · have reply := h.replies_operation (row := .followOff) rfl rfl
    obtain ⟨rest, -, rfl⟩ := h.head
    exact ⟨fun on => reply (congrArg accept (if_pos on)), fun off => reply (congrArg accept (if_neg (by exact Bool.eq_false_iff.mp off)))⟩

end Sys2Proof.Machine
end

section
/-! PROOFS. O38: the configuration lock, RESET, and when no request acts (R184, R188, R189). -/

namespace Sys2Proof.Machine

/-! ## The commands of the request rows (R184) -/

section
variable {row : Instr} {s : State}

/-- With no request of its row to take, a request command changes nothing. -/
theorem execute_untaken {run : Request → State → Answer} (none : takeRequest row s = none) : execute row run s = s := by
  unfold execute
  rw [none]

theorem eraseRequest_untaken (none : takeRequest .erase s = none) : eraseRequest s = s := by
  unfold eraseRequest
  rw [none]

theorem resetRequest_untaken (none : takeRequest .reset s = none) : resetRequest s = s := by
  unfold resetRequest
  rw [none]

/-- The command of a request row runs its request in one event, but for ERASE and RESET. -/
theorem exec_requestRow (mem : row ∈ requestRows) :
    row = .erase ∨ row = .reset ∨ ∃ run, ∀ s, exec row s = .next (execute row run s) := by
  cases row with
  | erase => exact .inl rfl
  | reset => exact .inr (.inl rfl)
  | coldReset | warmReset | cycReceived | gestureComplete | pulseMaximumExceeded | gapMaximumExceeded | setReceived
  | fbkReceived | mgtReceived | rpyReceived | badFrame | eightGood | badRun | window | signalLost | signalRegained
  | linkUpTimerExpiry | degradeHoldTimerExpiry | uTransmitComplete | dTransmitComplete | syncTimerExpiry
  | substituteTimerExpiry | rampTimeout | crewStopChannelChange | discrepancyWindowExpiry | presenceInputChange
  | serviceKeyChange | lampPatternPeriod | erasePageReturn | linkTestBitReceived => simp [requestRows] at mem
  | _ => exact .inr (.inr ⟨_, fun _ => rfl⟩)

theorem exec_untaken (mem : row ∈ requestRows) (none : takeRequest row s = none) : exec row s = .next s := by
  obtain rfl | rfl | ⟨run, runs⟩ := exec_requestRow mem
  · exact congrArg Host.Outcome.next (eraseRequest_untaken none)
  · exact congrArg Host.Outcome.next (resetRequest_untaken none)
  · rw [runs, execute_untaken none]

/-- No request is taken while an ERASE is under way, after a RESET is answered, or with no room for a reply. -/
theorem takeRequest_blocked
    (blocked : s.mgmt.erasing.isSome = true ∨ s.mgmt.reset ≠ .none ∨ 4 ≤ s.mgmt.replies.length) :
    takeRequest row s = none := by
  have waits : s.mgmt.canStart = false := by
    rw [Bool.eq_false_iff]
    intro starts
    simp only [Mgmt.canStart, Bool.and_eq_true, Option.isNone_iff_eq_none, beq_iff_eq, decide_eq_true_iff] at starts
    obtain ⟨⟨idle, noReset⟩, room⟩ := starts
    obtain erasing | reset | full := blocked
    · rw [idle] at erasing
      cases erasing
    · exact reset noReset
    · exact absurd room (Nat.not_lt.mpr full)
  unfold takeRequest
  split
  · rfl
  · exact if_neg fun ⟨starts, _⟩ => by rw [waits] at starts; cases starts

theorem takeRequest_empty (empty : s.mgmt.requests = []) : takeRequest row s = none := by
  unfold takeRequest
  rw [empty]

theorem takeRequest_other {r : Request} {rest : List Request} (head : s.mgmt.requests = r :: rest) (other : r.row ≠ row) :
    takeRequest row s = none := by
  unfold takeRequest
  rw [head]
  exact if_neg fun ⟨_, own⟩ => other own

end

/-! ## RESET (R189) -/

theorem exec_reset_accepts {s s' : State} {tag : Byte} (h : Takes s ⟨tag, 0x1D#8, []⟩ s') :
    exec .reset s =
      .next (appendReply tag .ok [] true (s'.withMgmt { s'.mgmt with reset := .replying })) := by
  have taken : takeRequest .reset s = some (⟨tag, 0x1D#8, []⟩, s') := takeRequest_of_takes h
  refine congrArg Host.Outcome.next ?_
  unfold resetRequest
  rw [taken]
  rfl

/-- A reply appended leaves the phase of a RESET and the requests, and with a RESET under way none starts. -/
theorem appendReply_reset (tag : Byte) (result : Result) (body : List Byte) (ofReset : Bool) (s : State) :
    (appendReply tag result body ofReset s).mgmt.reset = s.mgmt.reset
      ∧ (appendReply tag result body ofReset s).mgmt.requests = s.mgmt.requests := by simp

theorem canStart_of_reset {m : Mgmt} (reset : m.reset ≠ .none) : m.canStart = false := by
  unfold Mgmt.canStart
  rw [beq_eq_false_iff_ne.mpr reset, Bool.and_false, Bool.false_and]

/-- Settles O38: the lock, the service key and RESET, and the request commands that find nothing to take. -/
theorem lockAndResetRequestsAct : Obligations.LockAndResetRequestsAct := by
  unfold Obligations.LockAndResetRequestsAct
  refine ⟨fun row mem s => ⟨fun blocked => exec_untaken mem (takeRequest_blocked blocked),
      fun empty => exec_untaken mem (takeRequest_empty empty),
      fun r rest head other => exec_untaken mem (takeRequest_other head other)⟩,
    fun s s' tag => ⟨fun h => h.replies_operation (row := .lockConfig) rfl rfl rfl, fun h => ?_, fun h => ?_⟩⟩
  · have reply := h.replies_operation (row := .unlockConfig) rfl rfl
    obtain ⟨rest, -, rfl⟩ := h.head
    exact ⟨fun key => reply (if_pos key), fun noKey => reply (if_neg (Bool.eq_false_iff.mp noKey))⟩
  · obtain ⟨reset, requests⟩ := appendReply_reset tag .ok [] true (s'.withMgmt { s'.mgmt with reset := .replying })
    have replying : (appendReply tag .ok [] true (s'.withMgmt { s'.mgmt with reset := .replying })).mgmt.reset ≠ .none := by
      rw [reset]
      exact fun none => by cases none
    refine ⟨_, exec_reset_accepts h, rfl, replying, canStart_of_reset replying, requests, ?_⟩
    obtain ⟨rest, -, rfl⟩ := h.head
    simp

end Sys2Proof.Machine
end

section
/-! PROOFS. O40: arming the recorder and its end by request (R154 to R156, R159). -/

namespace Sys2Proof.Machine

/-! ## The tests of ARM_RECORD (R154) -/

section
variable {s : State} {t : Fin 32} {mask : FlagSet 10}

/-- The tests of ARM_RECORD that refuse it before the curves are judged (R154). -/
def ArmRefused (t : Fin 32) (s : State) : Prop :=
  s.stop.state ≠ .run ∨ s.recorder.state ≠ .idle ∨ s.store.takes[t].state ≠ .empty ∨ s.player.take = some t

/-- A lens axis of the mask has no valid curve (R154). -/
def ArmNoCurve (mask : FlagSet 10) (s : State) : Prop :=
  ∃ i : Fin 3, mask[lensAxis i] = true ∧ s.lens.curves[i].valid = false

/-- An axis of the mask has no start value (R154). -/
def ArmNoStart (mask : FlagSet 10) (s : State) : Prop := ∃ k : Fin 10, mask[k] = true ∧ startValue s k = none

/-- The recorder as ARM_RECORD leaves it (R154). -/
def armedRecorder (t : Fin 32) (mask : FlagSet 10) (s : State) : Recorder :=
  { state := .armed, take := some t, mask := mask, prints := maskPrints mask s.lens
    buffer := Vector.ofFn fun k : Fin 10 => if mask[k] then (startValue s k).getD 0 else 0
    openCycle := none, repeats := 0 }

theorem armRecord_empty (empty : ∀ k : Fin 10, mask[k] = false) : armRecord t mask s = (.invalid, s) :=
  if_pos (isEmpty_iff.mpr empty)

theorem armRecord_refused (some' : ∃ k : Fin 10, mask[k] = true) (refused : ArmRefused t s) :
    armRecord t mask s = (.refused, s) := by
  obtain ⟨k, masked⟩ := some'
  unfold armRecord
  split_ifs with empty run idle taken
  · exact absurd (isEmpty_iff.mp empty k) (by rw [masked]; decide)
  · rfl
  · rfl
  · rfl
  all_goals exact absurd refused (by unfold ArmRefused; tauto)

/-- Where nothing refuses an arming, the curves are judged, then the start values. -/
theorem armRecord_passes (some' : ∃ k : Fin 10, mask[k] = true) (passes : ¬ArmRefused t s) :
    armRecord t mask s =
      if (List.finRange 3).any fun i => mask[lensAxis i] && !s.lens.curves[i].valid then (.mismatch, s)
      else if (FlagSet.members mask).any fun k => (startValue s k).isNone then (.refused, s)
      else (.ok, refreshLamps (s.withRecorder (armedRecorder t mask s))) := by
  obtain ⟨k, masked⟩ := some'
  unfold ArmRefused at passes
  push Not at passes
  obtain ⟨run, idle, empty, player⟩ := passes
  refine (if_neg fun none => ?_).trans ((if_neg (not_not.mpr run)).trans ((if_neg (not_not.mpr idle)).trans
    (if_neg (not_or.mpr ⟨not_not.mpr empty, player⟩))))
  exact absurd (isEmpty_iff.mp none k) (by rw [masked]; decide)

theorem armNoCurve_iff :
    ((List.finRange 3).any fun i => mask[lensAxis i] && !s.lens.curves[i].valid) = true ↔ ArmNoCurve mask s := by
  simp [ArmNoCurve]

theorem armNoStart_iff :
    ((FlagSet.members mask).any fun k => (startValue s k).isNone) = true ↔ ArmNoStart mask s := by
  simp [ArmNoStart, FlagSet.mem_members]

/-- A masked axis is armed with its start value. -/
theorem armedRecorder_buffer (k : Fin 10) (starts : ¬ArmNoStart mask s) (masked : mask[k] = true) :
    startValue s k = some (armedRecorder t mask s).buffer[k] := by
  have buffer : (armedRecorder t mask s).buffer[k] = if mask[k] then (startValue s k).getD 0 else 0 :=
    Vector.getElem_ofFn ..
  rw [buffer, if_pos masked]
  cases value : startValue s k with
  | none => exact absurd ⟨k, masked, value⟩ starts
  | some v => rfl

theorem armedRecorder_prints (i : Fin 3) :
    (armedRecorder t mask s).prints[i] = if mask[lensAxis i] then some s.lens.curves[i].fingerprint else none :=
  Vector.getElem_ofFn ..

end

/-! ## The end of a recording or an arming by request (R156, R159) -/

section
variable {s : State} {t : Fin 32}

/-- The end of an arming: the store stands, and notice 9 tells of no samples. -/
theorem endRecording_armed (take : s.recorder.take = some t) (armed : s.recorder.state = .armed) (e : EndReason) :
    (endRecording e s).recorder = Recorder.initial ∧ (endRecording e s).store = s.store
      ∧ Occurrences 9 [recordEndDetail t e 0 0] s (endRecording e s) := by
  obtain ⟨recorder, store⟩ := endRecording_records take e
  have raised := (endRecording_raised take e).occurrences
  rw [if_neg (by rw [armed]; decide)] at raised
  refine ⟨recorder, store.trans ?_, raised⟩
  unfold closeRecorder
  rw [armed]
  rfl

/-- The end of a recording: its take is CLOSED with the reason, and notice 9 tells of its samples and pages. -/
theorem endRecording_recording (take : s.recorder.take = some t) (recording : s.recorder.state = .recording)
    (e : EndReason) :
    (endRecording e s).recorder = Recorder.initial
      ∧ (endRecording e s).store = s.store.setTake t { s.store.takes[t] with state := .closed, endReason := some e }
      ∧ Occurrences 9 [recordEndDetail t e s.store.takes[t].samples s.store.takes[t].chain.length] s
        (endRecording e s) := by
  obtain ⟨recorder, store⟩ := endRecording_records take e
  have raised := (endRecording_raised take e).occurrences
  rw [if_pos recording] at raised
  refine ⟨recorder, store.trans ?_, raised⟩
  unfold closeRecorder
  rw [recording, take]
  rfl

theorem endRecording_stands (e : EndReason) (s : State) :
    (endRecording e s).player = s.player ∧ (endRecording e s).gate = s.gate ∧ (endRecording e s).pose = s.pose := by
  simp

theorem stopRecord_armed (armed : s.recorder.state = .armed) : stopRecord s = (.ok, endRecording .normal s) := by
  unfold stopRecord stopRecording
  rw [armed]
  rfl

theorem stopRecord_written {st : Store} (take : s.recorder.take = some t) (recording : s.recorder.state = .recording)
    (written : s.store.writeSample t s.recorder.sample = some st) :
    stopRecord s = (.ok, endRecording .normal (s.withStore st)) := by
  have one : writeSamples t s 1 false = (s.withStore st, true) := by
    unfold writeSamples
    rw [written]
    rfl
  unfold stopRecord stopRecording
  rw [recording, take]
  dsimp only
  rw [one]
  rfl

theorem stopRecord_full (take : s.recorder.take = some t) (recording : s.recorder.state = .recording)
    (full : s.store.writeSample t s.recorder.sample = none) : stopRecord s = (.ok, endRecording .storeFull s) := by
  have one : writeSamples t s 1 false = (s, false) := by
    unfold writeSamples
    rw [full]
  unfold stopRecord stopRecording
  rw [recording, take]
  dsimp only
  rw [one]
  rfl

end

theorem recordEndDetail_empty (t : Fin 32) :
    recordEndDetail t .normal 0 0 = [u8 t.val, 0x00#8] ++ List.replicate 5 0x00#8 := by
  have zeros : natBE 3 0 ++ natBE 2 0 = List.replicate 5 0x00#8 := by decide
  rw [recordEndDetail, List.append_assoc, zeros]
  rfl

/-- Settles O40: the tests of ARM_RECORD in order, and the end of an arming and of a recording with its notice. -/
theorem recorderRequestsAct : Obligations.RecorderRequestsAct := by
  unfold Obligations.RecorderRequestsAct
  refine fun s s' tag => ⟨fun t mask h => ?_, fun h => ?_⟩
  · have reply := h.replies_body (row := .armRecord) rfl (a := (t, mask)) (readArm_recStart t mask) rfl
    have refuses := armRecord_refused (t := t) (mask := mask) (s := s')
    have passing := armRecord_passes (t := t) (mask := mask) (s := s')
    have noCurve := armNoCurve_iff (mask := mask) (s := s')
    have noStart := armNoStart_iff (mask := mask) (s := s')
    have buffer := armedRecorder_buffer (t := t) (mask := mask) (s := s')
    have prints := armedRecorder_prints (t := t) (mask := mask) (s := s')
    obtain ⟨rest, -, rfl⟩ := h.head
    refine ⟨fun empty => reply (congrArg answerOf (armRecord_empty empty)), fun some' =>
      ⟨fun refused => reply (congrArg answerOf (refuses some' refused)),
        fun passes differs => reply (congrArg answerOf ((passing some' passes).trans (if_pos (noCurve.mpr differs)))),
        fun passes fits missing => reply (congrArg answerOf ((passing some' passes).trans
          ((if_neg (mt noCurve.mp fits)).trans (if_pos (noStart.mpr missing))))),
        fun passes fits starts => ⟨_, reply (congrArg answerOf ((passing some' passes).trans
          ((if_neg (mt noCurve.mp fits)).trans (if_neg (mt noStart.mp starts))))), rfl, rfl, rfl,
          fun k masked => buffer k starts masked, prints⟩⟩⟩
  · have reply := h.replies_operation (row := .stopRecord) rfl rfl
    have occurs := fun t1 details => h.occurrences (t := t1) (k := 9) (details := details)
    have stops := stopRecord_armed (s := s')
    have writes := fun t st => stopRecord_written (s := s') (t := t) (st := st)
    have fills := fun t => stopRecord_full (s := s') (t := t)
    obtain ⟨rest, -, rfl⟩ := h.head
    refine ⟨fun idle => reply (congrArg answerOf (if_pos idle)), fun t take armed => ?_, fun t take recording => ?_⟩
    · obtain ⟨recorder, store, raised⟩ := endRecording_armed (s := s.withMgmt { s.mgmt with requests := rest }) take armed .normal
      exact ⟨_, reply (congrArg answerOf (stops armed)), recorder, store,
        recordEndDetail_empty t ▸ occurs _ _ raised, endRecording_stands .normal _⟩
    · cases written : s.store.writeSample t s.recorder.sample with
      | some st =>
        obtain ⟨recorder, store, raised⟩ := endRecording_recording
          (s := (s.withMgmt { s.mgmt with requests := rest }).withStore st) take recording .normal
        refine ⟨_, reply (congrArg answerOf (writes t st take recording written)), recorder, ?_,
          fun st' same => ?_, nofun, endRecording_stands .normal _⟩
        · rw [store]
          exact congrArg Take.state (Vector.getElem_set_self ..)
        · cases same
          exact ⟨store, occurs _ _ raised⟩
      | none =>
        obtain ⟨recorder, store, raised⟩ := endRecording_recording
          (s := s.withMgmt { s.mgmt with requests := rest }) take recording .storeFull
        refine ⟨_, reply (congrArg answerOf (fills t take recording written)), recorder, ?_,
          nofun, fun _ => ⟨store, occurs _ _ raised⟩, endRecording_stands .storeFull _⟩
        rw [store]
        exact congrArg Take.state (Vector.getElem_set_self ..)

end Sys2Proof.Machine
end

section
/-! PROOFS. The bytes of numbers, sets and tables, for the records that are read (R19, R22, R23). -/

namespace Sys2Proof.Machine

/-! ## Numbers (R19) -/

theorem natBE_one (v : Nat) : natBE 1 v = [u8 v] := rfl

/-- A number stands most significant byte first. -/
theorem natBE_getElem? (n v : Nat) : ∀ j < n, (natBE n v)[j]? = some (u8 (v / 256 ^ (n - 1 - j))) := by
  induction n with
  | zero => exact fun j hj => absurd hj (Nat.not_lt_zero j)
  | succ n ih =>
    intro j hj
    cases j with
    | zero =>
      rw [natBE, List.getElem?_cons_zero, Nat.shiftRight_eq_div_pow, Nat.pow_mul]
      rfl
    | succ j =>
      rw [natBE, List.getElem?_cons_succ, ih j (Nat.lt_of_succ_lt_succ hj)]
      congr 4
      omega

/-- A signed number stands as its two's complement. -/
theorem intBE_twos {n : Nat} {v : Int} (low : -(2 ^ (8 * n)) ≤ v) (high : v < 2 ^ (8 * n)) :
    intBE n v = natBE n (if v < 0 then v + 2 ^ (8 * n) else v).toNat := by
  unfold intBE
  congr 2
  split
  next negative =>
    rw [← Int.add_emod_right]
    exact Int.emod_eq_of_lt (by omega) (by omega)
  next positive => exact Int.emod_eq_of_lt (by omega) high

/-! ## Sets (R22, R23) -/

/-- The number of a set is the one whose bits are its members. -/
theorem setNumber_eq {n : Nat} {m : FlagSet n} {v : Nat} (small : v < 2 ^ n) (bits : ∀ k : Fin n, v.testBit k.val = m[k]) :
    setNumber m = v := by
  refine Nat.eq_of_testBit_eq fun i => ?_
  by_cases inside : i < n
  · exact (testBit_setNumber m ⟨i, inside⟩).trans (bits ⟨i, inside⟩).symm
  · have beyond : 2 ^ n ≤ 2 ^ i := Nat.pow_le_pow_right Nat.two_pos (Nat.le_of_not_lt inside)
    rw [Nat.testBit_eq_false_of_lt (small.trans_le beyond), Nat.testBit_eq_false_of_lt ((setNumber_lt m).trans_le beyond)]

/-! ## Tables, flags and fields that may be absent (R23) -/

theorem flagByte_list (v : Bool) : (if v = true then [0x01#8] else [0x00#8]) = [flagByte v] := by cases v <;> rfl

theorem toList_eq_map {α : Type} {n : Nat} (v : Vector α n) : v.toList = (List.finRange n).map fun k => v[k] := by
  refine List.ext_getElem (by simp) fun i _ _ => ?_
  simp

theorem members_flatMap {n : Nat} (m : FlagSet n) (item : Fin n → List Byte) :
    m.members.flatMap item = (List.finRange n).flatMap fun k => if m[k] then item k else [] := by
  unfold FlagSet.members
  induction List.finRange n with
  | nil => rfl
  | cons k rest ih =>
    cases held : m[k] with
    | true => rw [List.filter_cons_of_pos (by exact held), List.flatMap_cons, List.flatMap_cons, ih, if_pos held]
    | false =>
      rw [List.filter_cons_of_neg (by exact Bool.eq_false_iff.mp held), List.flatMap_cons, if_neg (by rw [held]; decide), ih]
      rfl

end Sys2Proof.Machine
end

section
/-! PROOFS. O32: the READs that answer their record, and the layouts of the records that are read only (R19, R22, R23,
R60, R63, R77, R118, R121 to R123, R128, R135, R136, R143, R144, R153, R176, R177, R193, R194). -/

namespace Sys2Proof.Machine

/-! ## The records field by field (R23) -/

theorem capturedSet_eq (p : PoseSet) :
    capturedSet p =
      #v[p.captured[0].isSome, p.captured[1].isSome, p.captured[2].isSome, p.captured[3].isSome, false, false, false,
        false, false, false] := rfl

theorem standstillSet_eq (s : FlagSet 7) :
    standstillSet s = #v[s[0], s[1], s[2], s[3], s[4], s[5], s[6], false, false, false] := rfl

theorem poseBytes_layout (p : Pose) :
    poseBytes p =
      ((List.finRange 10).flatMap fun k => poseEntryBytes p.entries[k]) ++ [flagByte p.set.isOpen]
        ++ optionBytes 2 (p.set.cycle.map fun c => natBE 2 c.toNat)
        ++ axisSetBytes
          #v[p.set.captured[0].isSome, p.set.captured[1].isSome, p.set.captured[2].isSome, p.set.captured[3].isSome, false,
            false, false, false, false, false]
        ++ [flagByte p.completed.valid] ++ natBE 2 p.completed.cycle.toNat
        ++ ((List.finRange 4).flatMap fun j => intBE 4 p.completed.motions[j].position)
        ++ ((List.finRange 4).flatMap fun j => intBE 3 p.completed.motions[j].velocity)
        ++ optionBytes 12 (p.completed.head.map pointBytes) := by
  unfold poseBytes
  rw [toList_eq_map, toList_eq_map, List.flatMap_map, List.flatMap_map, List.flatMap_map, capturedSet_eq]
  rfl

theorem evaluationBytes_layout (e : Evaluation) :
    evaluationBytes e =
      [flagByte e.evaluated] ++ optionBytes 2 (e.cycle.map fun c => natBE 2 c.toNat) ++ optionBytes 12 (e.p.map pointBytes)
        ++ optionBytes 12 (e.q.map pointBytes)
        ++ optionBytes 48 (e.swept.map fun b =>
          intBE 8 b.lo.x ++ intBE 8 b.hi.x ++ intBE 8 b.lo.y ++ intBE 8 b.hi.y ++ intBE 8 b.lo.z ++ intBE 8 b.hi.z)
        ++ ((List.finRange 8).flatMap fun i => [flagByte e.sample[i]])
        ++ ((List.finRange 24).map fun z => e.zones[z].code) ++ natBE 1 e.factor ++ natBE 2 e.skipped := by
  unfold evaluationBytes
  rw [toList_eq_map, toList_eq_map, List.map_map, List.map_map,
    List.map_eq_flatMap (f := flagByte ∘ fun k => e.sample[k])]
  rfl

theorem stopStatusBytes_layout (st : Stop) :
    let inRamp (width : Nat) (bytes : List Byte) : List Byte :=
      optionBytes width (if st.state = .ramp then some bytes else none)
    stopStatusBytes st =
      [st.state.code] ++ causeSetBytes st.present ++ causeSetBytes st.trip
        ++ ((List.finRange 4).flatMap fun n => lineBytes st.lines[n]) ++ [flagByte st.driveEnable]
        ++ inRamp 1 [if st.rampTimer.isRunning then 0x00#8 else 0x01#8]
        ++ inRamp 2 (natBE 2 (st.entryCycle.getD 0).toNat)
        ++ inRamp 2
          (axisSetBytes
            #v[st.standstill[0], st.standstill[1], st.standstill[2], st.standstill[3], st.standstill[4],
              st.standstill[5], st.standstill[6], false, false, false])
        ++ [syncTimerCode st.syncTimer] ++ [flagByte st.substituteTimer.isRunning] ++ [flagByte st.gripHeld]
        ++ [flagByte st.consoleStop] ++ [st.detector.state.code] ++ natBE 1 st.detector.count
        ++ [u8 st.lampCondition.index.val, st.amber.pattern.code, st.red.pattern.code] := by
  unfold stopStatusBytes
  rw [toList_eq_map, List.flatMap_map, standstillSet_eq]
  simp only [List.append_assoc, List.cons_append, List.nil_append]

theorem printsBytes_layout (v : Vector (Option (BitVec 16)) 3) :
    printsBytes v = (List.finRange 3).flatMap fun i => optionBytes 2 (v[i].map fun x => natBE 2 x.toNat) := by
  unfold printsBytes
  rw [toList_eq_map, List.flatMap_map]
  rfl

/-- A list that may be absent: its presence byte, and its bytes where it is present. -/
theorem absentList_ite (absent : Prop) [Decidable absent] (bytes : List Byte) :
    absentList (if absent then none else some bytes) = if absent then [0x00#8] else 0x01#8 :: bytes := by
  split <;> rfl

theorem absentList_flag (held : Bool) (bytes : List Byte) :
    absentList (if held then some bytes else none) = if held then 0x01#8 :: bytes else [0x00#8] := by
  cases held <;> rfl

theorem playerBytes_layout (s : State) (k : Axis) :
    playerBytes s k =
      [s.player.state.code] ++ optionBytes 1 (s.player.take.map fun t => [u8 t.val]) ++ axisSetBytes s.player.mask
        ++ natBE 3 s.player.index ++ optionBytes 3 (s.player.take.map fun t => natBE 3 s.store.takes[t].samples)
        ++ [flagByte s.player.goPending] ++ optionBytes 1 (s.player.suspendedFrom.map fun q => [q.code])
        ++ (if s.player.state = .idle then [0x00#8]
          else 0x01#8 :: (List.finRange 10).flatMap fun j => if s.player.mask[j] then natBE 3 s.player.peaks[j] else [])
        ++ [flagByte s.player.clamped]
        ++ (if s.player.mask[k] then
            0x01#8 :: u8 s.player.rings[k].length
              :: s.player.rings[k].flatMap fun e => natBE 2 e.cycle.toNat ++ intBE 4 e.value
          else [0x00#8]) := by
  unfold playerBytes
  dsimp only
  rw [absentList_ite, absentList_flag, members_flatMap]
  rfl

theorem recorderBytes_layout (r : Recorder) :
    recorderBytes r =
      [r.state.code] ++ optionBytes 1 (r.take.map fun t => [u8 t.val])
        ++ optionBytes 2 (if r.state = .idle then none else some (axisSetBytes r.mask)) ++ printsBytes r.prints
        ++ (if r.state = .idle then [0x00#8]
          else 0x01#8 :: (List.finRange 10).flatMap fun k => if r.mask[k] then intBE 4 r.buffer[k] else [])
        ++ optionBytes 2 (r.openCycle.map fun c => natBE 2 c.toNat)
        ++ optionBytes 2 (if r.state = .recording then some (natBE 2 r.repeats) else none) := by
  unfold recorderBytes
  dsimp only
  rw [absentList_ite, members_flatMap, if_congr beq_iff_eq rfl rfl]
  rfl

theorem takeBytes_layout (r : Take) :
    let masked (width : Nat) (bytes : List Byte) : List Byte :=
      optionBytes width (if r.state = .empty then none else some bytes)
    takeBytes r =
      [r.state.code] ++ [flagByte r.locked] ++ masked 2 (axisSetBytes r.mask) ++ masked 1 (natBE 1 r.perPage)
        ++ masked 3 (natBE 3 r.samples) ++ natBE 2 r.chain.length ++ optionBytes 2 (r.chain[0]?.map (natBE 2))
        ++ optionBytes 2 (r.chain[r.chain.length - 1]?.map (natBE 2)) ++ masked 4 r.start.bytes ++ printsBytes r.prints
        ++ optionBytes 1 (r.endReason.map fun e => [e.code]) := by
  unfold takeBytes
  dsimp only
  rw [axisSetBytes, natBE_length, natBE_length, natBE_length, List.head?_eq_getElem?, List.getLast?_eq_getElem?]
  rfl

theorem freeCountBytes_layout (free : List Nat) :
    freeCountBytes free =
      natBE 2 free.length ++ optionBytes 2 (free[0]?.map (natBE 2))
        ++ optionBytes 2 (free[free.length - 1]?.map (natBE 2)) := by
  unfold freeCountBytes
  rw [List.head?_eq_getElem?, List.getLast?_eq_getElem?]
  rfl

theorem statusCode_eq (l : Lens) (i : Fin 3) :
    (l.status i).code = if l.fault[i] then 0x00#8 else if l.stale[i] then 0x01#8 else 0x02#8 := by
  unfold Lens.status
  split
  · rfl
  · split <;> rfl

theorem lensStatusBytes_layout (l : Lens) :
    lensStatusBytes l =
      ((List.finRange 3).flatMap fun i =>
          [if l.fault[i] then 0x00#8 else if l.stale[i] then 0x01#8 else 0x02#8] ++ [flagByte l.fault[i]]
            ++ [flagByte l.stale[i]] ++ [flagByte l.endReached[i]] ++ [flagByte l.curves[i].valid]
            ++ natBE 2 l.curves[i].fingerprint.toNat)
        ++ [flagByte l.follow.on] ++ optionBytes 1 (l.follow.preset.map fun k => [u8 k.val]) ++ pointBytes l.follow.subject
        ++ intBE 2 l.follow.trim ++ natBE 2 l.follow.trimLimit
        ++ optionBytes 9 (l.follow.latest.map fun f => natBE 2 f.cycle.toNat ++ natBE 4 f.distance ++ natBE 3 f.user) := by
  unfold lensStatusBytes
  simp only [statusCode_eq]
  rfl

end Sys2Proof.Machine
end

section
/-! PROOFS. O32: the READs that answer their record (R23, R60, R63, R77, R118, R121 to R123, R128, R130, R135, R136, R143,
R144, R153, R176, R177, R186, R193, R194). -/

namespace Sys2Proof.Machine

/-! ## The answer of a READ (R23, R186) -/

theorem indexBelow_u8 {n : Nat} (small : n ≤ 256) (k : Fin n) : indexBelow n (u8 k.val) = some k := by
  have below := k.isLt
  have value : (u8 k.val).toNat = k.val := by
    simp only [u8, BitVec.toNat_ofNat]
    omega
  unfold indexBelow finOf
  rw [dif_pos (value.symm ▸ below)]
  exact congrArg some (Fin.ext value)

theorem curveIndex_u8 (i : Fin 3) : curveIndex (u8 (i.val + 7)) = some i := by decide +revert

theorem finished_flag (clear : Bool) : finished (readFlag [flagByte clear]) = some clear := by cases clear <;> rfl

section
variable {s s' : State} {tag sel b : Byte} {clear : Bool} {row : Instr} {α : Type} {index : Byte → Option α} {i : α}
  {record : α → State → List Byte} (h : Takes s (readRequest tag sel b clear) s')
  (isRow : (readRequest tag sel b clear).row = row) (at' : index b = some i)
include h isRow at'

/-- A READ of an index in range is answered OK with the record, and what it clears is cleared after the capture. -/
theorem Takes.reads {after : α → Bool → State → State}
    (runs : exec row s = .next (execute row (runRead index record after) s)) :
    Replies row s tag .ok (record i s') (after i clear s') := by
  refine h.replies isRow runs ?_
  unfold runRead
  dsimp only
  rw [at', finished_flag]

/-- A READ that clears nothing, of a record that the take of the request leaves as it stands. -/
theorem Takes.readsOnly (runs : exec row s = .next (execute row (runReadOnly index record) s)) {out : List Byte}
    (same : ∀ m, record i (s.withMgmt m) = out) : Replies row s tag .ok out s' := by
  have reply := h.reads isRow at' (after := fun _ _ s => s) runs
  obtain ⟨rest, -, rfl⟩ := h.head
  rw [same] at reply
  exact reply

end

/-! ## What the READs of O32 clear (R77, R130) -/

theorem clearSkipped_eq (clear : Bool) (s : State) :
    clearSkipped clear s =
      s.withEnv { s.env with
        evaluation := { s.env.evaluation with skipped := if clear then 0 else s.env.evaluation.skipped } } := by
  cases clear <;> rfl

/-- Settles O32: each READ answers its record, and every record that is read only is laid out field by field. -/
theorem readsAnswerTheirRecords : Obligations.ReadsAnswerTheirRecords := by
  unfold Obligations.ReadsAnswerTheirRecords
  refine ⟨fun s s' tag b clear => ⟨fun k h => ?_, fun h => ?_, fun z h => ?_, fun h => ?_, fun h => ?_, fun h => ?_,
      fun h => ?_, fun h => ?_, fun h => ?_, fun h => ?_⟩,
    fun s s' tag b clear => ⟨fun i h => ?_, fun k h => ?_, fun n h => ?_, fun h => ?_, fun k h => ?_, fun h => ?_,
      fun t h => ?_, fun h => ?_, fun h => ?_, fun k h => ?_⟩, ?_, ?_⟩
  · exact h.readsOnly (row := .readAxis) rfl (indexBelow_u8 (by decide) k) rfl fun _ => rfl
  · exact h.readsOnly (row := .readGeometry) rfl (index := noIndex) rfl rfl fun _ => rfl
  · exact h.readsOnly (row := .readZone) rfl (indexBelow_u8 (by decide) z) rfl fun _ => rfl
  · exact h.readsOnly (row := .readStopConfig) rfl (index := noIndex) rfl rfl fun _ => rfl
  · exact h.readsOnly (row := .readGesture) rfl (index := noIndex) rfl rfl fun _ => rfl
  · exact h.readsOnly (row := .readLampMap) rfl (index := noIndex) rfl rfl fun _ => rfl
  · exact h.readsOnly (row := .readPose) rfl (index := noIndex) rfl rfl fun _ => rfl
  · have reply := h.reads (row := .readEvaluation) rfl (index := noIndex) rfl rfl
    rw [clearSkipped_eq] at reply
    obtain ⟨rest, -, rfl⟩ := h.head
    exact reply
  · exact h.readsOnly (row := .readSpeedScale) rfl (index := noIndex) rfl rfl fun _ => rfl
  · exact h.readsOnly (row := .readStopStatus) rfl (index := noIndex) rfl rfl fun _ => rfl
  · exact h.readsOnly (row := .readCurve) rfl (curveIndex_u8 i) rfl fun _ => rfl
  · exact h.readsOnly (row := .readSubject) rfl (indexBelow_u8 (by decide) k) rfl fun _ => rfl
  · exact h.readsOnly (row := .readCueSlot) rfl (indexBelow_u8 (by decide) n) rfl fun _ => rfl
  · exact h.readsOnly (row := .readNoticeConfig) rfl (index := noIndex) rfl rfl fun _ => rfl
  · exact h.readsOnly (row := .readPlayer) rfl (indexBelow_u8 (by decide) k) rfl fun _ => rfl
  · exact h.readsOnly (row := .readRecorder) rfl (index := noIndex) rfl rfl fun _ => rfl
  · exact h.readsOnly (row := .readTake) rfl (indexBelow_u8 (by decide) t) rfl fun _ => rfl
  · exact h.readsOnly (row := .readFreeCount) rfl (index := noIndex) rfl rfl fun _ => rfl
  · have reply := h.reads (row := .readLensStatus) rfl (index := noIndex) rfl rfl
    obtain ⟨rest, -, rfl⟩ := h.head
    exact reply
  · exact h.readsOnly (row := .readNotices) rfl (indexBelow_u8 (by decide) k) rfl fun _ => rfl
  · exact ⟨fun n v _ => ⟨natBE_length n v, natBE_getElem? n v⟩, fun n v low high => intBE_twos low high,
      fun m v small bits => congrArg (natBE 2) (setNumber_eq small bits),
      fun m v small bits => congrArg (natBE 3) (setNumber_eq small bits),
      rfl, rfl, rfl, rfl, rfl, rfl, by decide, rfl, rfl, rfl, rfl, rfl⟩
  · intro flag present cycle point prints each
    have hflag : ∀ v, flag v = [flagByte v] := flagByte_list
    have hpresent : ∀ width v, present width v = optionBytes width v := fun _ v => by cases v <;> rfl
    have hprints : ∀ v, prints v = printsBytes v := fun v => by
      simp only [prints, hpresent, printsBytes_layout]
    refine ⟨fun p => ?_, fun e => ?_, fun st => ?_, fun i c => ?_, fun s k => ?_, fun r => ?_, fun r => ?_, fun free => ?_,
      fun l => ?_, fun n k => ?_, fun tc => rfl⟩
    · dsimp only
      simp only [hflag, hpresent]
      exact poseBytes_layout p
    · dsimp only
      simp only [hflag, hpresent]
      exact evaluationBytes_layout e
    · dsimp only
      simp only [hflag, hpresent]
      exact stopStatusBytes_layout st
    · rw [hflag]
      rfl
    · dsimp only
      simp only [hflag, hpresent]
      exact playerBytes_layout s k
    · simp only [hpresent, hprints]
      exact recorderBytes_layout r
    · dsimp only
      simp only [hflag, hpresent, hprints]
      exact takeBytes_layout r
    · simp only [hpresent]
      exact freeCountBytes_layout free
    · dsimp only
      simp only [hflag, hpresent]
      exact lensStatusBytes_layout l
    · dsimp only
      simp only [hflag]
      simp [noticeBytes, natBE_one]

end Sys2Proof.Machine
end

section
/-! PROOFS. O33: the READs of the records that hold counts (R34, R35, R94, R187). -/

namespace Sys2Proof.Machine

/-! ## The records field by field (R23, R24, R94) -/

/-- The fields of a port record, those of one port apart (R24). -/
def portRecordBytes (r : PortRecord) : List Byte :=
  [r.state.code] ++ [flagByte r.signal] ++ natBE 1 r.goodRun ++ natBE 1 r.badRun ++ natBE 2 r.windowFrames
    ++ natBE 2 r.windowErrors ++ [flagByte r.holdPassed] ++ [flagByte r.lockHeld] ++ natBE 2 r.errored
    ++ natBE 2 r.unknownKind ++ natBE 2 r.queueDrops

theorem portBytes_u (s : State) :
    portBytes s .u =
      portRecordBytes s.link.u ++ optionBytes 2 (s.cycle.last.map fun c => natBE 2 c.toNat) ++ s.cycle.timecode.bytes
        ++ optionBytes 8 (s.cycle.arrival.map (natBE 8)) ++ natBE 2 s.cycle.interval
        ++ natBE 2 s.cycle.sequenceErrors := by
  unfold portBytes portRecordBytes absentOr
  simp only [List.append_assoc, List.cons_append, List.nil_append, Link.port]

theorem portBytes_d (s : State) : portBytes s .d = portRecordBytes s.link.d ++ natBE 4 s.link.testErrors := by
  unfold portBytes portRecordBytes
  simp only [List.append_assoc, List.cons_append, List.nil_append, Link.port]

theorem gateBytes_layout (g : Gate) :
    gateBytes g =
      ((List.finRange 10).flatMap fun k => natBE 2 g.clamps[k] ++ natBE 2 g.withheld[k] ++ natBE 2 g.overridden[k])
        ++ natBE 2 g.refusals ++ (List.finRange 10).flatMap fun k => optionBytes 4 (g.last[k].map (intBE 4)) := by
  unfold gateBytes
  rw [toList_eq_map, List.flatMap_map]
  rfl

/-! ## What each READ clears (R34, R94, R187) -/

theorem isUp_eq (x : PortState) : x.isUp = decide (x = .up ∨ x = .degraded) := by cases x <;> rfl

/-- A port record after a READ: lock-held by the port's state. -/
def PortRecord.read (r : PortRecord) : PortRecord :=
  { r with lockHeld := decide (r.state = .up ∨ r.state = .degraded) }

theorem afterReadPort_u (clear : Bool) (s : State) :
    afterReadPort .u clear s =
      if clear then
        { s with
          link := { s.link with u := { s.link.u.read with errored := 0, unknownKind := 0, queueDrops := 0 } }
          cycle := { s.cycle with sequenceErrors := 0 } }
      else { s with link := { s.link with u := s.link.u.read } } := by
  unfold afterReadPort PortRecord.read
  rw [← isUp_eq]
  cases clear <;> rfl

theorem afterReadPort_d (clear : Bool) (s : State) :
    afterReadPort .d clear s =
      if clear then
        { s with
          link :=
            { s.link with
              d := { s.link.d.read with errored := 0, unknownKind := 0, queueDrops := 0 }, testErrors := 0 } }
      else { s with link := { s.link with d := s.link.d.read } } := by
  unfold afterReadPort PortRecord.read
  rw [← isUp_eq]
  cases clear <;> rfl

/-- Settles O33: the layouts of the records that hold counts, and what each READ of them clears. -/
theorem readsOfCounts : Obligations.ReadsOfCounts := by
  unfold Obligations.ReadsOfCounts
  refine ⟨?_, fun s s' tag b clear => ⟨fun h => ?_, fun h => ?_, fun h => ?_, fun h => ?_, fun h => ?_⟩⟩
  · intro flag present port
    have hflag : ∀ v, flag v = [flagByte v] := flagByte_list
    have hpresent : ∀ width v, present width v = optionBytes width v := fun _ v => by cases v <;> rfl
    have hport : ∀ r, port r = portRecordBytes r := fun r => by simp only [port, hflag, portRecordBytes]
    refine ⟨rfl, fun s => ⟨?_, ?_⟩, fun g => ?_, fun s => ?_, fun t => ?_⟩
    · rw [hport, hpresent, hpresent]
      exact portBytes_u s
    · rw [hport]
      exact portBytes_d s
    · simp only [hpresent]
      exact gateBytes_layout g
    · simp [hflag, mgmtBytes, natBE_one]
    · simp [thresholdsBytes]
  · exact h.readsOnly (row := .readThresholds) rfl (index := noIndex) rfl rfl fun _ => rfl
  · have reply := h.reads (row := .readPort) rfl (index := portIndex) (i := .u) rfl rfl
    rw [afterReadPort_u] at reply
    obtain ⟨rest, -, rfl⟩ := h.head
    exact reply
  · have reply := h.reads (row := .readPort) rfl (index := portIndex) (i := .d) rfl rfl
    rw [afterReadPort_d] at reply
    obtain ⟨rest, -, rfl⟩ := h.head
    exact reply
  · have reply := h.reads (row := .readGateCounters) rfl (index := noIndex) rfl rfl
    obtain ⟨rest, -, rfl⟩ := h.head
    exact reply
  · exact h.reads (row := .readMgmtCounters) rfl (index := noIndex) rfl rfl

end Sys2Proof.Machine
end

section
/-! PROOFS. O34: the WRITEs under the configuration lock (R41, R44, R50, R62, R118, R121, R122, R188). -/

namespace Sys2Proof.Machine

/-! ## The answer of a WRITE (R185, R186) -/

section
variable {s s' : State} {tag sel b : Byte} {bytes : List Byte} {row : Instr} {α β : Type} {index : Byte → Option α}
  {reader : α → List Byte → Option β} {write : α → β → State → Answer}
  (h : Takes s (writeRequest tag sel b bytes) s') (isRow : (writeRequest tag sel b bytes).row = row)
  (runs : exec row s = .next (execute row (runWrite index reader write) s))
include h isRow runs

/-- A WRITE of an index in range whose record reads is answered as the owner of the record says. -/
theorem Takes.writes {i : α} {v : β} (at' : index b = some i) (read : reader i bytes = some v) ⦃result out t⦄
    (answers : write i v s' = ⟨result, out, t⟩) : Replies row s tag result out t := by
  refine h.replies isRow runs ?_
  unfold runWrite
  dsimp only
  rw [at']
  dsimp only
  rw [read]
  exact answers

/-- A WRITE of an index in range whose record does not read is answered INVALID. -/
theorem Takes.writes_unread {i : α} (at' : index b = some i) (unread : reader i bytes = none) :
    Replies row s tag .invalid [] s' := by
  refine h.replies isRow runs ?_
  unfold runWrite
  dsimp only
  rw [at']
  dsimp only
  rw [unread]
  rfl

/-- A WRITE of an index that the selector does not have is answered UNKNOWN. -/
theorem Takes.writes_beyond (beyond : index b = none) : Replies row s tag .unknown [] s' := by
  refine h.replies isRow runs ?_
  unfold runWrite
  dsimp only
  rw [beyond]
  rfl

end

section
variable {s : State} {run : State → Answer}

theorem unlessLocked_locked (locked : s.mgmt.locked = true) : unlessLocked run s = refuse .locked s := if_pos locked

theorem unlessLocked_open (unlocked : s.mgmt.locked = false) : unlessLocked run s = run s :=
  if_neg (Bool.eq_false_iff.mp unlocked)

end

/-! ## Ranges (R40, R41, R43, R61, R62, R118, R122) -/

theorem axisInRange_iff (k : Axis) (r : AxisRecord) :
    axisInRange k r = true
      ↔ r.softMin < r.softMax ∧ 1 ≤ r.stepMax ∧ r.stepMax ≤ 1048575
        ∧ (k.val ≤ 6 →
          (1 ≤ r.deceleration ∧ r.deceleration ≤ 65535) ∧ r.standstill ≤ 1023 ∧ 1 ≤ r.cueScale ∧ r.cueScale ≤ 16)
        ∧ (1 ≤ r.ageLimit ∧ r.ageLimit ≤ 15) ∧ (1 ≤ r.followThreshold ∧ r.followThreshold ≤ 16777215)
        ∧ r.followLag ≤ 7 ∧ r.inPosition ≤ 65535
        ∧ (k.val ≤ 3 →
          -65535 ≤ r.unitMultiplier ∧ r.unitMultiplier ≤ 65535 ∧ r.unitMultiplier ≠ 0 ∧ r.unitShift ≤ 24) := by
  simp only [axisInRange, within, hasMotionFields, hasUnitFields, isMotion, Bool.and_eq_true, Bool.or_eq_true,
    Bool.not_eq_true', decide_eq_true_iff, decide_eq_false_iff_not]
  omega

theorem geometryInRange_iff (g : Geometry) :
    geometryInRange g = true
      ↔ (∀ c ∈ [g.pivot.x, g.pivot.y, g.pivot.z], -100000 ≤ c ∧ c ≤ 100000) ∧ g.headDrop ≤ 2000
        ∧ g.headRadius ≤ 3000 := by
  simp only [geometryInRange, within, Bool.and_eq_true, decide_eq_true_iff, List.forall_mem_cons, List.not_mem_nil,
    false_imp_iff, implies_true, and_true]
  omega

theorem zoneInRange_iff (b : ZoneBody) :
    zoneInRange b = true
      ↔ b.zone.box.lo.x ≤ b.zone.box.hi.x ∧ b.zone.box.lo.y ≤ b.zone.box.hi.y ∧ b.zone.box.lo.z ≤ b.zone.box.hi.z
        ∧ b.zone.band ≤ 5000 ∧ 1 ≤ b.zone.factor ∧ b.zone.factor ≤ 16 ∧ (b.zone.kind = .crew → b.presence ≤ 7) := by
  simp only [zoneInRange, within, Bool.and_eq_true, Bool.or_eq_true, decide_eq_true_iff, bne_iff_ne, and_assoc,
    Nat.zero_le, true_and, imp_iff_not_or]

theorem stopConfigInRange_iff (c : StopConfig) :
    stopConfigInRange c = true
      ↔ (10 ≤ c.syncTimeout ∧ c.syncTimeout ≤ 2000) ∧ (100 ≤ c.rampLimit ∧ c.rampLimit ≤ 20000)
        ∧ (5 ≤ c.discrepancy ∧ c.discrepancy ≤ 500) ∧ (1 ≤ c.degradeFactor ∧ c.degradeFactor ≤ 16)
        ∧ (1 ≤ c.linkUpTime ∧ c.linkUpTime ≤ 2000) ∧ (1 ≤ c.degradeHold ∧ c.degradeHold ≤ 10000)
        ∧ 1 ≤ c.highError ∧ c.highError ≤ 255 := by
  simp only [stopConfigInRange, within, Bool.and_eq_true, decide_eq_true_iff, and_assoc]

theorem gestureInRange_iff (g : Gesture) :
    gestureInRange g = true
      ↔ (1 ≤ g.pulseMax ∧ g.pulseMax ≤ 63) ∧ (1 ≤ g.gapMax ∧ g.gapMax ≤ 63) ∧ 1 ≤ g.confirm ∧ g.confirm ≤ 255 := by
  simp only [gestureInRange, within, Bool.and_eq_true, decide_eq_true_iff, and_assoc]

theorem stored_presence_crew {b : ZoneBody} (crew : b.zone.kind = .crew) (i : Fin 8) (at' : i.val = b.presence) :
    b.stored.presence = some i := by
  have stored : b.stored.presence = finOf 8 b.presence := if_pos crew
  rw [stored, ← at', finOf, dif_pos i.isLt]

/-! ## The judgement of STALE (R50) -/

section
variable {i : Fin 3} {s : State}

theorem isStale_iff {k : Axis} {p : Pose} :
    p.isStale k = true
      ↔ p.axes[k].valid = true ∧ p.entries[k].present = true ∧ p.axes[k].ageLimit < p.entries[k].age := by
  simp only [Pose.isStale, Bool.and_eq_true, decide_eq_true_iff, and_assoc]

/-- A lens axis that becomes stale sets its flag and raises notice 12. -/
theorem judgeStale_becomes (stale : s.pose.isStale (lensAxis i) = true) (fresh : s.lens.stale[i] = false) :
    judgeStale i s =
      Machine.raise 12 [u8 (i.val + 7), 0x01#8] (s.withLens { s.lens with stale := s.lens.stale.set i.val true }) := by
  unfold judgeStale
  rw [stale, fresh]
  rfl

theorem judgeStale_stands (stale : s.pose.isStale (lensAxis i) = true) (was : s.lens.stale[i] = true) :
    judgeStale i s = s := by
  unfold judgeStale
  rw [stale, was]
  rfl

theorem judgeStale_fresh (fresh : s.pose.isStale (lensAxis i) = false) :
    judgeStale i s = s.withLens { s.lens with stale := s.lens.stale.set i.val false } := by
  unfold judgeStale
  rw [fresh]
  cases was : s.lens.stale[i] with
  | true => rfl
  | false =>
    have same : s.lens.stale.set i.val false = s.lens.stale := by
      rw [← was]
      exact Vector.set_getElem_self i.isLt
    rw [same]
    rfl

end

/-! ## AXIS (R41, R42, R45, R82) -/

section
variable {k : Axis} {r : AxisRecord} {s : State}

theorem judgeFeedback_eq (k : Axis) (s : State) :
    judgeFeedback k s =
      if h : 7 ≤ k.val then judgeStale ⟨k.val - 7, by omega⟩ s else handOver .feedbackLost s.pose.anyLost s := by
  unfold judgeFeedback lensOf
  by_cases lens : 7 ≤ k.val
  · rw [dif_pos lens, dif_pos lens]
  · rw [dif_neg lens, dif_neg lens]

theorem judgeConfigured_judged (k : Axis) (s : State) :
    judgeConfigured (judgeFeedback k s) = handOver .unconfigured s.pose.unconfigured (judgeFeedback k s) := by
  unfold judgeConfigured
  rw [show (judgeFeedback k s).pose = s.pose by simp]

/-- Whether a WRITE of AXIS k is refused: a motion axis in RUN and RAMP, a lens axis of the player's mask (R41). -/
def axisBusy (k : Axis) (s : State) : Prop :=
  (k.val ≤ 6 ∧ (s.stop.state = .run ∨ s.stop.state = .ramp)) ∨ (7 ≤ k.val ∧ s.player.mask[k] = true)

theorem writeAxis_locked (locked : s.mgmt.locked = true) : writeAxis k r s = refuse .locked s := if_pos locked

theorem writeAxis_busy (unlocked : s.mgmt.locked = false) (busy : axisBusy k s) :
    writeAxis k r s = refuse .refused s := by
  unfold writeAxis
  rw [if_neg (Bool.eq_false_iff.mp unlocked)]
  obtain ⟨motion, moving⟩ | ⟨lens, masked⟩ := busy
  · exact if_pos (by simpa [isMotion, motion] using moving)
  · have noMotion : isMotion k = false := decide_eq_false (by omega)
    simp [noMotion, masked]

/-- The tests of R41 after the lock and the use of the axis. -/
theorem writeAxis_free (unlocked : s.mgmt.locked = false) (free : ¬axisBusy k s) :
    writeAxis k r s = if r.valid && !axisInRange k r then refuse .invalid s else accept (putAxis k r s) := by
  unfold writeAxis
  rw [if_neg (Bool.eq_false_iff.mp unlocked), if_neg, if_neg]
  · intro masked
    simp only [isMotion, Bool.and_eq_true, Bool.not_eq_true', decide_eq_false_iff_not] at masked
    exact free (.inr ⟨by omega, masked.2⟩)
  · intro moving
    simp only [isMotion, Bool.and_eq_true, Bool.or_eq_true, decide_eq_true_iff, beq_iff_eq] at moving
    exact free (.inl moving)

theorem writeAxis_bad (unlocked : s.mgmt.locked = false) (free : ¬axisBusy k s)
    (bad : r.valid = true ∧ axisInRange k r = false) : writeAxis k r s = refuse .invalid s :=
  (writeAxis_free unlocked free).trans (if_pos (by simpa using bad))

theorem writeAxis_good (unlocked : s.mgmt.locked = false) (free : ¬axisBusy k s)
    (good : ¬(r.valid = true ∧ axisInRange k r = false)) : writeAxis k r s = accept (putAxis k r s) :=
  (writeAxis_free unlocked free).trans (if_neg (by simpa using good))

end

/-- What an accepted WRITE of AXIS k replaces. -/
def withAxis (k : Axis) (r : AxisRecord) (s : State) : State :=
  (s.withPose { s.pose with axes := s.pose.axes.set k.val (AxisRecord.written s.pose.axes[k] r) }).withGate
    { s.gate with last := s.gate.last.set k.val none }

theorem putAxis_eq (k : Axis) (r : AxisRecord) (s : State) :
    putAxis k r s =
      handOver .unconfigured (withAxis k r s).pose.unconfigured
        (if h : 7 ≤ k.val then judgeStale ⟨k.val - 7, by omega⟩ (withAxis k r s)
        else handOver .feedbackLost (withAxis k r s).pose.anyLost (withAxis k r s)) := by
  rw [← judgeFeedback_eq, ← judgeConfigured_judged]
  rfl

/-! ## GEOMETRY and STOP_CONFIG (R32, R44, R45, R122) -/

section
variable {g : Geometry} {c : StopConfig} {s : State}

theorem writeGeometry_locked (locked : s.mgmt.locked = true) : writeGeometry g s = refuse .locked s := if_pos locked

theorem writeGeometry_busy (unlocked : s.mgmt.locked = false) (busy : s.stop.state = .run ∨ s.stop.state = .ramp) :
    writeGeometry g s = refuse .refused s := by
  unfold writeGeometry
  rw [if_neg (Bool.eq_false_iff.mp unlocked)]
  exact if_pos (by simpa using busy)

theorem writeGeometry_free (unlocked : s.mgmt.locked = false) (free : ¬(s.stop.state = .run ∨ s.stop.state = .ramp)) :
    writeGeometry g s =
      if g.valid && !geometryInRange g then refuse .invalid s
      else
        accept (judgeConfigured (s.withPose { s.pose with geometry := Geometry.written s.pose.geometry g })) := by
  unfold writeGeometry
  rw [if_neg (Bool.eq_false_iff.mp unlocked), if_neg]
  simpa using free

theorem writeGeometry_bad (unlocked : s.mgmt.locked = false) (free : ¬(s.stop.state = .run ∨ s.stop.state = .ramp))
    (bad : g.valid = true ∧ geometryInRange g = false) : writeGeometry g s = refuse .invalid s :=
  (writeGeometry_free unlocked free).trans (if_pos (by simpa using bad))

theorem writeGeometry_good (unlocked : s.mgmt.locked = false) (free : ¬(s.stop.state = .run ∨ s.stop.state = .ramp))
    (good : ¬(g.valid = true ∧ geometryInRange g = false)) :
    writeGeometry g s =
      accept (judgeConfigured (s.withPose { s.pose with geometry := Geometry.written s.pose.geometry g })) :=
  (writeGeometry_free unlocked free).trans (if_neg (by simpa using good))

theorem putStopConfig_undegraded (up : s.link.d.state ≠ .degraded) :
    putStopConfig c s = s.withStop { s.stop with config := c } := if_neg up

theorem putStopConfig_degraded (degraded : s.link.d.state = .degraded) :
    putStopConfig c s =
      (s.withStop { s.stop with config := c }).setScale { s.env.scale with link := c.degradeFactor } := by
  have component : (s.withStop { s.stop with config := c }).linkComponent = c.degradeFactor :=
    if_pos (beq_iff_eq.mpr degraded)
  unfold putStopConfig
  dsimp only
  rw [component]
  exact if_pos degraded

end

/-- Settles O34: the ranges, the judgement of STALE, and each WRITE under the lock. -/
theorem lockedWritesAct : Obligations.LockedWritesAct := by
  unfold Obligations.LockedWritesAct
  refine ⟨⟨axisInRange_iff, geometryInRange_iff,
      fun b => ⟨zoneInRange_iff b, rfl, stored_presence_crew, fun noCrew => if_neg noCrew⟩,
      stopConfigInRange_iff, gestureInRange_iff⟩,
    fun i s => ⟨fun stale fresh => judgeStale_becomes (isStale_iff.mpr stale) fresh,
      fun stale was => judgeStale_stands (isStale_iff.mpr stale) was,
      fun fresh => judgeStale_fresh (Bool.eq_false_iff.mpr (mt isStale_iff.mp fresh))⟩,
    fun s s' tag b record => ⟨fun k r read h => ?_, fun g read h => ?_, fun z r read h => ?_, fun c read h => ?_,
      fun g read h => ?_, fun m read h => ?_⟩⟩
  · have reply := h.writes (row := .writeAxis) rfl rfl (indexBelow_u8 (by decide) k) read
    have busy := writeAxis_busy (k := k) (r := r) (s := s')
    have bad := writeAxis_bad (k := k) (r := r) (s := s')
    have good := writeAxis_good (k := k) (r := r) (s := s')
    rw [putAxis_eq k r s'] at good
    obtain ⟨rest, -, rfl⟩ := h.head
    exact ⟨fun locked => reply (writeAxis_locked locked), fun unlocked isBusy => reply (busy unlocked isBusy),
      fun unlocked free isBad => reply (bad unlocked free isBad),
      fun unlocked free isGood => reply (good unlocked free isGood)⟩
  · have reply := h.writes (row := .writeGeometry) rfl (index := noIndex) rfl rfl read
    have busy := writeGeometry_busy (g := g) (s := s')
    have bad := writeGeometry_bad (g := g) (s := s')
    have good := writeGeometry_good (g := g) (s := s')
    obtain ⟨rest, -, rfl⟩ := h.head
    exact ⟨fun locked => reply (writeGeometry_locked locked),
      fun unlocked isBusy => reply (busy unlocked isBusy),
      fun unlocked free isBad => reply (bad unlocked free isBad),
      fun unlocked free isGood => reply (good unlocked free isGood)⟩
  · have reply := h.writes (row := .writeZone) rfl rfl (indexBelow_u8 (by decide) z) read
    have opens := @unlessLocked_open s'
    obtain ⟨rest, -, rfl⟩ := h.head
    exact ⟨fun locked => reply (unlessLocked_locked locked),
      fun unlocked bad => reply ((opens unlocked).trans (if_neg (Bool.eq_false_iff.mp bad))),
      fun unlocked good => reply ((opens unlocked).trans (if_pos good))⟩
  · have reply := h.writes (row := .writeStopConfig) rfl (index := noIndex) rfl rfl read
    have undegraded := putStopConfig_undegraded (c := c) (s := s')
    have degraded := putStopConfig_degraded (c := c) (s := s')
    have opens := @unlessLocked_open s'
    obtain ⟨rest, -, rfl⟩ := h.head
    exact ⟨fun locked => reply (unlessLocked_locked locked),
      fun unlocked bad => reply ((opens unlocked).trans (if_neg (Bool.eq_false_iff.mp bad))),
      fun unlocked good up =>
        reply ((opens unlocked).trans ((if_pos good).trans (congrArg accept (undegraded up)))),
      fun unlocked good down =>
        reply ((opens unlocked).trans ((if_pos good).trans (congrArg accept (degraded down))))⟩
  · have reply := h.writes (row := .writeGesture) rfl (index := noIndex) rfl rfl read
    have opens := @unlessLocked_open s'
    obtain ⟨rest, -, rfl⟩ := h.head
    exact ⟨fun locked => reply (unlessLocked_locked locked),
      fun unlocked bad => reply ((opens unlocked).trans (if_neg (Bool.eq_false_iff.mp bad))),
      fun unlocked good => reply ((opens unlocked).trans (if_pos good))⟩
  · have reply := h.writes (row := .writeLampMap) rfl (index := noIndex) rfl rfl read
    have opens := @unlessLocked_open s'
    obtain ⟨rest, -, rfl⟩ := h.head
    exact ⟨fun locked => reply (unlessLocked_locked locked), fun unlocked => reply (opens unlocked)⟩

end Sys2Proof.Machine
end

section
/-! PROOFS. O35: the WRITEs that the lock does not touch (R35, R136, R178, R194). -/

namespace Sys2Proof.Machine

/-! ## CUE_SLOT (R178) -/

/-- A cue slot read from a WRITE has progress 0. -/
theorem readCueSlot_progress {bs : List Byte} {c : CueSlot} (read : readCueSlot bs = some c) : c.progress = 0 := by
  unfold readCueSlot at read
  obtain ⟨⟨n, rest⟩, -, read⟩ := Option.bind_eq_some_iff.mp read
  dsimp only at read
  split_ifs at read with long none short
  · obtain rfl := Option.some.inj read
    rfl
  · obtain ⟨⟨action, rest'⟩, -, read⟩ := Option.bind_eq_some_iff.mp read
    obtain ⟨rfl, -⟩ := Prod.mk.inj (Option.some.inj (finished_eq_some read))
    rfl

section
variable {n : Fin 8} {c : CueSlot} {s : State}

theorem writeCueSlot_busy (loads : c.pattern ≠ []) (loaded : s.cues[n].pattern ≠ []) :
    writeCueSlot n c s = refuse .slotBusy s := if_pos ⟨loads, loaded⟩

theorem writeCueSlot_free (free : c.pattern = [] ∨ s.cues[n].pattern = []) :
    writeCueSlot n c s = accept (s.withCues (s.cues.set n.val c)) :=
  if_neg fun ⟨loads, loaded⟩ => free.elim loads loaded

end

/-! ## NOTICE_CONFIG (R194) -/

theorem readNat_byte (b : Byte) (rest : List Byte) : readNat 1 (b :: rest) = some (b.toNat, rest) := by
  simp [readNat, beNat]

/-- A notice configuration, read field by field. -/
theorem readNoticeConfig_fields (order express : Byte) (safety motion link overall : Bool) {wake : Nat}
    (fits : wake < 2 ^ 24) :
    readNoticeConfig
        (order :: flagByte safety :: flagByte motion :: flagByte link :: flagByte overall :: express :: natBE 3 wake) =
      if 2 ^ 17 ≤ wake ∨ 7 < order.toNat ∨ expressNone < express.toNat then none
      else
        some ⟨if order.toNat = 0 ∨ order.toNat = 7 then 1 else order.toNat, safety, motion, link, overall,
          finOf 17 express.toNat, sourcesOfBits wake⟩ := by
  unfold readNoticeConfig
  simp only [readNat_byte, readFlag_append, Option.bind_eq_bind, Option.bind_some]
  rw [readSourceSet_natBE fits]
  by_cases named : wake < 2 ^ 17
  · rw [if_pos named, Option.bind_some]
    dsimp only
    by_cases codes : 7 < order.toNat ∨ expressNone < express.toNat
    · rw [if_pos codes]
      exact (if_pos (.inr codes)).symm
    · rw [if_neg codes]
      exact (if_neg (not_or.mpr ⟨Nat.not_le.mpr named, codes⟩)).symm
  · rw [if_neg named, Option.bind_none]
    exact (if_pos (.inl (Nat.le_of_not_lt named))).symm

/-- The express source of a code: NONE for the code after 16. -/
theorem finOf_express {express : Nat} (code : express ≤ 17) :
    (finOf 17 express).map (·.val) = if express = 17 then none else some express := by
  unfold finOf
  by_cases source : express < 17
  · rw [dif_pos source, if_neg (by omega), Option.map_some]
  · rw [dif_neg source, if_pos (by omega), Option.map_none]

/-- Settles O35: each WRITE that the lock does not touch. -/
theorem unlockedWritesAct : Obligations.UnlockedWritesAct := by
  unfold Obligations.UnlockedWritesAct
  refine fun s s' tag b record => ⟨fun k p read h => ?_, fun n c read h => ?_, fun c read h => ?_,
    fun order express safety motion link overall wake fits bytes h => ?_, fun t read h => ?_⟩
  · have reply := h.writes (row := .writeSubject) rfl rfl (indexBelow_u8 (by decide) k) read
    obtain ⟨rest, -, rfl⟩ := h.head
    exact ⟨fun long => reply (if_neg (by simp [within, long])), fun fits => reply (if_pos (by simp [within, fits]))⟩
  · have reply := h.writes (row := .writeCueSlot) rfl rfl (indexBelow_u8 (by decide) n) read
    have busy := writeCueSlot_busy (n := n) (c := c) (s := s')
    have free := writeCueSlot_free (n := n) (c := c) (s := s')
    obtain ⟨rest, -, rfl⟩ := h.head
    exact ⟨fun loads loaded => reply (busy loads loaded),
      fun isFree => ⟨reply (free isFree), readCueSlot_progress read⟩⟩
  · have reply := h.writes (row := .writeNoticeConfig) rfl (index := noIndex) rfl rfl read
    obtain ⟨rest, -, rfl⟩ := h.head
    exact reply rfl
  · have fields := readNoticeConfig_fields order express safety motion link overall fits
    rw [← bytes] at fields
    refine ⟨fun code source named => ?_, fun bad => ?_⟩
    · rw [if_neg (by unfold expressNone; omega)] at fields
      have reply := h.writes (row := .writeNoticeConfig) rfl (index := noIndex) rfl rfl fields
      obtain ⟨rest, -, rfl⟩ := h.head
      exact ⟨_, reply rfl, rfl, rfl, rfl, rfl, rfl, finOf_express source, sourcesOfBits_getElem wake⟩
    · rw [if_pos (by unfold expressNone; omega)] at fields
      exact h.writes_unread (row := .writeNoticeConfig) rfl (index := noIndex) rfl rfl fields
  · have reply := h.writes (row := .writeThresholds) rfl (index := noIndex) rfl rfl read
    obtain ⟨rest, -, rfl⟩ := h.head
    exact reply rfl

end Sys2Proof.Machine
end

section
/-! PROOFS. O36: requests that the part does not have, and bodies of another form: how READs, WRITEs and the other
requests are refused (R23, R185, R186). -/

namespace Sys2Proof.Machine

/-! ## READs (R23, R186) -/

/-- The READ of a selector, with the index that it takes. -/
def ReadsAt {α : Type} (row : Instr) (selector : Byte) (index : Byte → Option α) : Prop :=
  (∀ tag rest, (⟨tag, 0x01#8, selector :: rest⟩ : Request).row = row)
    ∧ ∃ record after, ∀ s, exec row s = .next (execute row (runRead index record after) s)

/-- An index that runs over count numbers from a first one. -/
def Ranges {α : Type} (index : Byte → Option α) (first count : Nat) : Prop :=
  (∀ b : Byte, first ≤ b.toNat → b.toNat < first + count → (index b).isSome = true)
    ∧ ∀ b : Byte, b.toNat < first ∨ first + count ≤ b.toNat → index b = none

theorem finOf_isSome {n v : Nat} (below : v < n) : (finOf n v).isSome = true := by
  unfold finOf
  rw [dif_pos below]
  rfl

theorem finOf_beyond {n v : Nat} (beyond : n ≤ v) : finOf n v = none := dif_neg (Nat.not_lt.mpr beyond)

theorem ranges_below (n : Nat) : Ranges (indexBelow n) 0 n :=
  ⟨fun _ _ below => finOf_isSome (by omega), fun _ beyond => finOf_beyond (by omega)⟩

theorem ranges_curve : Ranges curveIndex 7 3 := by
  refine ⟨fun b low high => ?_, fun b beyond => ?_⟩ <;> unfold curveIndex
  · rw [if_neg (by omega)]
    exact finOf_isSome (by omega)
  · split
    · rfl
    · exact finOf_beyond (by omega)

theorem ranges_port : Ranges portIndex 0 2 := by unfold Ranges; decide

theorem readFlag_unread {rest : List Byte} (notClear : rest ≠ [0x00#8]) (notKeep : rest ≠ [0x01#8]) :
    finished (readFlag rest) = none := by
  match rest with
  | [] => rfl
  | [b] =>
    simp only [readFlag]
    rw [if_neg fun zero => notClear (congrArg (· :: []) zero), if_neg fun one => notKeep (congrArg (· :: []) one)]
    rfl
  | b :: c :: rest =>
    simp only [readFlag]
    split_ifs <;> rfl

section
variable {α : Type} {row : Instr} {selector b : Byte} {index : Byte → Option α} {s s' : State} {tag : Byte}
  {rest : List Byte}

/-- A READ of an index that the selector does not have is answered UNKNOWN. -/
theorem ReadsAt.beyond (reads : ReadsAt row selector index) (beyond : index b = none)
    (h : Takes s ⟨tag, 0x01#8, selector :: b :: rest⟩ s') : Replies row s tag .unknown [] s' := by
  obtain ⟨isRow, record, after, runs⟩ := reads
  refine h.replies (isRow tag _) (runs s) ?_
  unfold runRead
  dsimp only
  rw [beyond]
  rfl

/-- A READ of the selector alone is answered INVALID. -/
theorem ReadsAt.alone (reads : ReadsAt row selector index) (h : Takes s ⟨tag, 0x01#8, [selector]⟩ s') :
    Replies row s tag .invalid [] s' := by
  obtain ⟨isRow, record, after, runs⟩ := reads
  exact h.replies (isRow tag _) (runs s) rfl

/-- A READ of an index in range with no clear flag of the two behind it is answered INVALID. -/
theorem ReadsAt.badFlag (reads : ReadsAt row selector index) (inRange : (index b).isSome = true)
    (notClear : rest ≠ [0x00#8]) (notKeep : rest ≠ [0x01#8])
    (h : Takes s ⟨tag, 0x01#8, selector :: b :: rest⟩ s') : Replies row s tag .invalid [] s' := by
  obtain ⟨isRow, record, after, runs⟩ := reads
  obtain ⟨i, at'⟩ := Option.isSome_iff_exists.mp inRange
  refine h.replies (isRow tag _) (runs s) ?_
  unfold runRead
  dsimp only
  rw [at', readFlag_unread notClear notKeep]
  rfl

end

/-! ## WRITEs (R185, R186) -/

/-- The WRITE of a selector, with the index that it takes. -/
def WritesAt {α : Type} (row : Instr) (selector : Byte) (index : Byte → Option α) : Prop :=
  (∀ tag rest, (⟨tag, 0x02#8, selector :: rest⟩ : Request).row = row)
    ∧ ∃ (β : Type) (reader : α → List Byte → Option β) (write : α → β → State → Answer),
      ∀ s, exec row s = .next (execute row (runWrite index reader write) s)

section
variable {α : Type} {row : Instr} {selector b : Byte} {index : Byte → Option α} {s s' : State} {tag : Byte}
  {record : List Byte}

theorem WritesAt.beyond (writes : WritesAt row selector index) (beyond : index b = none)
    (h : Takes s (writeRequest tag selector b record) s') : Replies row s tag .unknown [] s' := by
  obtain ⟨isRow, β, reader, write, runs⟩ := writes
  exact h.writes_beyond (isRow tag _) (runs s) beyond

end

/-! ## Requests with a body of their own (R185) -/

/-- The request command of a row answers a body INVALID, and changes nothing. -/
def Rejects (code : Byte) (row : Instr) (body : List Byte) : Prop :=
  ∀ ⦃s s' : State⦄ ⦃tag : Byte⦄, Takes s ⟨tag, code, body⟩ s' → Replies row s tag .invalid [] s'

section
variable {code : Byte} {row : Instr} {body : List Byte}

theorem rejects_unread {α : Type} {reader : List Byte → Option α} {run : α → State → Answer}
    (isRow : ∀ tag, (⟨tag, code, body⟩ : Request).row = row)
    (runs : ∀ s, exec row s = .next (execute row (withBody reader run) s)) (unread : reader body = none) :
    Rejects code row body := fun s _ tag h => by
  refine h.replies (isRow tag) (runs s) ?_
  unfold withBody
  rw [unread]
  rfl

/-- A request that takes no body. -/
theorem rejects_anyBody {run : State → Answer} (isRow : ∀ tag, (⟨tag, code, body⟩ : Request).row = row)
    (runs : ∀ s, exec row s = .next (execute row (withoutBody run) s)) (carries : body ≠ []) :
    Rejects code row body := fun s _ tag h => h.replies (isRow tag) (runs s) (if_neg carries)

theorem rejects_erase (unread : oneFin 32 body = none) : Rejects 0x0C#8 .erase body := fun s s' tag h => by
  have taken : takeRequest .erase s = some (⟨tag, 0x0C#8, body⟩, s') := takeRequest_of_takes h
  refine congrArg Host.Outcome.next ?_
  unfold eraseRequest
  rw [taken]
  dsimp only
  rw [unread]

theorem rejects_reset (carries : body ≠ []) : Rejects 0x1D#8 .reset body := fun s s' tag h => by
  have taken : takeRequest .reset s = some (⟨tag, 0x1D#8, body⟩, s') := takeRequest_of_takes h
  refine congrArg Host.Outcome.next ?_
  unfold resetRequest
  rw [taken]
  exact if_neg carries

end

end Sys2Proof.Machine
end

section
/-! PROOFS. O36: the rows of requests that the part does not have, and the lengths of the bodies that read (R23, R185,
R186). -/

namespace Sys2Proof.Machine

/-! ## Requests that the part does not have (R185, R186) -/

/-- A code outside the catalogue. -/
theorem row_of_unknownCode {tag code : Byte} {body : List Byte} (unknown : code = 0x00#8 ∨ 0x1E ≤ code.toNat) :
    (⟨tag, code, body⟩ : Request).row = .unknownRequest := by
  obtain rfl | beyond := unknown
  · rfl
  · have other : ∀ b : Byte, b.toNat < 0x1E → code ≠ b := fun b below same => by
      rw [same] at beyond
      omega
    have length : catalogue.length = 27 := rfl
    unfold Request.row
    dsimp only
    rw [if_neg (other _ (by decide)), if_neg (other _ (by decide)), if_neg (other _ (by decide)),
      List.getElem?_eq_none (by omega)]
    rfl

/-- A READ of a selector that does not exist. -/
theorem row_of_readBeyond {tag selector : Byte} {rest : List Byte} (beyond : 0x18 ≤ selector.toNat) :
    (⟨tag, 0x01#8, selector :: rest⟩ : Request).row = .unknownRequest := by
  have none : selectorOf (selector :: rest) = none := List.getElem?_eq_none beyond
  unfold Request.row
  rw [if_pos rfl, none]

theorem row_of_write (tag : Byte) (body : List Byte) :
    (⟨tag, 0x02#8, body⟩ : Request).row =
      ((selectorOf body).bind SelectorRows.write).getD .writeReadOnlySelector := by
  unfold Request.row
  dsimp only
  rw [if_neg (by decide), if_pos rfl]
  cases selectorOf body with
  | none => rfl
  | some rows =>
    obtain ⟨read, write⟩ := rows
    cases write <;> rfl

/-- A WRITE of a selector that is read only or does not exist. -/
theorem row_of_writeReadOnly {tag selector : Byte} {rest : List Byte}
    (readOnly : selector = 0x06#8 ∨ 0x0B ≤ selector.toNat) :
    (⟨tag, 0x02#8, selector :: rest⟩ : Request).row = .writeReadOnlySelector := by
  have none : (selectorOf (selector :: rest)).bind SelectorRows.write = none := by
    obtain rfl | beyond := readOnly
    · rfl
    · by_cases exists_ : selector.toNat < 24
      · have readOnly : ∀ n < 24, 11 ≤ n → (selectorTable[n]?).bind SelectorRows.write = none := by decide
        exact readOnly _ exists_ beyond
      · have absent : selectorOf (selector :: rest) = none := List.getElem?_eq_none (Nat.le_of_not_lt exists_)
        rw [absent]
        rfl
  rw [row_of_write, none]
  rfl

section
variable {s s' : State} {tag code : Byte} {body : List Byte} {row : Instr} (h : Takes s ⟨tag, code, body⟩ s')
  (isRow : (⟨tag, code, body⟩ : Request).row = row) (runs : exec row s = .next (execute row unknownAnswer s))
include h isRow runs

theorem Takes.unknown (carries : (code ≠ 0x01#8 ∧ code ≠ 0x02#8) ∨ body ≠ []) :
    Replies row s tag .unknown [] s' := by
  refine h.replies isRow runs (if_neg ?_)
  rintro ⟨write | write, empty⟩
  · exact carries.elim (fun other => other.1 write) fun some_ => some_ empty
  · exact carries.elim (fun other => other.2 write) fun some_ => some_ empty

/-- A READ or WRITE of no selector. -/
theorem Takes.unselected (write : code = 0x01#8 ∨ code = 0x02#8) (empty : body = []) :
    Replies row s tag .invalid [] s' := h.replies isRow runs (if_pos ⟨write, empty⟩)

end

/-! ## Fields that do not read (R23) -/

theorem readFin_beyond {n : Nat} {b : Byte} (beyond : n ≤ b.toNat) (rest : List Byte) : readFin n (b :: rest) = none := by
  unfold readFin
  dsimp only
  rw [finOf_beyond beyond]
  rfl

/-- A set of axes with a bit that names no axis. -/
theorem readAxisSet_beyond {mask : Nat} (names : 2 ^ 10 ≤ mask) (fits : mask < 2 ^ 16) (rest : List Byte) :
    readAxisSet (natBE 2 mask ++ rest) = none := by
  unfold readAxisSet
  rw [readNat_append (by omega)]
  exact if_neg (Nat.not_lt.mpr names)

/-! ## The lengths of bodies that read (R23) -/

/-- A field of n bytes: what it reads stands in the first n bytes. -/
def Consumes {α : Type} (n : Nat) (item : List Byte → Option (α × List Byte)) : Prop :=
  ∀ ⦃bs a rest⦄, item bs = some (a, rest) → bs.length = n + rest.length

theorem consumes_readNat (n : Nat) : Consumes n (readNat n) := fun bs a rest read => by
  unfold readNat at read
  split_ifs at read with short
  obtain ⟨rfl, rfl⟩ := Prod.mk.inj (Option.some.inj read)
  rw [List.length_drop]
  omega

theorem consumes_readInt (n : Nat) : Consumes n (readInt n) := fun bs a rest read => by
  unfold readInt at read
  split_ifs at read with short
  obtain ⟨rfl, rfl⟩ := Prod.mk.inj (Option.some.inj read)
  rw [List.length_drop]
  omega

theorem consumes_readName {α : Type} (names : List α) : Consumes 1 (readName names)
  | [], _, _, read => by cases read
  | b :: bs, a, rest, read => by
    obtain ⟨name, -, same⟩ := Option.map_eq_some_iff.mp read
    obtain ⟨rfl, rfl⟩ := Prod.mk.inj same
    exact Nat.add_comm _ _

theorem consumes_readFin (n : Nat) : Consumes 1 (readFin n)
  | [], _, _, read => by cases read
  | b :: bs, a, rest, read => by
    obtain ⟨i, -, same⟩ := Option.map_eq_some_iff.mp read
    obtain ⟨rfl, rfl⟩ := Prod.mk.inj same
    exact Nat.add_comm _ _

theorem consumes_readAxisSet : Consumes 2 readAxisSet := fun bs a rest read => by
  unfold readAxisSet at read
  split at read
  · next n rest' number =>
    split_ifs at read
    obtain ⟨-, rfl⟩ := Prod.mk.inj (Option.some.inj read)
    exact consumes_readNat 2 number
  · cases read

theorem consumes_readSourceSet : Consumes 3 readSourceSet := fun bs a rest read => by
  unfold readSourceSet at read
  split at read
  · next n rest' number =>
    split_ifs at read
    obtain ⟨-, rfl⟩ := Prod.mk.inj (Option.some.inj read)
    exact consumes_readNat 3 number
  · cases read

/-- A field with a further test is as long as the field. -/
theorem consumes_readMask : Consumes 2 readMask := fun bs a rest read => by
  unfold readMask at read
  split at read
  · next m rest' set =>
    split_ifs at read
    obtain ⟨-, rfl⟩ := Prod.mk.inj (Option.some.inj read)
    exact consumes_readAxisSet set
  · cases read

/-- Items read one after another. -/
theorem consumes_readMany {α : Type} {width : Nat} {item : List Byte → Option (α × List Byte)} (each : Consumes width item) :
    ∀ n, Consumes (n * width) (readMany item n)
  | 0, bs, a, rest, read => by
    obtain ⟨-, rfl⟩ := Prod.mk.inj (Option.some.inj read)
    omega
  | n + 1, bs, as, rest, read => by
    obtain ⟨⟨a, bs1⟩, first, read⟩ := Option.bind_eq_some_iff.mp read
    obtain ⟨⟨as', bs2⟩, others, read⟩ := Option.bind_eq_some_iff.mp read
    obtain ⟨-, rfl⟩ := Prod.mk.inj (Option.some.inj read)
    have one := each first
    have more := consumes_readMany each n others
    rw [Nat.succ_mul]
    omega

/-- A body of one field that reads is as long as the field. -/
theorem unread_of_length {α : Type} {n : Nat} {item : List Byte → Option (α × List Byte)} (field : Consumes n item)
    {body : List Byte} (length : body.length ≠ n) : finished (item body) = none := by
  rw [Option.eq_none_iff_forall_ne_some]
  intro a read
  exact length (field (finished_eq_some read))

theorem readArm_unread {body : List Byte} (length : body.length ≠ 3) : readArm body = none := by
  rw [Option.eq_none_iff_forall_ne_some]
  intro a read
  obtain ⟨⟨t, bs1⟩, take, read⟩ := Option.bind_eq_some_iff.mp read
  obtain ⟨⟨m, bs2⟩, mask, read⟩ := Option.bind_eq_some_iff.mp read
  obtain ⟨-, rfl⟩ := Prod.mk.inj (Option.some.inj (finished_eq_some read))
  have one := consumes_readFin 32 take
  have two := consumes_readAxisSet mask
  rw [List.length_nil] at two
  omega

theorem readPageBody_unread {body : List Byte} (length : body.length ≠ 3) : readPageBody body = none := by
  rw [Option.eq_none_iff_forall_ne_some]
  intro a read
  obtain ⟨⟨t, bs1⟩, take, read⟩ := Option.bind_eq_some_iff.mp read
  obtain ⟨⟨o, bs2⟩, ordinal, read⟩ := Option.bind_eq_some_iff.mp read
  obtain ⟨-, rfl⟩ := Prod.mk.inj (Option.some.inj (finished_eq_some read))
  have one := consumes_readFin 32 take
  have two := consumes_readNat 2 ordinal
  rw [List.length_nil] at two
  omega

/-- The fingerprints that a mask asks for: none or two bytes for each lens axis. -/
theorem readPrints_shortens {mask : FlagSet 10} {bs rest : List Byte} {prints : Vector (Option (BitVec 16)) 3}
    (read : readPrints mask bs = some (prints, rest)) : rest.length ≤ bs.length := by
  have one : ∀ (asked : Prop) [Decidable asked] (bs rest : List Byte) (p : Option (BitVec 16)),
      (if asked then (readNat 2 bs).map fun (n, bs) => (some (BitVec.ofNat 16 n), bs) else some (none, bs)) =
        some (p, rest) → rest.length ≤ bs.length := by
    intro asked _ bs rest p read
    split_ifs at read
    · obtain ⟨⟨n, bs'⟩, number, same⟩ := Option.map_eq_some_iff.mp read
      obtain ⟨-, rfl⟩ := Prod.mk.inj same
      have two := consumes_readNat 2 number
      omega
    · obtain ⟨-, rfl⟩ := Prod.mk.inj (Option.some.inj read)
      exact Nat.le_refl _
  obtain ⟨⟨a, bs1⟩, first, read⟩ := Option.bind_eq_some_iff.mp read
  obtain ⟨⟨b, bs2⟩, second, read⟩ := Option.bind_eq_some_iff.mp read
  obtain ⟨⟨c, bs3⟩, third, read⟩ := Option.bind_eq_some_iff.mp read
  obtain ⟨-, rfl⟩ := Prod.mk.inj (Option.some.inj read)
  have shorter := one _ _ _ _ first
  have shorter' := one _ _ _ _ second
  have shorter'' := one _ _ _ _ third
  omega

theorem readLoadBegin_short {body : List Byte} (short : body.length < 7) : readLoadBegin body = none := by
  rw [Option.eq_none_iff_forall_ne_some]
  intro a read
  obtain ⟨⟨t, bs1⟩, take, read⟩ := Option.bind_eq_some_iff.mp read
  obtain ⟨⟨m, bs2⟩, mask, read⟩ := Option.bind_eq_some_iff.mp read
  obtain ⟨⟨prints, bs3⟩, lens, read⟩ := Option.bind_eq_some_iff.mp read
  obtain ⟨⟨n, bs4⟩, start, read⟩ := Option.bind_eq_some_iff.mp read
  have one := consumes_readFin 32 take
  have two := consumes_readMask mask
  have shorter := readPrints_shortens lens
  have four := consumes_readNat 4 start
  omega

/-- The byte that a number of one byte is read from. -/
theorem readNat_one_eq_some {bs rest : List Byte} {n : Nat} (read : readNat 1 bs = some (n, rest)) :
    ∃ b, bs = b :: rest ∧ n = b.toNat := by
  cases bs with
  | nil => cases read
  | cons b tail =>
    rw [readNat_byte] at read
    obtain ⟨rfl, rfl⟩ := Prod.mk.inj (Option.some.inj read)
    exact ⟨b, rfl, rfl⟩

/-- The byte that a numbered argument is read from. -/
theorem readFin_eq_some {n : Nat} {bs rest : List Byte} {i : Fin n} (read : readFin n bs = some (i, rest)) :
    ∃ b, bs = b :: rest := by
  cases bs with
  | nil => cases read
  | cons b tail =>
    obtain ⟨j, -, same⟩ := Option.map_eq_some_iff.mp read
    exact ⟨b, congrArg (b :: ·) (Prod.mk.inj same).2⟩

theorem readLoadPage_unread {body : List Byte}
    (length : body.length < 3 ∨ body.length ≠ 3 + 4 * (body.getD 2 0x00#8).toNat) : readLoadPage body = none := by
  rw [Option.eq_none_iff_forall_ne_some]
  intro a read
  obtain ⟨⟨t, bs1⟩, take, read⟩ := Option.bind_eq_some_iff.mp read
  obtain ⟨⟨k, bs2⟩, samples, read⟩ := Option.bind_eq_some_iff.mp read
  obtain ⟨⟨n, bs3⟩, count, read⟩ := Option.bind_eq_some_iff.mp read
  obtain ⟨⟨words, bs4⟩, each, read⟩ := Option.bind_eq_some_iff.mp read
  obtain ⟨-, rfl⟩ := Prod.mk.inj (Option.some.inj (finished_eq_some read))
  obtain ⟨a, rfl⟩ := readFin_eq_some take
  obtain ⟨b, rfl, -⟩ := readNat_one_eq_some samples
  obtain ⟨c, rfl, rfl⟩ := readNat_one_eq_some count
  have rest := consumes_readMany (consumes_readInt 4) _ each
  simp only [List.length_cons, List.length_nil, List.getD_cons_succ, List.getD_cons_zero] at length rest
  omega

theorem readCurveLoad_short {body : List Byte} (short : body.length < 6) : readCurveLoad body = none := by
  cases body with
  | nil => rfl
  | cons b rest =>
    rw [Option.eq_none_iff_forall_ne_some]
    intro a read
    obtain ⟨i, -, read⟩ := Option.bind_eq_some_iff.mp read
    obtain ⟨c, curve, -⟩ := Option.bind_eq_some_iff.mp read
    obtain ⟨⟨n, bs1⟩, identity, curve⟩ := Option.bind_eq_some_iff.mp curve
    obtain ⟨⟨m, bs2⟩, count, -⟩ := Option.bind_eq_some_iff.mp curve
    have four := consumes_readNat 4 identity
    have one := consumes_readNat 1 count
    rw [List.length_cons] at short
    omega

end Sys2Proof.Machine
end

section
/-! PROOFS. O36: the requests that are answered UNKNOWN or INVALID, row by row (R23, R185, R186). -/

namespace Sys2Proof.Machine

/-- What holds of every entry of a table of pairs, triples or quadruples holds of the names of an entry. -/
theorem forall_pairs {α β : Type} {table : List (α × β)} {P : α → β → Prop} (all : ∀ x ∈ table, P x.1 x.2) :
    ∀ a b, (a, b) ∈ table → P a b := fun a b mem => all (a, b) mem

theorem forall_triples {α β γ : Type} {table : List (α × β × γ)} {P : α → β → γ → Prop}
    (all : ∀ x ∈ table, P x.1 x.2.1 x.2.2) : ∀ a b c, (a, b, c) ∈ table → P a b c := fun a b c mem => all (a, b, c) mem

theorem forall_quadruples {α β γ δ : Type} {table : List (α × β × γ × δ)} {P : α → β → γ → δ → Prop}
    (all : ∀ x ∈ table, P x.1 x.2.1 x.2.2.1 x.2.2.2) : ∀ a b c d, (a, b, c, d) ∈ table → P a b c d :=
  fun a b c d mem => all (a, b, c, d) mem

/-! ## The READs and WRITEs of the catalogue (R186) -/

/-- The READs of the selectors with an index, with its first number and how many there are. -/
def IndexedRead (row : Instr) (selector : Byte) (first count : Nat) : Prop :=
  ∃ (α : Type) (index : Byte → Option α), ReadsAt row selector index ∧ Ranges index first count

theorem indexedRead_below {row : Instr} {selector : Byte} {n : Nat} (reads : ReadsAt row selector (indexBelow n)) :
    IndexedRead row selector 0 n := ⟨_, _, reads, ranges_below n⟩

theorem indexedReads :
    ∀ x ∈ [(Instr.readAxis, 0x00#8, 0, 10), (.readZone, 0x02#8, 0, 24), (.readCurve, 0x06#8, 7, 3),
        (.readSubject, 0x07#8, 0, 4), (.readCueSlot, 0x08#8, 0, 8), (.readPlayer, 0x0F#8, 0, 10),
        (.readTake, 0x11#8, 0, 32), (.readPort, 0x13#8, 0, 2), (.readNotices, 0x15#8, 0, 17)],
      IndexedRead x.1 x.2.1 x.2.2.1 x.2.2.2 := by
  simp only [List.forall_mem_cons, List.not_mem_nil, false_imp_iff, implies_true, and_true]
  refine ⟨indexedRead_below ?_, indexedRead_below ?_, ⟨_, curveIndex, ?_, ranges_curve⟩, indexedRead_below ?_,
    indexedRead_below ?_, indexedRead_below ?_, indexedRead_below ?_, ⟨_, portIndex, ?_, ranges_port⟩,
    indexedRead_below ?_⟩ <;> exact ⟨fun _ _ => rfl, _, _, fun _ => rfl⟩

theorem indexedReads_fromZero :
    ∀ x ∈ [(Instr.readAxis, 0x00#8, 10), (.readZone, 0x02#8, 24), (.readSubject, 0x07#8, 4), (.readCueSlot, 0x08#8, 8),
        (.readPlayer, 0x0F#8, 10), (.readTake, 0x11#8, 32), (.readPort, 0x13#8, 2), (.readNotices, 0x15#8, 17)],
      IndexedRead x.1 x.2.1 0 x.2.2 := by
  simp only [List.forall_mem_cons, List.not_mem_nil, false_imp_iff, implies_true, and_true]
  refine ⟨?_, ?_, ?_, ?_, ?_, ?_, ?_, ?_⟩ <;> exact indexedReads (_, _, _, _) (by decide)

theorem plainReads :
    ∀ x ∈ [(Instr.readGeometry, 0x01#8), (.readStopConfig, 0x03#8), (.readGesture, 0x04#8), (.readLampMap, 0x05#8),
        (.readNoticeConfig, 0x09#8), (.readThresholds, 0x0A#8), (.readPose, 0x0B#8), (.readEvaluation, 0x0C#8),
        (.readSpeedScale, 0x0D#8), (.readStopStatus, 0x0E#8), (.readRecorder, 0x10#8), (.readFreeCount, 0x12#8),
        (.readLensStatus, 0x14#8), (.readGateCounters, 0x16#8), (.readMgmtCounters, 0x17#8)],
      ReadsAt x.1 x.2 noIndex := by
  simp only [List.forall_mem_cons, List.not_mem_nil, false_imp_iff, implies_true, and_true]
  refine ⟨?_, ?_, ?_, ?_, ?_, ?_, ?_, ?_, ?_, ?_, ?_, ?_, ?_, ?_, ?_⟩ <;>
    exact ⟨fun _ _ => rfl, _, _, fun _ => rfl⟩

theorem indexedWrites :
    ∀ x ∈ [(Instr.writeAxis, 0x00#8, 10), (.writeZone, 0x02#8, 24), (.writeSubject, 0x07#8, 4),
        (.writeCueSlot, 0x08#8, 8)], WritesAt x.1 x.2.1 (indexBelow x.2.2) := by
  simp only [List.forall_mem_cons, List.not_mem_nil, false_imp_iff, implies_true, and_true]
  refine ⟨?_, ?_, ?_, ?_⟩ <;>
    exact ⟨fun _ _ => rfl, _, _, _, fun _ => rfl⟩

/-- A WRITE of the selector alone is answered INVALID. -/
theorem writeAlone_rejected :
    ∀ x ∈ [(Instr.writeAxis, 0x00#8), (.writeGeometry, 0x01#8), (.writeZone, 0x02#8), (.writeStopConfig, 0x03#8),
        (.writeGesture, 0x04#8), (.writeLampMap, 0x05#8), (.writeSubject, 0x07#8), (.writeCueSlot, 0x08#8),
        (.writeNoticeConfig, 0x09#8), (.writeThresholds, 0x0A#8)], Rejects 0x02#8 x.1 [x.2] := by
  simp only [List.forall_mem_cons, List.not_mem_nil, false_imp_iff, implies_true, and_true]
  refine ⟨?_, ?_, ?_, ?_, ?_, ?_, ?_, ?_, ?_, ?_⟩ <;> exact fun s s' tag h => h.replies rfl rfl rfl

/-! ## The requests with a body of their own, and without one (R185) -/

theorem takeOutOfRange_rejected {number : Byte} {rest : List Byte} (beyond : 32 ≤ number.toNat) :
    ∀ x ∈ [(0x0A#8, Instr.armRecord), (0x0C#8, .erase), (0x0D#8, .lockTake), (0x0E#8, .unlockTake),
        (0x0F#8, .loadBegin), (0x10#8, .loadPage), (0x11#8, .loadEnd), (0x12#8, .readPage), (0x13#8, .cue)],
      Rejects x.1 x.2 (number :: rest) := by
  have noTake := readFin_beyond beyond rest
  have oneTake : oneFin 32 (number :: rest) = none := by
    unfold oneFin
    rw [noTake]
    rfl
  have bound : ∀ {α : Type} (f : Fin 32 × List Byte → Option α), (readFin 32 (number :: rest)).bind f = none := by
    intro α f
    rw [noTake]
    rfl
  simp only [List.forall_mem_cons, List.not_mem_nil, false_imp_iff, implies_true, and_true]
  exact ⟨rejects_unread (fun _ => rfl) (fun _ => rfl) (bound _), rejects_erase oneTake,
    rejects_unread (fun _ => rfl) (fun _ => rfl) oneTake, rejects_unread (fun _ => rfl) (fun _ => rfl) oneTake,
    rejects_unread (fun _ => rfl) (fun _ => rfl) (bound _), rejects_unread (fun _ => rfl) (fun _ => rfl) (bound _),
    rejects_unread (fun _ => rfl) (fun _ => rfl) oneTake, rejects_unread (fun _ => rfl) (fun _ => rfl) (bound _),
    rejects_unread (fun _ => rfl) (fun _ => rfl) oneTake⟩

theorem wrongLength_rejected {body : List Byte} :
    ∀ x ∈ [(0x03#8, Instr.stop, 1), (0x05#8, .setScale, 1), (0x0A#8, .armRecord, 3), (0x0C#8, .erase, 1),
        (0x0D#8, .lockTake, 1), (0x0E#8, .unlockTake, 1), (0x11#8, .loadEnd, 1), (0x12#8, .readPage, 3),
        (0x13#8, .cue, 1), (0x18#8, .followOn, 1), (0x1A#8, .clearNotice, 3)],
      body.length ≠ x.2.2 → Rejects x.1 x.2.1 body := by
  have noFin : ∀ n, body.length ≠ 1 → oneFin n body = none := fun n length =>
    unread_of_length (consumes_readFin n) length
  simp only [List.forall_mem_cons, List.not_mem_nil, false_imp_iff, implies_true, and_true]
  exact ⟨fun length => rejects_unread (fun _ => rfl) (fun _ => rfl) (unread_of_length (consumes_readName _) length),
    fun length => rejects_unread (fun _ => rfl) (fun _ => rfl) (unread_of_length (consumes_readNat 1) length),
    fun length => rejects_unread (fun _ => rfl) (fun _ => rfl) (readArm_unread length),
    fun length => rejects_erase (noFin 32 length),
    fun length => rejects_unread (fun _ => rfl) (fun _ => rfl) (noFin 32 length),
    fun length => rejects_unread (fun _ => rfl) (fun _ => rfl) (noFin 32 length),
    fun length => rejects_unread (fun _ => rfl) (fun _ => rfl) (noFin 32 length),
    fun length => rejects_unread (fun _ => rfl) (fun _ => rfl) (readPageBody_unread length),
    fun length => rejects_unread (fun _ => rfl) (fun _ => rfl) (noFin 32 length),
    fun length => rejects_unread (fun _ => rfl) (fun _ => rfl) (noFin 4 length),
    fun length => rejects_unread (fun _ => rfl) (fun _ => rfl) (unread_of_length consumes_readSourceSet length)⟩

theorem anyBody_rejected {body : List Byte} (carries : body ≠ []) :
    ∀ x ∈ [(0x04#8, Instr.clearStop), (0x06#8, .park), (0x07#8, .wake), (0x08#8, .lockConfig),
        (0x09#8, .unlockConfig), (0x0B#8, .stopRecord), (0x14#8, .go), (0x15#8, .resume), (0x16#8, .release),
        (0x19#8, .followOff), (0x1B#8, .linkTestStart), (0x1C#8, .linkTestStop), (0x1D#8, .reset)],
      Rejects x.1 x.2 body := by
  simp only [List.forall_mem_cons, List.not_mem_nil, false_imp_iff, implies_true, and_true]
  refine ⟨?_, ?_, ?_, ?_, ?_, ?_, ?_, ?_, ?_, ?_, ?_, ?_, rejects_reset carries⟩ <;>
    exact rejects_anyBody (fun _ => rfl) (fun _ => rfl) carries

/-- A body whose mask does not read, behind a take of any number. -/
theorem unread_of_mask {α : Type} {take : Byte} {bytes : List Byte} {f : Fin 32 × List Byte → Option α}
    (unread : ∀ t, f (t, bytes) = none) : (readFin 32 (take :: bytes)).bind f = none := by
  rw [Option.bind_eq_none_iff]
  rintro ⟨t, rest⟩ read
  obtain ⟨b, same⟩ := readFin_eq_some read
  obtain ⟨-, rfl⟩ := List.cons.inj same
  exact unread t

theorem maskOutOfRange_rejected {take : Byte} {mask : Nat} (names : 2 ^ 10 ≤ mask) (fits : mask < 2 ^ 16)
    (rest : List Byte) :
    Rejects 0x0A#8 .armRecord (take :: natBE 2 mask) ∧ Rejects 0x0F#8 .loadBegin (take :: (natBE 2 mask ++ rest)) := by
  have noSet := readAxisSet_beyond names fits
  have noMask : readMask (natBE 2 mask ++ rest) = none := by
    unfold readMask
    rw [noSet rest]
  have noSet := noSet []
  rw [List.append_nil] at noSet
  refine ⟨rejects_unread (fun _ => rfl) (fun _ => rfl) (unread_of_mask fun t => ?_),
    rejects_unread (fun _ => rfl) (fun _ => rfl) (unread_of_mask fun t => ?_)⟩ <;> dsimp only
  · rw [noSet]
    rfl
  · rw [noMask]
    rfl

/-- An axis number of CURVE_LOAD that names no lens axis. -/
theorem lensOutOfRange_rejected {axis : Byte} {rest : List Byte} (beyond : axis.toNat < 7 ∨ 10 ≤ axis.toNat) :
    Rejects 0x17#8 .curveLoad (axis :: rest) := by
  refine rejects_unread (fun _ => rfl) (fun _ => rfl) ?_
  unfold readCurveLoad
  dsimp only
  rw [ranges_curve.2 axis beyond]
  rfl

/-- Settles O36: each request that the part does not have, and each body of another form. -/
theorem unknownAndIllFormedRequestsAreAnswered : Obligations.UnknownAndIllFormedRequestsAreAnswered := by
  unfold Obligations.UnknownAndIllFormedRequestsAreAnswered
  refine fun s s' tag => ⟨fun code body unknown h => ?_,
    fun selector rest beyond h => h.unknown (row_of_readBeyond beyond) rfl (.inr (List.cons_ne_nil _ _)),
    fun selector rest readOnly h => h.unknown (row_of_writeReadOnly readOnly) rfl (.inr (List.cons_ne_nil _ _)),
    forall_triples fun x mem => ?_,
    fun index rest beyond h => ReadsAt.beyond ⟨fun _ _ => rfl, _, _, fun _ => rfl⟩ (ranges_curve.2 index beyond) h,
    forall_triples fun x mem index rest beyond h => (indexedWrites x mem).beyond (finOf_beyond beyond) h,
    forall_pairs fun x mem => ⟨fun h => (plainReads x mem).alone h,
      fun index rest notClear notKeep h => (plainReads x mem).badFlag rfl notClear notKeep h⟩,
    forall_pairs fun x mem h => writeAlone_rejected x mem h, forall_quadruples fun x mem => ?_,
    fun h => h.unselected rfl rfl (.inl rfl) rfl, fun h => h.unselected rfl rfl (.inr rfl) rfl,
    fun record => ⟨fun k unread h => ?_, fun z unread h => ?_, fun k unread h => ?_, fun n unread h => ?_⟩,
    forall_pairs fun x mem number rest beyond h => takeOutOfRange_rejected beyond x mem h,
    fun take mask rest names fits => ⟨fun h => (maskOutOfRange_rejected names fits rest).1 h,
      fun h => (maskOutOfRange_rejected names fits rest).2 h⟩,
    fun axis rest beyond h => lensOutOfRange_rejected beyond h,
    forall_triples fun x mem body length h => wrongLength_rejected x mem length h,
    fun body => ⟨fun unread h => rejects_unread (fun _ => rfl) (fun _ => rfl) unread h,
      fun unread h => rejects_unread (fun _ => rfl) (fun _ => rfl) unread h,
      fun unread h => rejects_unread (fun _ => rfl) (fun _ => rfl) unread h,
      readLoadBegin_short, readLoadPage_unread, readCurveLoad_short⟩,
    fun index record => ⟨fun unread h => ?_, fun unread h => ?_, fun unread h => ?_, fun unread h => ?_,
      fun unread h => ?_, fun unread h => ?_⟩,
    forall_pairs fun x mem body carries h => anyBody_rejected carries x mem h⟩
  · have other : code ≠ 0x01#8 ∧ code ≠ 0x02#8 := by
      refine ⟨?_, ?_⟩ <;> rintro rfl <;> exact absurd unknown (by decide)
    exact h.unknown (row_of_unknownCode unknown) rfl (.inl other)
  · obtain ⟨α, index, reads, -, outside⟩ := indexedReads_fromZero x mem
    exact fun b rest beyond h => reads.beyond (outside b (.inr (by omega))) h
  · obtain ⟨α, index, reads, inside, -⟩ := indexedReads x mem
    exact ⟨fun h => reads.alone h,
      fun b rest low high notClear notKeep h => reads.badFlag (inside b low high) notClear notKeep h⟩
  · exact h.writes_unread (row := .writeAxis) rfl rfl (indexBelow_u8 (by decide) k) unread
  · exact h.writes_unread (row := .writeZone) rfl rfl (indexBelow_u8 (by decide) z) unread
  · exact h.writes_unread (row := .writeSubject) rfl rfl (indexBelow_u8 (by decide) k) unread
  · exact h.writes_unread (row := .writeCueSlot) rfl rfl (indexBelow_u8 (by decide) n) unread
  · exact h.writes_unread (row := .writeGeometry) rfl (index := noIndex) rfl rfl unread
  · exact h.writes_unread (row := .writeStopConfig) rfl (index := noIndex) rfl rfl unread
  · exact h.writes_unread (row := .writeGesture) rfl (index := noIndex) rfl rfl unread
  · exact h.writes_unread (row := .writeLampMap) rfl (index := noIndex) rfl rfl unread
  · exact h.writes_unread (row := .writeNoticeConfig) rfl (index := noIndex) rfl rfl unread
  · exact h.writes_unread (row := .writeThresholds) rfl (index := noIndex) rfl rfl unread

end Sys2Proof.Machine
end
